-- ==== Sys2Proof/Word.lean ====
section
/-!
DEFINITION. The plain words of the model: bytes, dictionary keys and sparse tables.
-/
namespace Sys2Proof

/-- One byte. -/
abbrev Byte := BitVec 8

/-- A dictionary key: index × 256 + sub-index, as `2C10:03` is written 0x2C1003 (R28). -/
abbrev Key := Nat

/-- Sparse data by number: pairs with strictly rising first components. -/
abbrev Tab (α : Type) := List (Nat × α)

/-- `n` zero bytes. -/
def zeros (n : Nat) : List Byte := List.replicate n 0

end Sys2Proof
end

