-- ==== Sys2Proof/Syntax.lean ====
section
/-!
DEFINITION. The commands of the NZ-8640: one constructor of `Instr` for each row of spec/opcode_table.json.
The table gives a row no operand bits, so the operands are the model's: what a request, a frame or a pin event
carries, and what the device samples at that event. The first operand `dt` of every command is the time that has
passed since the command before it, in ticks of 0.8 ns (assumption log 2).
-/
namespace Sys2Proof

/-- Who sends a dictionary request: the layout of 2010:08 (R51). `kind` 1 Ledger IPv4, 2 Ledger IPv6, 3 CAN FD, 4 Jenyn. -/
structure Peer where
  kind : Nat := 1
  can  : Nat := 0
  port : Nat := 0
  addr : Nat := 0
deriving DecidableEq, Repr

/-- The header of a dictionary request, less its OP, and how it arrived (R53 to R57, R528). `crc` is the CRC field, none where it holds the right
value. `rsv` is the reserved fields, from the lowest. `ledgerReq` and `jenynReq` of Machine/Wire.lean read it from the bytes of a frame. -/
structure Req where
  peer    : Peer
  /-- Switch port on which the datagram arrived, and its destination UDP port (R53). -/
  arrPort : Nat := 0
  dstUdp  : Nat := 30511
  reqId   : Nat := 0
  magic   : Nat := 0x444C
  crc     : Option Nat := none
  /-- The frame has fewer than 20 bytes (R53). -/
  short   : Bool := false
  /-- PAYLOAD_LEN less the bytes between header and CRC (R55). -/
  lenOff  : Int := 0
  status  : Nat := 0
  more    : Bool := false
  version : Nat := 1
  rsv     : Nat := 0
  resp    : Bool := false
deriving DecidableEq, Repr

/-- A PTP event message as received: sender's port identity, sequence, origin time and correction in 2^-16 ns,
logMessageInterval, domain and, in answers, the requesting port identity (IEEE 1588-2019, R101). -/
structure PtpMsg where
  src    : Nat
  seq    : Nat
  origin : Int
  corr   : Int := 0
  logInt : Int := 0
  domain : Nat := 0
  asked  : Nat := 0
deriving DecidableEq, Repr

/-- An Announce: the data set that the BMCA compares, and what it carries of the time (R101, R104, R105). `src` is the sender's portIdentity and
`gm` the grandmasterIdentity, their octets read as one number, first octet highest. -/
structure Announce where
  src       : Nat
  seq       : Nat
  domain    : Nat
  priority1 : Nat
  clkClass  : Nat
  accuracy  : Nat
  variance  : Nat
  priority2 : Nat
  gm        : Nat
  steps     : Nat
  utc       : Int
  utcValid  : Bool
  timeSource : Nat := 0xA0
deriving DecidableEq, Repr

/-- What an ECC check found: nothing, an error it corrected, or one it could not correct (R541, R542). -/
inductive Ecc where
  | clean | corrected | uncorrectable
deriving DecidableEq, Repr

/-- What a DRAM region held whose content could not be corrected (R545): the staged change set, a segment of the capture memory, or what is lost
without further effect or rewritten from a live table. -/
inductive DramUse where
  | other | changeSet | capture (segment : Nat)
deriving DecidableEq, Repr

/-- One item of a reservation request, field by field (R247). -/
structure ResItem where
  stop  : Nat
  start : Nat
  group : Nat
  arc   : Nat
  kind  : Nat := 0
  seg   : Nat := 0
  rsv   : Nat := 0
deriving DecidableEq, Repr

/-- A reservation request (R246) less its OP. `length` is the number of bytes received and `rsv` the reserved fields. -/
structure ResReq where
  magic   : Nat := 0x5652
  version : Nat := 1
  rsv     : Nat := 0
  slot    : Nat := 0xFF
  path    : Nat
  count   : Nat
  tag     : Nat := 0
  stepLow : Nat
  baseS   : Nat
  length  : Nat
  items   : List ResItem
deriving DecidableEq, Repr

/-- A frame as a port receives it (R374): the bytes from the destination address to the FCS, and whether the PCS found no error in it. `fill` is the
level of the ingress buffer with the frame in it (R373). -/
structure Frame where
  data  : List Byte
  pcsOk : Bool := true
  fill  : Nat := 0
deriving DecidableEq, Repr

/-- What one channel latches at the sample nearest to an epoch (R145): the pseudorange in m and the carrier phase in cycles at the input of the
device, the time of the sample less the epoch instant in ps, and the health mark of the satellite's broadcast data. -/
structure ChanSample where
  chan      : Nat
  pr        : Rat
  carrier   : Rat
  offPs     : Int := 0
  unhealthy : Bool := false
deriving DecidableEq, Repr

/-- What one band-antenna pair gives at a moment (R126 to R128): the in-band power at the AGC and the power that engaged notches removed, each
as a ratio to the factory noise-only power; the squared magnitudes of the samples taken since the last such moment, in order; and for each
notch the frequency of its component with its level over the noise floor in 0.1 dB. -/
structure BandSample where
  power   : Rat
  notched : Rat := 0
  mags2   : List Nat := []
  parts   : List (Int × Int) := []
deriving DecidableEq, Repr

/-- A satellite in view: system, number, elevation in 0.1°, the signal codes it sends, and the unit vector to it in ECEF (R135). -/
structure SkySat where
  sys  : Nat
  sat  : Nat
  elev : Int
  sigs : List Nat
  dir  : List Rat
deriving DecidableEq, Repr

/-- The sums of a channel's seven correlators over an integration, each I and Q: very early, early, prompt, late, very late, noise and data. -/
structure Corr where
  ve : Int × Int := (0, 0)
  e  : Int × Int
  p  : Int × Int
  l  : Int × Int
  vl : Int × Int := (0, 0)
  n  : Int × Int
  d  : Int × Int := (0, 0)
deriving DecidableEq, Repr

/-- What the broadcast data and the elevation give of a satellite for the time solution (R163): ECEF in m at its transmit time as received at
the antenna, its clock offset in m, the broadcast ionosphere model's delay on L1 in m, and its elevation in 0.1°. -/
structure SkyPos where
  sys  : Nat
  sat  : Nat
  x    : Rat
  y    : Rat
  z    : Rat
  clk  : Rat := 0
  iono : Rat := 0
  elev : Int
deriving DecidableEq, Repr

/-- What decoded navigation data adds to the epoch at a whole second (R163, R88): the satellites, the broadcast offset of each clock group to GPS
time in m, the time label of the epoch less the GPS time that the data resolves, in ns, and TAI − UTC. -/
structure TimeSol where
  sky   : List SkyPos
  bring : List Rat := [0, 0, 0]
  shift : Int := 0
  utc   : Option Int := none
deriving DecidableEq, Repr

/-- One cell of a vehicle's MSM (R186): pseudorange in m, phase range in cycles, lock time in ms, half-cycle resolved, CNR in
0.01 dB-Hz, phase-range rate in m/s. `obs` is its observation code, the first character in the higher byte. -/
structure VCell where
  sys   : Nat
  sat   : Nat
  obs   : Nat
  pr    : Rat
  phase : Option Rat
  lock  : Nat
  half  : Bool
  cnr   : Nat
  rate  : Option Rat
deriving DecidableEq, Repr

/-- The position of a satellite for an epoch, from its ephemeris (R195): ECEF in m at its transmit time for the base, and its
elevation at the vehicle and at the base in 0.1°. -/
structure SatGeo where
  sys : Nat
  sat : Nat
  x   : Rat
  y   : Rat
  z   : Rat
  elV : Int
  elB : Int
deriving DecidableEq, Repr

/-- What the capture engine samples at one tick (R434, R435): the codes of CAPA0 to CAPA3, the balls CAPD0 to CAPD15, and the internal signals,
where bit c is the signal with code c. -/
structure CapSample where
  codes   : List Nat
  pins    : Nat := 0
  signals : Nat := 0
deriving DecidableEq, Repr

/-- An edge that the TDC of the timebase island measured (R442): tick, units of 5 ps after it, and direction. -/
structure TdcEdge where
  tick   : Nat
  frac   : Nat
  rising : Bool
deriving DecidableEq, Repr

/-- What the device samples while it runs a command entry's effect from a staged write or a timed action: levels of the GPIO
pins, levels of the stop channels and the time they have read high, the samples of the record that a capture stop command ends, and the
Witness jumper and seal loop. -/
structure Samples where
  gpio   : Nat := 0
  stop   : Nat := 0
  highUs : Nat := 0
  caps   : List CapSample := []
  fitted : Bool := false
  closed : Bool := true
deriving DecidableEq, Repr


/-- The commands. The rule after each mnemonic is the one the table names. -/
inductive Instr where
  /-- POWER_OVER_BOUND (R26). The power estimate has exceeded the envelope bound for 1 s without a break, so event source 8 is raised and a Moraine entry is written. `mw` is an estimate, as one comes every 10 ms (R22). -/
  | powerOverBound (dt : Nat) (mw : Nat)
  /-- REGISTER_WRITE (R34). A write, live or staged, of a dictionary entry that has no row of its own is checked under R572 and applied or staged. `op` and `payload` are those of the request (R58, R529), and every other operation of a request runs by them too. -/
  | registerWrite (dt : Nat) (q : Req) (op : Nat) (payload : List Byte) (m : Samples)
  /-- LEDGER_SUBSCRIBE (R68). A Ledger SUBSCRIBE request adds, removes or renews a range of event sources in the peer's subscriber slot. -/
  | ledgerSubscribe (dt : Nat) (q : Req) (first last action rsv : Nat)
  /-- CHECK_ONLY (R41). Commit command mode 1 locks the change set and starts a Closure check that changes no live value. -/
  | checkOnly (dt : Nat) (q : Req) (asWrite : Bool)
  /-- COMMIT_NEXT_INSTANT (R45). Commit command mode 2 checks the change set and schedules it for the first Closure instant at least 2 ms after the check ends. -/
  | commitNextInstant (dt : Nat) (q : Req) (asWrite : Bool)
  /-- COMMIT_AT_INSTANT (R45). Commit command mode 3 checks the change set and schedules it for the requested Closure instant. -/
  | commitAtInstant (dt : Nat) (q : Req) (asWrite : Bool) (instant : Nat)
  /-- ABORT (R48). Commit command mode 4, or a Ledger ABORT, discards the open change set or ends a running check, unless the commit instant is less than 2 ms away. -/
  | abort (dt : Nat) (q : Req) (asWrite : Bool)
  /-- CLOSURE_CHECK_END (R42). A Closure check completes; the result is recorded, the COMMIT is answered, and the set is either scheduled or left open. -/
  | closureCheckEnd (dt : Nat)
  /-- COMMIT_APPLY (R46). Comparator 15 strobes every running island at the commit instant, so the new configuration takes effect as a whole and event source 11 is raised. -/
  | commitApply (dt : Nat) (m : Samples)
  /-- CHANGESET_OWNER_TIMEOUT (R40). The owner has sent no request for the peer timeout, so the change set is aborted and event source 13 is raised. -/
  | changesetOwnerTimeout (dt : Nat)
  /-- PART_BUFFER_TIMEOUT (R60). No part of a multi-part write has arrived within 2030:03, so the per-peer part buffer is discarded. -/
  | partBufferTimeout (dt : Nat) (peer : Peer)
  /-- SETTINGS_STORE_WRITE (R49). The committed non-volatile values are written atomically to the settings store within 1 s of the commit instant. -/
  | settingsStoreWrite (dt : Nat) (bad : Option (Nat × Nat))
  /-- RESPONSE_CACHE_EXPIRY (R57). A kept Ledger response reaches its 2 s age and is discarded from the per-peer cache. -/
  | responseCacheExpiry (dt : Nat) (peer : Peer) (reqId : Nat)
  /-- LEASE_EXPIRY (R68). A subscriber lease runs out, so the slot is freed and event source 14 is raised. -/
  | leaseExpiry (dt : Nat) (slot : Fin 16)
  /-- NOTIFY_SEND (R69). The records for raised sources held by a subscriber slot are sent in NOTIFY frames within 1 ms, coalesced and rate-limited. -/
  | notifySend (dt : Nat) (slot : Fin 16)
  /-- PENDING_CLEAR (R65). A write of 1 to bits of 4815 clears the pending bits of those event sources. -/
  | pendingClear (dt : Nat) (q : Req) (sub : Nat) (data : List Byte)
  /-- EMCY_INHIBIT_EXPIRY (R72). The emergency inhibit time ends, so the oldest waiting emergency message is sent. -/
  | emcyInhibitExpiry (dt : Nat)
  /-- LEDGER_CONFIG_WRITE (R63). A live write of a 2030 entry under an open Witness window changes the Ledger port, port enable, peer timeout or lease. -/
  | ledgerConfigWrite (dt : Nat) (q : Req) (sub : Nat) (data : List Byte)
  /-- LEDGER_PORT_CHANGE_EFFECT (R63). A changed Ledger UDP port or port enable takes effect 1 s after its write was answered. -/
  | ledgerPortChangeEffect (dt : Nat)
  /-- NMT_START_REMOTE_NODE (R74). An NMT command puts a CAN FD port into the operational state. -/
  | nmtStartRemoteNode (dt : Nat) (port : Fin 2)
  /-- NMT_STOP_REMOTE_NODE (R74). An NMT command puts a CAN FD port into the stopped state, in which USDO is not served. -/
  | nmtStopRemoteNode (dt : Nat) (port : Fin 2)
  /-- NMT_ENTER_PRE_OPERATIONAL (R74). An NMT command puts a CAN FD port into the pre-operational state. -/
  | nmtEnterPreOperational (dt : Nat) (port : Fin 2)
  /-- NMT_RESET_COMMUNICATION (R75). An NMT reset communication applies the new node ID and bit rates of that CAN FD port. -/
  | nmtResetCommunication (dt : Nat) (port : Fin 2)
  /-- CAN_HEARTBEAT (R74). The heartbeat producer period 1017:00 expires, so a CANopen heartbeat is sent. -/
  | canHeartbeat (dt : Nat) (port : Fin 2)
  /-- TPDO1_SEND (R75). TPDO1 is sent every 100 ms and on each change of Whiteout level. -/
  | tpdo1Send (dt : Nat)
  /-- TPDO2_SEND (R75). TPDO2 is sent at every whole second of fleet time, carrying that second and the time state. -/
  | tpdo2Send (dt : Nat)
  /-- SERVO_UPDATE (R90). An update from the active time source is judged for slew or step and fed to the loop, which reloads the rate term. -/
  | servoUpdate (dt : Nat) (src : Nat)
  /-- SLEW_END (R93). The slew remaining is absorbed, so event source 36 is raised with DETAIL 0. -/
  | slewEnd (dt : Nat)
  /-- STEP_APPLY (R95). A pending step is added to O at its Closure instant and every pending time is re-based. -/
  | stepApply (dt : Nat)
  /-- EFC_OFFLOAD (R91). The EFC offload period expires, so the mean loop rate is moved into the cartridge EFC code. -/
  | efcOffload (dt : Nat)
  /-- SOURCE_TIMEOUT (R89). A time source becomes invalid after missing updates, Syncs or announces, which may change the active source or enter holdover. -/
  | sourceTimeout (dt : Nat) (src : Nat)
  /-- SOURCE_HOLDOFF_EXPIRY (R89). A formerly invalid source has given unbroken usable updates for the holdoff, so it becomes valid again. -/
  | sourceHoldoffExpiry (dt : Nat) (src : Nat)
  /-- HOLDOVER_DEGRADE (R98). The holdover error estimate exceeds 2210:0C, so the state becomes HOLDOVER_DEGRADED and event source 39 is raised. -/
  | holdoverDegrade (dt : Nat)
  /-- CARTRIDGE_FAIL (R113). The cartridge is removed, loses its 10 MHz or deviates over a window, so event source 45 is raised, fleet time goes to state 0 and a Whiteout with cause 11 starts. The operands are what the pins show: CART_PRES_N low, how long the 10 MHz input has been missing, and the cycles of the last 10 ms window. -/
  | cartridgeFail (dt : Nat) (seated : Bool) (missingNs count : Nat)
  /-- CARTRIDGE_VALID (R113). The cartridge has met no failure condition for 1 s, so event source 44 is raised and the timebase island is restarted. -/
  | cartridgeValid (dt : Nat) (image : List Byte)
  /-- WARMUP_END (R115). The cartridge WARMUP time passes after insertion or power-on, which releases the hold in ACQUIRING. -/
  | warmupEnd (dt : Nat)
  /-- LIFE_RECORD_WRITE (R117). Every 60 operating minutes the older cartridge life record slot is written with SEQ plus 1. -/
  | lifeRecordWrite (dt : Nat) (written : Bool)
  /-- PPS_MESSAGE (R110). The pulse message is completed 500 ms before a PPS pulse, stored in 2242 and sent. -/
  | ppsMessage (dt : Nat) (out : Fin 2)
  /-- PPS_PULSE (R108). A PPS output gives its pulse at a whole second plus its delay, and 2242 is updated with the actual error. -/
  | ppsPulse (dt : Nat) (out : Fin 2)
  /-- PTP_SYNC_RECEIVE (R101). A Sync message is received and timestamped on a PTP port. -/
  | ptpSyncReceive (dt : Nat) (port : Fin 2) (m : PtpMsg)
  /-- PTP_FOLLOW_UP_RECEIVE (R101). A Follow_Up is received and completes the offset measurement of its Sync. -/
  | ptpFollowUpReceive (dt : Nat) (port : Fin 2) (m : PtpMsg)
  /-- PTP_ANNOUNCE_RECEIVE (R101). An Announce is received and fed to the BMCA, which may change the port state or the grandmaster. -/
  | ptpAnnounceReceive (dt : Nat) (port : Fin 2) (a : Announce)
  /-- PTP_DELAY_REQ_RECEIVE (R101). A Delay_Req is received on a master port and answered with Delay_Resp. -/
  | ptpDelayReqReceive (dt : Nat) (port : Fin 2) (m : PtpMsg)
  /-- PTP_DELAY_RESP_RECEIVE (R101). A Delay_Resp is received and updates the mean path delay. -/
  | ptpDelayRespReceive (dt : Nat) (port : Fin 2) (m : PtpMsg)
  /-- PTP_PDELAY_REQ_RECEIVE (R101). A Pdelay_Req is received and answered with Pdelay_Resp and Pdelay_Resp_Follow_Up. -/
  | ptpPdelayReqReceive (dt : Nat) (port : Fin 2) (m : PtpMsg)
  /-- PTP_PDELAY_RESP_RECEIVE (R101). A Pdelay_Resp or its follow-up is received and updates the link delay. -/
  | ptpPdelayRespReceive (dt : Nat) (port : Fin 2) (followUp : Bool) (m : PtpMsg)
  /-- PTP_SYNC_INTERVAL (R101). The sync interval of a master port expires, so Sync and Follow_Up are sent. -/
  | ptpSyncInterval (dt : Nat) (port : Fin 2)
  /-- PTP_ANNOUNCE_INTERVAL (R104). The announce interval expires, so an Announce with the device's quality is sent. -/
  | ptpAnnounceInterval (dt : Nat) (port : Fin 2)
  /-- PTP_DELAY_REQ_INTERVAL (R101). The delay request interval expires, so a Delay_Req or Pdelay_Req is sent. -/
  | ptpDelayReqInterval (dt : Nat) (port : Fin 2)
  /-- ANNOUNCE_RECEIPT_TIMEOUT (R89). The announce receipt timeout of a port expires, which changes its PTP state and invalidates the source. -/
  | announceReceiptTimeout (dt : Nat) (port : Fin 2)
  /-- COMPARATOR_ARM (R120). A write of 2280:02 sets a comparator target and arms it, or applies the late policy. -/
  | comparatorArm (dt : Nat) (q : Req) (n : Fin 15) (data : List Byte)
  /-- COMPARATOR_FIRE (R120). Fleet time reaches a comparator target, so its actions run and event source 51 + n is raised. -/
  | comparatorFire (dt : Nat) (n : Fin 15)
  /-- FEED_SHORT (R124). Antenna feed current passes 120 mA, so the bias is cut within 100 µs and event source 110 is raised. -/
  | feedShort (dt : Nat) (ant : Fin 2) (current : Nat)
  /-- FEED_RETRY (R124). Every 10 s the bias of a shorted feed is re-applied for 1 ms. -/
  | feedRetry (dt : Nat) (ant : Fin 2) (current : Nat)
  /-- FEED_STATE_CHANGE (R124). An antenna feed changes to open or back to normal, which raises event source 110 or 111. -/
  | feedStateChange (dt : Nat) (ant : Fin 2) (current : Nat)
  /-- NOTCH_ENGAGE (R126). An adaptive notch engages on a narrowband component above the detection threshold. -/
  | notchEngage (dt : Nat) (pair : Fin 6) (freq level : Int)
  /-- NOTCH_RELEASE (R126). A notched component has stayed 3 dB below the threshold for 1 s, so the notch releases. -/
  | notchRelease (dt : Nat) (pair : Fin 6) (notch : Fin 4)
  /-- JAMMING_RISE (R130). The jamming indicator rises to its threshold, so event source 96 + p is raised. -/
  | jammingRise (dt : Nat) (pair : Fin 6) (b : BandSample)
  /-- JAMMING_CLEAR (R130). The jamming indicator has stayed 16 below the threshold for 1 s, so event source 102 + p is raised. -/
  | jammingClear (dt : Nat) (pair : Fin 6) (b : BandSample)
  /-- CHANNEL_ASSIGN (R135). The allocator assigns an idle channel to a visible signal and queues its search. -/
  | channelAssign (dt : Nat) (sky : List SkySat)
  /-- ACQ_SEARCH_COMPLETE (R133). An acquisition search with its verification dwells completes, and the channel enters pull-in or returns to IDLE. -/
  | acqSearchComplete (dt : Nat) (codeBin dopBin power noise verify1 verify2 : Nat)
  /-- SIGNAL_REQUEUE (R137). 10 s after an unsuccessful search, the signal is requeued. -/
  | signalRequeue (dt : Nat)
  /-- LOOP_INTEGRATION (R139). A channel's coherent integration ends, so its carrier and code loops update and its state is judged. -/
  | loopIntegration (dt : Nat) (chan : Fin 416) (us : Nat) (d2 sync : Bool) (k : Corr)
  /-- PULL_IN_TIMEOUT (R137). A channel has spent 1 s in PULL_IN without meeting the condition, so it returns to SEARCH. -/
  | pullInTimeout (dt : Nat) (chan : Fin 416)
  /-- COAST_TIMEOUT (R137). A channel has spent 2 s in COAST, so it returns to SEARCH with a handover or unaided search queued. -/
  | coastTimeout (dt : Nat) (chan : Fin 416)
  /-- RESTART_COLD (R133). Restart command 1 discards almanacs, ephemerides and coarse time and restarts the channels. -/
  | restartCold (dt : Nat) (q : Req)
  /-- RESTART_WARM (R133). Restart command 2 discards ephemerides and restarts the channels. -/
  | restartWarm (dt : Nat) (q : Req)
  /-- RESTART_HOT (R133). Restart command 3 keeps all data and restarts the channels. -/
  | restartHot (dt : Nat) (q : Req)
  /-- MEASUREMENT_EPOCH (R145). At a measurement epoch every channel latches and propagates its measurements, and the epoch strobe is sent. -/
  | measurementEpoch (dt : Nat) (chans : List ChanSample) (bands : List BandSample)
  /-- BASE_RECORD_COMPLETE (R146). The base measurement record of an epoch is complete and is delivered to the position engine and the RTCM output. -/
  | baseRecordComplete (dt : Nat)
  /-- EPOCH_DROP (R146). An epoch is not complete within 2 ms, so it is dropped whole and the late count advances. -/
  | epochDrop (dt : Nat)
  /-- SHADOW_TEST_END (R153). A 10 s shadow test ends, and a disagreement leads to a further test or a retirement. -/
  | shadowTestEnd (dt : Nat)
  /-- CHANNEL_RETIRE (R154). A channel's correlator memory reports an uncorrectable error, so the channel is retired. -/
  | channelRetire (dt : Nat) (chan : Fin 416)
  /-- SURVEY_START (R161). Survey command 1 starts a self-survey and discards any earlier result. -/
  | surveyStart (dt : Nat) (q : Req)
  /-- SURVEY_STOP (R161). Survey command 2 stops the self-survey, which ends in state 3. -/
  | surveyStop (dt : Nat) (q : Req)
  /-- SURVEY_COMPLETE (R161). The minimum duration has passed and the accuracy target is met, so the result is written and event source 124 is raised. -/
  | surveyComplete (dt : Nat)
  /-- SURVEY_TIMEOUT (R161). The survey has not met its target after ten times its minimum duration, so it aborts and event source 125 is raised. -/
  | surveyTimeout (dt : Nat)
  /-- BENCHMARK_MEAN_CHECK (R162). The one-hour mean code position is compared with the Benchmark, which may raise event source 126. -/
  | benchmarkMeanCheck (dt : Nat)
  /-- GNSS_TIME_UPDATE (R163). The whole-second time solution is computed and the consistency checks run, which exclude, readmit or declare GNSS suspect. -/
  | gnssTimeUpdate (dt : Nat) (t : TimeSol)
  /-- MSM_EPOCH (R172). At an MSM epoch the station, 1033, 1230 and MSM messages are packed and sent within 5 ms. -/
  | msmEpoch (dt : Nat)
  /-- OBSERVATION_INTAKE (R186). A core pops an observation carrier from a slot's intake queue, checks it and parses its MSMs into an intake record. -/
  | observationIntake (dt : Nat) (slot : Fin 128) (addr port : Nat) (telegram : List Byte) (ago : Nat) (cells : List (List VCell))
  /-- EPOCH_COMPLETION_TIMEOUT (R188). 20 ms after the first MSM of a vehicle epoch, the epoch completes with PARTIAL_INPUT. -/
  | epochCompletionTimeout (dt : Nat) (slot : Fin 128)
  /-- PAIRING_WAIT_EXPIRY (R191). A vehicle epoch held for a base record is paired again once that record completes, or 2 ms after its epoch instant. -/
  | pairingWaitExpiry (dt : Nat) (slot : Fin 128)
  /-- FIX_WRITE (R205). A lane group completes filter, ambiguity search and fix, writes the fix record, updates the slot state and sends the fix telegram. -/
  | fixWrite (dt : Nat) (group : Fin 8) (geo seedGeo : List SatGeo)
  /-- LANE_FAULT (R179). A lane residue check fails, so the lane is retired, a reserve lane is brought in and the epoch is recomputed. -/
  | laneFault (dt : Nat) (lane : Fin 136)
  /-- SLOT_STALE (R184). A slot has written no fix for the stale timeout, so it becomes STALE. -/
  | slotStale (dt : Nat) (slot : Fin 128)
  /-- SLOT_SUSPEND (R184). There has been no base record for 2 s, so the slot becomes SUSPENDED and event source 199 is raised. -/
  | slotSuspend (dt : Nat)
  /-- SLOT_RESUME (R184). Base records have been present again for 1 s, so the slot leaves SUSPENDED and event source 200 is raised. -/
  | slotResume (dt : Nat)
  /-- SLOT_RESET_FILTER (R184). Slot command 1 discards the slot state and returns the slot to WAITING. -/
  | slotResetFilter (dt : Nat) (q : Req) (slot : Fin 128)
  /-- SLOT_DROP_CARRIED (R212). Slot command 2 drops the carried integers at once. -/
  | slotDropCarried (dt : Nat) (q : Req) (slot : Fin 128)
  /-- EPOCH_SHED (R210). A non-conforming epoch has waited 25 ms, or the pending set overflows, so the epoch is shed. -/
  | epochShed (dt : Nat)
  /-- RESERVE (R251). A RESERVE request is checked in code order and, if accepted, holds all of its items at once. -/
  | reserve (dt : Nat) (q : Req) (r : ResReq)
  /-- EXTEND (R251). An EXTEND request closes the path's park and appends the new items. -/
  | extend (dt : Nat) (q : Req) (r : ResReq)
  /-- RELEASE (R251). A RELEASE request removes the holds beyond the first safe-park node at or after the rest point, or all holds of a supervisor hold. -/
  | release (dt : Nat) (q : Req) (r : ResReq)
  /-- LOOKUP (R251). A LOOKUP request reports the first hold in a group order that is present in a window. -/
  | lookup (dt : Nat) (q : Req) (r : ResReq)
  /-- INTERVAL_LAPSE (R244). The end of a vehicle interval comes before its vehicle has passed, so the interval becomes a standing hold. -/
  | intervalLapse (dt : Nat) (path group : Nat)
  /-- STANDING_ALERT (R244). A standing hold has lasted longer than 2E00:01, so event source 268 is raised. -/
  | standingAlert (dt : Nat) (path group : Nat)
  /-- GROUP_PASSED (R245). The profile generator reports a vehicle's rear beyond its last stretch in a group, so the hold is removed within 10 µs. -/
  | groupPassed (dt : Nat) (slot : Fin 128) (group : Nat)
  /-- BUCKET_RELEASE (R245). At each whole second of the engine scale, the entries of the bucket that has just ended are freed. -/
  | bucketRelease (dt : Nat)
  /-- FORCE_RELEASE (R252). A write of 2E14:01 removes every hold of a path, and event source 267 is raised. -/
  | forceRelease (dt : Nat) (q : Req) (data : List Byte)
  /-- SCHEDULE_GROUP_SELECT (R260). A write of 2E12:01 selects the group whose schedule 2E12:02 reports. -/
  | scheduleGroupSelect (dt : Nat) (q : Req) (data : List Byte)
  /-- TASK_SUBMIT (R264). A task record written to 3001:01 is checked and accepted with the lowest free task number, or refused. -/
  | taskSubmit (dt : Nat) (q : Req) (data : List Byte)
  /-- TASK_CANCEL (R266). A TASK_ID written to 3001:02 cancels the task and releases its path if it is in TO_PICK. -/
  | taskCancel (dt : Nat) (q : Req) (data : List Byte)
  /-- TASK_EARLIEST (R266). A WAITING task reaches its EARLIEST and becomes OPEN. -/
  | taskEarliest (dt : Nat) (task : Fin 1024)
  /-- TASK_RETENTION_EXPIRY (R265). A DONE, CANCELLED or FAILED task has been kept for 3000:09, so it returns to FREE. -/
  | taskRetentionExpiry (dt : Nat) (task : Fin 1024)
  /-- ROUND_PERIOD_EXPIRY (R272). 3000:01 has passed since the last round began, which causes a new auction round. -/
  | roundPeriodExpiry (dt : Nat)
  /-- AUCTION_ROUND_START (R272). An auction round begins with a path-engine pass over all free vehicles. -/
  | auctionRoundStart (dt : Nat) (passHundredths : Nat)
  /-- ROUND_BOUND_EXPIRY (R274). The round bound passes before the last phase, so the standing assignment is used with PARTIAL. -/
  | roundBoundExpiry (dt : Nat) (cycles : Nat)
  /-- AUCTION_ROUND_END (R275). The auction result is applied in slot order, tasks are allotted, and new pairs are planned and requested. -/
  | auctionRoundEnd (dt : Nat) (hundredths : Nat)
  /-- SERVICE_TIME_EXPIRY (R279). The service time of a TIMED_SERVICE task has passed at rest, so the service ends. -/
  | serviceTimeExpiry (dt : Nat) (slot : Fin 128)
  /-- SETPOINT_BLOCK (R284). At each 20 ms fleet time instant a setpoint block of ten setpoints is planned and sent for every vehicle with a path. -/
  | setpointBlock (dt : Nat) (late : List Nat)
  /-- PERMISSION_PERIOD (R342). At each permission period instant a permission telegram is issued to every enabled slot. -/
  | permissionPeriod (dt : Nat)
  /-- READINESS_TIMEOUT (R286). A slot holding a path has not been READY again within 3410:02, so its path is released and its task reopened or failed. -/
  | readinessTimeout (dt : Nat) (slot : Fin 128)
  /-- VEHICLE_HOLD (R289). Vehicle command 1 stops the vehicle at DECEL and JERK and holds it with cause 2. -/
  | vehicleHold (dt : Nat) (q : Req) (slot : Fin 128) (rsv arg : Nat)
  /-- VEHICLE_RESUME (R289). Vehicle command 2 ends a stop of cause 2, 3 or 4 and resumes the profile. -/
  | vehicleResume (dt : Nat) (q : Req) (slot : Fin 128) (rsv arg : Nat)
  /-- VEHICLE_GO_TO_NODE (R292). Vehicle command 3 sets a new target node, braking to a safe-park node first if the route lies behind. -/
  | vehicleGoToNode (dt : Nat) (q : Req) (slot : Fin 128) (rsv node : Nat)
  /-- VEHICLE_GIVE_UP_TASK (R289). Vehicle command 4 cancels the vehicle's task up to AT_PICK. -/
  | vehicleGiveUpTask (dt : Nat) (q : Req) (slot : Fin 128) (rsv arg : Nat)
  /-- REV_DWELL_END (R292). REV_DWELL ends at rest, so reverse motion begins and event source 290 is raised. -/
  | revDwellEnd (dt : Nat) (slot : Fin 128)
  /-- STOP_INPUT_ACT (R299). A stop input channel has stayed low for the filter time, so the input acts as a Whiteout source. -/
  | stopInputAct (dt : Nat) (input : Fin 2) (levels us : Nat) (fbTenths : Option Nat)
  /-- STOP_INPUT_DISCREPANCY (R300). The two channels of an input have differed for longer than 3810:04, so an input fault is latched and acts with cause 5. -/
  | stopInputDiscrepancy (dt : Nat) (input : Fin 2) (levels ms : Nat)
  /-- STOP_INPUT_FAULT_CLEAR (R300). Both channels of a faulted input are seen low together and then high together, so its fault clears. -/
  | stopInputFaultClear (dt : Nat) (input : Fin 2) (levels : Nat)
  /-- INPUT_TEST_PULSE (R301). The 50 ms test schedule drives a test line low for 100 µs and masks the channels under test. -/
  | inputTestPulse (dt : Nat) (line : Fin 2)
  /-- TEST_PULSE_CHECK (R301). 30 µs into a test pulse, a channel that is not low latches a test pulse fault. -/
  | testPulseCheck (dt : Nat) (line : Fin 2) (levels : Nat)
  /-- OUTPUT_TEST (R311). A STOPOUT test instant drives an energised output low for the test width, or checks the read-back of a de-energised one. -/
  | outputTest (dt : Nat) (out : Fin 2) (followed : Bool)
  /-- OUTPUT_READBACK_FAULT (R311). A STOPOUT read-back has disagreed with its drive for more than 20 µs, so an output fault is latched and acts with cause 6. -/
  | outputReadbackFault (dt : Nat) (out : Fin 2) (levels us : Nat)
  /-- STOP_COMMAND (R314). A write of 3800:01 acts as a Whiteout source with cause 3 at the level written. -/
  | stopCommand (dt : Nat) (q : Req) (data : List Byte)
  /-- CLEAR_COMMAND (R315). A write of 3800:02 checks the clear conditions and clears the stop, arms the resume, or is refused. -/
  | clearCommand (dt : Nat) (q : Req) (data : List Byte) (levels highUs : Nat)
  /-- KEEP_ALIVE (R318). A write of 3800:03 restarts the supervisor watchdog and ends a pending expiry. -/
  | keepAlive (dt : Nat) (q : Req) (data : List Byte)
  /-- SUPERVISOR_WATCHDOG_EXPIRY (R318). 3810:0B passes without a keep-alive, so the watchdog acts as a source with cause 4. -/
  | supervisorWatchdogExpiry (dt : Nat)
  /-- RESUME_PRESS (R316). A rising edge of RESUME_N after a low of 50 ms to 5 s clears an armed stop, or a stop under resume source 1. -/
  | resumePress (dt : Nat) (lowMs levels highUs : Nat)
  /-- RESUME_ARM_TIMEOUT (R316). No qualifying RESUME_N edge comes within 30 s of arming, so the state returns to ACTIVE. -/
  | resumeArmTimeout (dt : Nat)
  /-- FLOOD_WAVE (R308). A flood schedule instant sends one stop telegram on every enabled port for each listed VLAN. -/
  | floodWave (dt : Nat)
  /-- CLEAR_WAVE (R317). A clear wave of level 0 is sent at 0, 5 or 10 ms after a clear. -/
  | clearWave (dt : Nat)
  /-- ACKNOWLEDGEMENT (R345). A vehicle acknowledgement is checked and recorded, and may cause grants to be resent or the unit to demote. -/
  | acknowledgement (dt : Nat) (addr port : Nat) (telegram : List Byte)
  /-- TASK_STATUS_REPORT (R347). A vehicle task status report ends a service, fails or cancels a task, or is answered without effect. -/
  | taskStatusReport (dt : Nat) (addr port : Nat) (telegram : List Byte)
  /-- ACK_TIMEOUT (R345). 3420:04 period instants pass without an acknowledgement, so event source 443 is raised. -/
  | ackTimeout (dt : Nat) (slot : Fin 128)
  /-- AXIS_MOVE_ABSOLUTE (R359). Axis command 1 moves the axis to an absolute position. -/
  | axisMoveAbsolute (dt : Nat) (q : Req) (n : Fin 8) (rsv : Nat) (arg : Int)
  /-- AXIS_MOVE_RELATIVE (R359). Axis command 2 moves the axis by a signed distance. -/
  | axisMoveRelative (dt : Nat) (q : Req) (n : Fin 8) (rsv : Nat) (arg : Int)
  /-- AXIS_JOG (R362). Axis command 3 jogs the axis at a signed rate towards the soft limit. -/
  | axisJog (dt : Nat) (q : Req) (n : Fin 8) (rsv : Nat) (arg : Int)
  /-- AXIS_STOP (R359). Axis command 4 stops the axis at DECEL and JERK. -/
  | axisStop (dt : Nat) (q : Req) (n : Fin 8) (rsv : Nat) (arg : Int)
  /-- AXIS_HOME (R366). Axis command 5 runs the homing sequence of the axis's homing mode. -/
  | axisHome (dt : Nat) (q : Req) (n : Fin 8) (rsv : Nat) (arg : Int)
  /-- AXIS_ENABLE (R361). Axis command 6 asserts AXEN_n and sets the phase to 0. -/
  | axisEnable (dt : Nat) (q : Req) (n : Fin 8) (rsv : Nat) (arg : Int)
  /-- AXIS_DISABLE (R369). Axis command 7 parks the axis at phase 0 if needed, then releases AXEN_n. -/
  | axisDisable (dt : Nat) (q : Req) (n : Fin 8) (rsv : Nat) (arg : Int)
  /-- AXIS_CLEAR_FAULT (R365). Axis command 8 leaves the fault once AXFLT_n is inactive. -/
  | axisClearFault (dt : Nat) (q : Req) (n : Fin 8) (rsv : Nat) (arg : Int)
  /-- AXIS_SET_POSITION (R359). A write of 3630 + n sets the axis position at rest and clears the uncertain flag. -/
  | axisSetPosition (dt : Nat) (q : Req) (n : Fin 8) (data : List Byte)
  /-- AXIS_SEGMENT (R362). A 100 µs profile segment of an axis ends, so the position issued is fixed and the plan advanced. -/
  | axisSegment (dt : Nat) (n : Fin 8)
  /-- AXIS_LIMIT_INPUT (R364). A filtered limit input becomes active and stops motion towards that limit. -/
  | axisLimitInput (dt : Nat) (n : Fin 8) (levels us : Nat)
  /-- AXIS_FAULT_INPUT (R365). AXFLT_n becomes active and puts the axis in fault with its position uncertain. -/
  | axisFaultInput (dt : Nat) (n : Fin 8) (levels us : Nat)
  /-- AXIS_HOME_EDGE (R366). The home edge input changes during homing, so the step count is latched. -/
  | axisHomeEdge (dt : Nat) (n : Fin 8) (levels us : Nat)
  /-- AXIS_HOLD_DELAY (R361). The axis has been at rest for the hold delay, so AXHOLD_n is asserted. -/
  | axisHoldDelay (dt : Nat) (n : Fin 8)
  /-- AXIS_DWELL_END (R363). The reversal dwell of an axis ends, so motion in the opposite direction begins. -/
  | axisDwellEnd (dt : Nat) (n : Fin 8)
  /-- FRAME_RECEIVE (R376). A frame completes at a port and passes the pipeline stages: checks, VLAN, learning, classification, steering, routing or bridging. -/
  | frameReceive (dt : Nat) (port : Fin 8) (f : Frame)
  /-- LEARN_NOTICE (R381). A learning notice from the other pipeline arrives and updates the matching REMOTE entry. -/
  | learnNotice (dt : Nat) (pipe : Fin 2)
  /-- AGEING_SWEEP (R388). An ageing sweep visit clears HIT or advances AGE of a MAC entry, which may remove it. -/
  | ageingSweep (dt : Nat) (pipe : Fin 2) (index : Nat)
  /-- STASH_REINSERT (R387). After a removal from the buckets, the oldest stash entry is re-inserted within 10 µs. -/
  | stashReinsert (dt : Nat) (pipe : Fin 2)
  /-- LINK_UP (R407). A port has had 10 ms of stable synchronisation and negotiation, so it reports link up and accepts frames. -/
  | linkUp (dt : Nat) (port : Fin 8) (speed ability : Nat)
  /-- LINK_DOWN (R407). A port's link goes down, so its egress buffer is discarded and its dynamic entries are removed. -/
  | linkDown (dt : Nat) (port : Fin 8)
  /-- PAUSE_EXPIRY (R373). The time stated by a received PAUSE ends, so the transmitter resumes. -/
  | pauseExpiry (dt : Nat) (port : Fin 8)
  /-- TABLE_INSERT (R398). Window command 1 adds an entry to a table. -/
  | tableInsert (dt : Nat) (q : Req) (load : Option (Nat × Nat × Nat))
  /-- TABLE_REPLACE (R398). Window command 2 adds or overwrites an entry. -/
  | tableReplace (dt : Nat) (q : Req) (load : Option (Nat × Nat × Nat))
  /-- TABLE_DELETE (R398). Window command 3 removes an entry. -/
  | tableDelete (dt : Nat) (q : Req) (load : Option (Nat × Nat × Nat))
  /-- TABLE_LOOKUP (R398). Window command 4 reports the entry with a key. -/
  | tableLookup (dt : Nat) (q : Req) (load : Option (Nat × Nat × Nat))
  /-- TABLE_READ_INDEX (R398). Window command 5 reports the entry at an index. -/
  | tableReadIndex (dt : Nat) (q : Req) (load : Option (Nat × Nat × Nat))
  /-- TABLE_FLUSH (R398). Window command 6 removes the matching MAC entries, one bucket per clock. -/
  | tableFlush (dt : Nat) (q : Req) (load : Option (Nat × Nat × Nat))
  /-- TABLE_BATCH (R403). A write of 3A81:01 runs a batch of table commands, live or at the commit instant. -/
  | tableBatch (dt : Nat) (q : Req) (data : List Byte)
  /-- SHADOW_SWEEP (R405). The ECC and signature sweep visits a table entry, and a fault leads to its removal or rewrite. -/
  | shadowSweep (dt : Nat) (table index : Nat) (verdict : Ecc)
  /-- ENTRY_REWRITE (R406). A faulty static, session or route entry or trie node is rewritten from DRAM within 1 ms. -/
  | entryRewrite (dt : Nat) (table key : Nat)
  /-- QUEUE_PUSH (R412). A producer offers an item header, credits are reserved, and the item takes effect at its last word or is refused. -/
  | queuePush (dt : Nat) (queue : Fin 256) (src typ tag words : Nat) (flds : List Nat)
  /-- QUEUE_POP (R414). A consumer pops the oldest visible item whole and its credits return. -/
  | queuePop (dt : Nat) (queue : Fin 256) (consumer : Nat)
  /-- QUEUE_FLUSH (R419). A write of 3E00 + q:05 discards every item of the queue in one cycle. -/
  | queueFlush (dt : Nat) (q : Req) (queue : Fin 256) (data : List Byte)
  /-- FIRN_SPILL (R416). Items are spilled from a queue's tail to Firn in 256-byte blocks. -/
  | firnSpill (dt : Nat) (queue : Fin 256)
  /-- FIRN_REFILL (R416). A queue head holding fewer than 32 words is refilled from Firn. -/
  | firnRefill (dt : Nat) (queue : Fin 256)
  /-- FIRN_ERROR (R417). An uncorrectable error in a Firn block discards its items and retires the region. -/
  | firnError (dt : Nat) (queue : Fin 256) (block region : Nat)
  /-- QUEUE_STATISTICS_CLEAR (R421). A write of 3F10:04 clears the queue counts, peaks and histograms. -/
  | queueStatisticsClear (dt : Nat) (q : Req) (data : List Byte)
  /-- TASK_READY (R424). A task is woken and placed on a core's ready list, pre-empting where its priority allows. -/
  | taskReady (dt : Nat) (slot : Fin 256) (prio mask kind num : Nat)
  /-- DISPATCH_END (R424). A dispatch ends, so the core dispatches the head of its highest non-empty list or steals work. -/
  | dispatchEnd (dt : Nat) (core : Fin 7) (into kind num delayNs : Nat)
  /-- TIMER_EXPIRY (R428). A task timer reaches its expiry at a scheduler tick and wakes its task. -/
  | timerExpiry (dt : Nat) (timer : Fin 1024)
  /-- SCHEDULER_STATISTICS_CLEAR (R426). A write of 4000:03 clears the core counts, peaks and histograms. -/
  | schedulerStatisticsClear (dt : Nat) (q : Req) (data : List Byte)
  /-- TIMED_ACTION_ARM (R431). A write of 4100 + a:02 sets the target and arms the action, or applies the late policy. -/
  | timedActionArm (dt : Nat) (q : Req) (a : Fin 256) (data : List Byte)
  /-- TIMED_ACTION_RUN (R430). A timed action reaches its target at a tick, so it raises event 456 and queues its write. -/
  | timedActionRun (dt : Nat) (a : Fin 256) (m : Samples)
  /-- CAPTURE_ARM (R443). Capture command 1 takes a free segment and starts filling it from the next frame boundary. -/
  | captureArm (dt : Nat) (q : Req)
  /-- CAPTURE_FORCE_TRIGGER (R446). Capture command 2 triggers the capture with SOURCE 8 and FORCED set. -/
  | captureForceTrigger (dt : Nat) (q : Req)
  /-- CAPTURE_STOP (R446). Capture command 3 frees the segment, ends the record with STOPPED, or leaves FULL. -/
  | captureStop (dt : Nat) (q : Req) (ss : List CapSample)
  /-- CAPTURE_RELEASE (R446). A write of 4203:02 frees one segment, or every segment that holds a complete record. -/
  | captureRelease (dt : Nat) (q : Req) (data : List Byte)
  /-- CAPTURE_FILL_COMPLETE (R443). The pre-trigger fill is reached, so the capture becomes ARMED. -/
  | captureFillComplete (dt : Nat)
  /-- CAPTURE_TRIGGER (R442). The trigger condition is seen, so the trigger instant is placed and the state becomes POST. -/
  | captureTrigger (dt : Nat) (ss : List CapSample) (edges : List TdcEdge)
  /-- CAPTURE_RECORD_COMPLETE (R443). The post-trigger frames have been stored, so the record completes and event source 480 is raised. -/
  | captureRecordComplete (dt : Nat) (ss : List CapSample)
  /-- CAPTURE_REARM (R443). In continuous mode the capture re-arms at the next frame boundary into a free segment, or enters FULL. -/
  | captureRearm (dt : Nat)
  /-- POWER_RUN (R462). Power command 1 returns islands 5 and 6 from Idle to Run within 5 ms. -/
  | powerRun (dt : Nat) (q : Req)
  /-- POWER_IDLE (R463). Power command 2 puts islands 5 and 6 into retention, unless refused. -/
  | powerIdle (dt : Nat) (q : Req)
  /-- POWER_HIBERNATE (R464). Power command 3 parks the axes, saves state and a Cairn, powers off islands 10 to 3 and drops VMAIN_EN. -/
  | powerHibernate (dt : Nat) (q : Req)
  /-- POWER_GLACIER (R467). Power command 4 does the Hibernate entry, writes the retention file with ORDERLY set and drops AON_EN. -/
  | powerGlacier (dt : Nat) (q : Req)
  /-- POWER_ON_RESET (R452). VAON and VAON_IO have passed 90 % for 2 ms, so the sentry leaves power-on reset and a Thaw begins. -/
  | powerOnReset (dt : Nat) (goodUs : Nat) (strap : Fin 4)
  /-- VMAIN_PG_TIMEOUT (R453). VMAIN_PG is not high within 100 ms of VMAIN_EN, so VMAIN_EN is dropped and event source 24 is raised. -/
  | vmainPgTimeout (dt : Nat)
  /-- VMAIN_RETRY (R453). 1 s after a failed request, VMAIN_EN is driven high again. -/
  | vmainRetry (dt : Nat)
  /-- BROWN_OUT (R454). A main supply below 92 % for more than 1 µs resets islands 3 to 10 as kind 2. -/
  | brownOut (dt : Nat) (supply : Fin 8) (lowNs : Nat)
  /-- RESET_N_PULSE (R468). RESET_N held low for 5 µs resets the device as kind 3, and the Thaw starts at its rising edge. -/
  | resetNPulse (dt : Nat) (lowNs : Nat)
  /-- WATCHDOG_RESET (R468). 2060:05 passes without a firmware kick, so the device resets as kind 4. -/
  | watchdogReset (dt : Nat) (quietMs : Nat)
  /-- SOFTWARE_RESET (R468). A write of 0x5A to 2060:01 resets the device as kind 5. -/
  | softwareReset (dt : Nat) (q : Req) (data : List Byte)
  /-- THAW_ISLAND_START (R457). An island's turn in Thaw or recovery comes and its condition holds, so its power switches close and it enters state 2. -/
  | thawIslandStart (dt : Nat) (island : Nat)
  /-- ISLAND_STARTED (R457). An island completes its start work and enters state 3, and Thaw moves on or ends. -/
  | islandStarted (dt : Nat) (island : Nat) (failed : List Nat)
  /-- ISLAND_START_TIMEOUT (R459). An island exceeds its start bound, so it is powered off and retried once, or left off. -/
  | islandStartTimeout (dt : Nat) (island : Nat)
  /-- THAW_RETRY (R459). 1 s after a failed memory or core island start, a new Thaw begins, up to three in succession. -/
  | thawRetry (dt : Nat)
  /-- ISLAND_RECOVERY_START (R470). A stalled liveness counter, an uncorrectable control-state error or a firmware request puts the island into state 4 and powers it off. -/
  | islandRecoveryStart (dt : Nat) (island : Nat)
  /-- ISLAND_RECOVERY_END (R470). A recovered island has restored its state, so event source 17 is raised and 2021 advances. -/
  | islandRecoveryEnd (dt : Nat) (island : Nat)
  /-- WAKE_N_WAKE (R464). WAKE_N held low for 1 ms wakes the device from Hibernate into a kind 6 Thaw. -/
  | wakeNWake (dt : Nat) (lowUs : Nat)
  /-- WAKE_TIMER_EXPIRY (R464). The Hibernate wake timer expires, which wakes the device. -/
  | wakeTimerExpiry (dt : Nat)
  /-- GLACIER_WAKE (R467). WAKE_N held low for 10 ms drives AON_EN high, which leads to a power-on reset. -/
  | glacierWake (dt : Nat) (lowUs : Nat)
  /-- COUNTS_SAVE (R468). Once a second the counts since power-on reset are saved to the retention SRAM. -/
  | countsSave (dt : Nat)
  /-- HEARTBEAT_SEND (R478). The heartbeat period expires, so a HEARTBEAT is sent on every enabled lane. -/
  | heartbeatSend (dt : Nat)
  /-- HEARTBEAT_RECEIVE (R479). A valid peer heartbeat is received and judged for election, takeover or demotion. -/
  | heartbeatReceive (dt : Nat) (lane : Fin 2) (frame : List Byte)
  /-- LANE_LOSS (R480). No valid heartbeat has arrived on a lane for 4400:04, so the lane is lost. -/
  | laneLoss (dt : Nat) (lane : Fin 2)
  /-- ELECTION_WAIT_EXPIRY (R475). No valid peer heartbeat arrives within the election wait, so the unit becomes ACTIVE. -/
  | electionWaitExpiry (dt : Nat)
  /-- CAIRN_TAKE (R482). At a Cairn instant the active unit takes a snapshot and sends it in CAIRN_PART frames. -/
  | cairnTake (dt : Nat)
  /-- CAIRN_PART_RECEIVE (R486). A CAIRN_PART is written into the free Cairn slot, and completion is acknowledged. -/
  | cairnPartReceive (dt : Nat) (lane : Fin 2) (frame : List Byte)
  /-- CAIRN_ACK_RECEIVE (R489). A CAIRN_ACK releases the grants held back on that Cairn, or demotes the unit after a FINAL Cairn. -/
  | cairnAckReceive (dt : Nat) (lane : Fin 2) (frame : List Byte)
  /-- STOP_NOTICE_RECEIVE (R488). The peer keeps the newest STOP_NOTICE in its retention SRAM. -/
  | stopNoticeReceive (dt : Nat) (lane : Fin 2) (frame : List Byte)
  /-- SETTINGS_PART_RECEIVE (R487). SETTINGS_PART frames are stored atomically in the peer's settings store and acknowledged. -/
  | settingsPartReceive (dt : Nat) (lane : Fin 2) (frame : List Byte) (written : Bool)
  /-- SETTINGS_ACK_RECEIVE (R487). A SETTINGS_ACK confirms or reports failure of the peer's store write. -/
  | settingsAckReceive (dt : Nat) (lane : Fin 2) (frame : List Byte)
  /-- SETTINGS_REPEAT (R487). An unacknowledged change set is sent again every 1 s. -/
  | settingsRepeat (dt : Nat)
  /-- PAIR_WAKE_RECEIVE (R490). A WAKE frame wakes the standby for a switch-over or a drill. -/
  | pairWakeReceive (dt : Nat) (lane : Fin 2) (frame : List Byte)
  /-- TAKEOVER_DELAY_EXPIRY (R490). Both lanes are lost and the takeover delay passes, so the standby wakes for takeover. -/
  | takeoverDelayExpiry (dt : Nat)
  /-- GRANT_HOLD_ALERT (R489). A grant has been held back for more than 500 ms, so event source 490 is raised with DETAIL 2. -/
  | grantHoldAlert (dt : Nat) (slot : Fin 128) (grant : Nat)
  /-- SOLO_DECLARE (R495). Solo command 1 makes an isolated active SOLO and releases its grants. -/
  | soloDeclare (dt : Nat) (q : Req)
  /-- SOLO_LEAVE (R495). Solo command 0 leaves SOLO. -/
  | soloLeave (dt : Nat) (q : Req)
  /-- ISOLATION_EXPIRY (R495). The unit has been isolated for 4400:07, so it becomes SOLO. -/
  | isolationExpiry (dt : Nat)
  /-- SWITCH_OVER (R500). A write of 1 to 4401:01 starts a planned switch-over by sending WAKE with reason 1. -/
  | switchOver (dt : Nat) (q : Req) (data : List Byte)
  /-- SWITCH_OVER_TIMEOUT (R500). The peer has not shown THAWED within 2 s, so the switch-over is abandoned. -/
  | switchOverTimeout (dt : Nat)
  /-- DRILL (R501). A write of 4401:02 wakes the peer for a drill. -/
  | drill (dt : Nat) (q : Req) (data : List Byte)
  /-- DRILL_PERIOD_EXPIRY (R501). The drill period 4400:08 expires, so a drill starts. -/
  | drillPeriodExpiry (dt : Nat)
  /-- DRILL_END (R501). The drill checks end, so DRILL_RESULT is written and the peer returns to Hibernate. -/
  | drillEnd (dt : Nat)
  /-- WITNESS_PRESS (R507). WIT_BTN_N is released after 1 s to 5 s with the jumper fitted, which opens or restarts the Witness window. -/
  | witnessPress (dt : Nat) (lowMs : Nat) (fitted : Bool)
  /-- SEAL_OPEN (R505). SEAL_SNS stays low for 100 µs, so the seal latch sets. -/
  | sealOpen (dt : Nat) (lowUs : Nat)
  /-- JUMPER_FITTED (R505). WIT_JMP_N falls, so the jumper latch sets. -/
  | jumperFitted (dt : Nat)
  /-- JUMPER_REMOVED (R508). The jumper has read not fitted for 100 ms, so the window closes with cause 2. -/
  | jumperRemoved (dt : Nat) (outMs : Nat)
  /-- WITNESS_WINDOW_EXPIRY (R508). 4610:03 passes since the window opened, so it closes with cause 1. -/
  | witnessWindowExpiry (dt : Nat)
  /-- CLOSE_WINDOW (R508). A write of 4610:04 closes the Witness window. -/
  | closeWindow (dt : Nat) (q : Req) (data : List Byte)
  /-- CLEAR_LATCHES (R505). A write of 4610:06 clears the seal or jumper latch whose condition has gone. -/
  | clearLatches (dt : Nat) (q : Req) (data : List Byte) (fitted closed : Bool)
  /-- PROGRAM_KEY (R511). A write of 4621:01 programs a public key into an empty fuse slot. -/
  | programKey (dt : Nat) (q : Req) (data : List Byte)
  /-- REVOKE_KEY (R511). A write of 4621:02 revokes a key slot for ever. -/
  | revokeKey (dt : Nat) (q : Req) (data : List Byte)
  /-- IMAGE_DATA (R519). A part written to 4602:01 is checked and written to the inactive bank, or resumes a download. -/
  | imageData (dt : Nat) (q : Req) (offset total : Nat) (data : List Byte) (bad : Option (Nat × Nat))
  /-- IMAGE_VERIFY_END (R520). Digest and read-back verification of a received image completes, giving VERIFIED or a refusal. -/
  | imageVerifyEnd (dt : Nat) (readBack : Bool)
  /-- ACTIVATE (R521). A write of 1 to 4602:02 writes a TRIAL descriptor for the other bank and resets. -/
  | activate (dt : Nat) (q : Req) (data : List Byte)
  /-- CONFIRM (R523). A write of 1 to 4602:03 confirms the trial image and raises the fused counter. -/
  | confirm (dt : Nat) (q : Req) (data : List Byte)
  /-- ABANDON (R524). A write of 1 to 4602:04 falls back from a trial, or empties the inactive bank. -/
  | abandon (dt : Nat) (q : Req) (data : List Byte)
  /-- AUTO_CONFIRM_EXPIRY (R523). With policy 1, 4600:02 passes in TRIAL, so the image is confirmed. -/
  | autoConfirmExpiry (dt : Nat)
  /-- TRIAL_TIMEOUT (R524). 600 s pass in trial without confirmation, so the device falls back with cause 2. -/
  | trialTimeout (dt : Nat)
  /-- JENYN_IDENTIFY (R529). A Jenyn IDENTIFY request returns identity, version, update state and window state. -/
  | jenynIdentify (dt : Nat) (q : Req)
  /-- DFU_DNLOAD (R531). A DFU_DNLOAD block is checked and written to the recovery bank; a zero-length one starts verification. -/
  | dfuDnload (dt : Nat) (data : List Byte) (written : Bool)
  /-- DFU_VERIFY_END (R532). The ROM's digest check ends, so it writes a TRIAL descriptor and resets, or reports errVERIFY. -/
  | dfuVerifyEnd (dt : Nat) (readBack : Bool)
  /-- DFU_GETSTATUS (R531). A DFU_GETSTATUS request returns the DFU status and poll timeout. -/
  | dfuGetstatus (dt : Nat)
  /-- DFU_CLRSTATUS (R531). A DFU_CLRSTATUS request clears a DFU error state. -/
  | dfuClrstatus (dt : Nat)
  /-- DFU_GETSTATE (R531). A DFU_GETSTATE request returns the DFU state. -/
  | dfuGetstate (dt : Nat)
  /-- DFU_ABORT (R531). A DFU_ABORT request returns DFU to idle. -/
  | dfuAbort (dt : Nat)
  /-- DFU_UPLOAD (R531). A DFU_UPLOAD request is stalled. -/
  | dfuUpload (dt : Nat)
  /-- DFU_DETACH (R531). A DFU_DETACH request is stalled. -/
  | dfuDetach (dt : Nat)
  /-- MORAINE_ENTRY (R537). An island offers an entry to the sentry inbox, which assigns its SEQ and stores it in the retention ring. -/
  | moraineEntry (dt : Nat)
  /-- MORAINE_FLASH_COPY (R535). An entry at or above the flash threshold is copied to the flash ring in SEQ order. -/
  | moraineFlashCopy (dt : Nat) (bad : Option (Nat × Nat))
  /-- MORAINE_READ_FROM (R538). A write of 4820:02 sets the first SEQ of the Moraine window. -/
  | moraineReadFrom (dt : Nat) (q : Req) (data : List Byte)
  /-- MORAINE_CLEAR (R539). A write of 4820:06 writes entry 517 and removes every older entry. -/
  | moraineClear (dt : Nat) (q : Req) (data : List Byte)
  /-- WEAR_MEASURE (R540). Every 24 h the wear monitors are measured, the wear index is written, and units below margin are retired. -/
  | wearMeasure (dt : Nat) (wear : List (Nat × Nat)) (slack : List (Nat × Nat))
  /-- SRAM_SCRUB (R541). Every 10 s the ECC scrub of an SRAM array runs. -/
  | sramScrub (dt : Nat) (island array row : Nat) (verdict : Ecc)
  /-- DRAM_PATROL (R541). The DRAM patrol checks the ECC of the DRAM regions. -/
  | dramPatrol (dt : Nat) (region : Nat) (verdict : Ecc)
  /-- CORE_SELF_TEST (R541). Every 60 s one physical core runs its self-test slice. -/
  | coreSelfTest (dt : Nat) (core : Fin 8) (passed : Bool)
  /-- CORE_RETIRE (R543). A core fault halts the physical core, and the reserve core takes over the logical core. -/
  | coreRetire (dt : Nat) (core : Fin 8) (cause : Nat)
  /-- SRAM_ROW_RETIRE (R544). An SRAM row that reaches its error count is replaced by a spare row. -/
  | sramRowRetire (dt : Nat) (island array row cause : Nat) (corrected : Bool)
  /-- DRAM_REGION_RETIRE (R545). A DRAM region that reaches its error count is remapped to a reserve region. -/
  | dramRegionRetire (dt : Nat) (region cause : Nat) (lost : DramUse)
  /-- GPIO_OUTPUT (R554). A write of 2090:02 drives the output levels of the GPIO pins set as outputs. -/
  | gpioOutput (dt : Nat) (q : Req) (data : List Byte) (levels : Nat)
  /-- TEMPERATURE_READ (R570). Every 10 ms the junction sensors are read, and the temperature events are raised. -/
  | temperatureRead (dt : Nat) (readings : List Int)
  /-- FRAME_TRANSMIT_END (R309). A port finishes sending the frame in progress, frees its egress buffer space and starts the stop telegram or the next queued frame by class. -/
  | frameTransmitEnd (dt : Nat) (port : Fin 8)
  /-- CORE_LOAD_ALERT (R426). A core's load over 1 s first exceeds 4000:01, so event source 453 is raised with the core in DETAIL. -/
  | coreLoadAlert (dt : Nat) (core : Fin 7)
  /-- ALWAYS_ON_SUPPLY_LOSS (R454). VAON falls below 90 % of nominal, which puts the whole device into power-on reset with its stop and axis outputs held low by the pads. -/
  | alwaysOnSupplyLoss (dt : Nat)
  /-- VBAK_LOSS (R506). VBAK is lost, so the backup island loses the retention file and the seal and jumper latches, which then read set with VBAK_LOST. -/
  | vbakLoss (dt : Nat)
  /-- RECOVERY_BUTTON_HOLD (R530). WIT_BTN_N has stayed low for 5 s after the end of a reset of kinds 1 to 5 with the jumper fitted, so the boot ROM enters USB DFU recovery. -/
  | recoveryButtonHold (dt : Nat) (fitted : Bool)
deriving DecidableEq, Repr

end Sys2Proof
end

