-- ==== Sys2Proof/Decode.lean ====
section
/-!
DEFINITION. The words of commands. spec/opcode_table.json gives no row any bits: a command comes as a frame, a pin event or a passage of
time, and its fields are those of its frame's own layout. So no word spells a command (log 1).
-/
namespace Sys2Proof

/-- The command that a word of the opcode table spells: none, since the table gives no row bits. -/
def decodeTableWord (_nbits _w : Nat) : Option Instr := none

end Sys2Proof
end

