-- ==== Sys2Proof/Machine/Types.lean ====
section
/-!
DEFINITION. The types of the object dictionary: data types (R29), access (R31, R32) and the value of one entry.
-/
namespace Sys2Proof.Machine

/-- The data types of R29; `chain` is CHAIN, `id16` is ID16, `oct n` is OCTET_STRING (n), `str n` and `blob n` carry their greatest length. -/
inductive Ty where
  | bool | u8 | u16 | u32 | u64 | i8 | i16 | i32 | i64 | r32 | r64 | time80 | grid3 | chain | id16
  | str (n : Nat) | oct (n : Nat) | blob (n : Nat)
deriving DecidableEq, Repr

/-- Direction of an entry (R32). -/
inductive Dir where
  | ro | wo | rw
deriving DecidableEq, Repr

/-- Access class of an entry (R31). -/
inductive Cls where
  | opn | guarded | factory
deriving DecidableEq, Repr

/-- The value of one entry. A TIME80 is held as its total number of nanoseconds; GRID3, REAL32, REAL64, strings and BLOBs as bytes. -/
inductive DVal where
  | num (v : Int)
  | oct (b : List Byte)
deriving DecidableEq, Repr

/-- One row of the static dictionary: `cnt` indices from `i0`, `str` apart, each with sub-indices `s0` to `s1`. -/
structure Row where
  i0  : Nat
  cnt : Nat
  str : Nat
  s0  : Nat
  s1  : Nat
  ty  : Ty
  dir : Dir
  cls : Cls
  dv  : DVal
  /-- Allowed ranges of the value; empty means every value of the type. -/
  lim : List (Int × Int)
  /-- True for a command entry (R35). -/
  cmd : Bool
deriving DecidableEq, Repr

end Sys2Proof.Machine
end

