-- ==== Sys2Proof/Config.lean ====
section
/-!
DEFINITION. What one device fixes and the values the spec leaves open. Every constant here is opaque: nothing in Lean
can see its value, so a claim holds whatever it is.
-/
namespace Sys2Proof

/-- Serial number, 1018:04, per device (R1). -/
opaque Config.serialNumber : Int
/-- Source address of every frame the device sends, 3A00:01, per device. -/
opaque Config.macAddress : List Byte
/-- clockIdentity, 2222:01, unique per device (R105). -/
opaque Config.clockIdentity : List Byte
/-- The vendor's public key, 4620:01, per device. -/
opaque Config.vendorKey : List Byte
/-- The fixed mapping values that 1A00 and 1A01 read as (R75 gives no figure). -/
opaque Config.tpdoMapping : List Byte
/-- The port whose node ID 1800:01 and 1801:01 add to 0x180 and 0x280; R75 does not say whose an entry that serves both ports reads. -/
opaque Config.tpdoPort : Fin 2
/-- offsetScaledLogVariance of the device's clock in the comparison of data sets; R104 gives none. -/
opaque Config.clockVariance : Nat
/-- A free natural number: the n-th value the spec leaves open. Indexed by `Dev.frees`. -/
opaque Config.freeNat : Nat → Nat
/-- A free integer, as `freeNat`. -/
opaque Config.freeInt : Nat → Int
/-- A free truth value, as `freeNat`. -/
opaque Config.freeBool : Nat → Bool
/-- The factory-calibrated group delay of the front end of a band-antenna pair in s, per device (R148). -/
opaque Config.frontEnd : Nat → Rat
/-- The standard tropospheric model: the delay in m at an elevation in 0.1°; R163 names no model. -/
opaque Config.troposphere : Int → Rat
/-- Fields of RTCM 1005 and 1006 by their DF number that neither the spec nor an entry gives (R169). -/
opaque Config.rtcmField : Nat → Int
/-- Receiver type, firmware version and serial number as 1033 carries them, per device (R169). -/
opaque Config.receiverText : Nat → List Byte
/-- Header fields of the packets that the device sends, by field and packet (R376 names the headers only): traffic class and flow label (0), type of
service (1), identification (2), flags (3), TTL or hop limit (4). -/
opaque Config.ipField : Nat → Nat → Nat
/-- Byte of an RTCM 3 frame from the fields that the model holds of it, at a place (R169 names the format only). -/
opaque Config.rtcmByte : List Int → Nat → Byte
/-- The weight of a signal in the time solution, from its C/N0 and elevation, less 1; R163 gives no rule. -/
opaque Config.weight : Nat → Int → Nat

/-- IMAGE_VER of the image that the device came with, per device. -/
opaque Config.imageVersion : Int

/-- Settings schema of the image that the device came with, per device. -/
opaque Config.imageSchema : Int

/-- The settings migration that an image carries (component 7, R522): from its bytes and the settings area of the previous
image, the new settings area; none where the migration fails. The spec does not give the form of the rules. -/
opaque Config.migrate : List Byte → Tab Machine.DVal → Option (Tab Machine.DVal)

/-- Name of a task slot in 4001:01: 8 characters, given by the firmware. -/
opaque Config.taskName : Nat → List Byte

/-- The datum by which the Moraine entry of R40 names an owner, from the bytes of 2010:08; R40 gives no encoding. -/
opaque Config.ownerDatum : List Byte → Nat

/-- HIT_GROUP (0), HIT_START (1) and HIT_END (2) of a result that names no hold; R248 gives only HIT_KIND, HIT_SLOT and HIT_PATH there. -/
opaque Config.noHit : Nat → Nat

/-- Capacity (2) and Level (4) of device queues 0 to 15: the values that the firmware fixes (R420), which the spec does not give. -/
opaque Config.deviceQueue : Nat → Nat → Nat

/-- The one record that 3A30:01 holds by default (VLAN 1 with every port a member, R377). -/
def Config.vlanDefault : List Byte := [0x01, 0x00, 0xFF, 0xFF, 0x00, 0x00, 0x00, 0x00]
/-- The default of 4003:01: 256 records of priority 0xFF and an empty affinity mask (R425). -/
def Config.affinityDefault : List Byte := (List.replicate 256 [0xFF, 0x00]).flatten

end Sys2Proof
end

