-- ==== Sys2Proof/Machine/Dict.lean ====
section
/-!
DEFINITION. The static object dictionary (R28, R29, R31, R35, R573): every entry the chapters of spec/ define, with its
type, direction, access class, default, allowed values and whether it is a command entry. Generated from the spec's tables.
-/
namespace Sys2Proof.Machine

/-- Entries with an index of 1000 to 10FF. -/
def dict10a : List Row := [
  ⟨0x1001, 1, 1, 0, 0, .u8, .ro, .opn, .num 0, [], false⟩,
  ⟨0x1015, 1, 1, 0, 0, .u16, .rw, .opn, .num 0, [], false⟩,
  ⟨0x1017, 1, 1, 0, 0, .u16, .rw, .opn, .num 1000, [], false⟩,
  ⟨0x1018, 1, 1, 1, 1, .u32, .ro, .factory, .num 1207, [], false⟩,
  ⟨0x1018, 1, 1, 2, 2, .u32, .ro, .factory, .num 34368, [], false⟩,
  ⟨0x1018, 1, 1, 3, 3, .u32, .ro, .factory, .num 1107296259, [], false⟩,
  ⟨0x1018, 1, 1, 4, 4, .u32, .ro, .factory, .num Config.serialNumber, [], false⟩
]

/-- Entries with an index of 1800 to 18FF. -/
def dict18a : List Row := [
  ⟨0x1800, 2, 1, 1, 1, .u32, .ro, .opn, .num 0, [], false⟩
]

/-- Entries with an index of 1A00 to 1AFF. -/
def dict1Aa : List Row := [
  ⟨0x1A00, 2, 1, 1, 1, (.oct 8), .ro, .opn, .oct Config.tpdoMapping, [], false⟩
]

/-- Entries with an index of 1E00 to 1EFF. -/
def dict1Ea : List Row := [
  ⟨0x1E00, 1, 1, 1, 1, .u8, .rw, .guarded, .num 0x20, [(1, 127)], false⟩,
  ⟨0x1E00, 2, 1, 2, 2, .u16, .rw, .guarded, .num 500, [(125, 125), (250, 250), (500, 500), (1000, 1000)], false⟩,
  ⟨0x1E00, 2, 1, 3, 3, .u16, .rw, .guarded, .num 2000, [(1000, 1000), (2000, 2000), (4000, 4000), (5000, 5000), (8000, 8000)], false⟩,
  ⟨0x1E00, 2, 1, 4, 4, .u8, .rw, .opn, .num 0, [], false⟩,
  ⟨0x1E01, 1, 1, 1, 1, .u8, .rw, .guarded, .num 0x21, [(1, 127)], false⟩
]

/-- Entries with an index of 2000 to 20FF. -/
def dict20a : List Row := [
  ⟨0x2010, 1, 1, 1, 1, .u8, .wo, .opn, .num 0, [(1, 4)], true⟩,
  ⟨0x2010, 1, 1, 2, 2, .time80, .rw, .opn, .num 0, [], false⟩,
  ⟨0x2010, 1, 1, 3, 3, .u8, .ro, .opn, .num 0, [], false⟩,
  ⟨0x2010, 1, 1, 4, 4, .u16, .ro, .opn, .num 0, [], false⟩,
  ⟨0x2010, 1, 1, 5, 5, .u32, .ro, .opn, .num 0, [], false⟩,
  ⟨0x2010, 1, 1, 6, 6, .u32, .ro, .opn, .num 0, [], false⟩,
  ⟨0x2010, 1, 1, 7, 7, .u16, .ro, .opn, .num 0, [], false⟩,
  ⟨0x2010, 1, 1, 8, 8, (.oct 20), .ro, .opn, .oct (zeros 20), [], false⟩,
  ⟨0x2010, 1, 1, 9, 9, .time80, .ro, .opn, .num 0, [], false⟩,
  ⟨0x2010, 1, 1, 10, 10, .u32, .ro, .opn, .num 0, [], false⟩,
  ⟨0x2020, 1, 1, 1, 10, .u8, .ro, .opn, .num 0, [], false⟩,
  ⟨0x2021, 1, 1, 1, 10, .u16, .ro, .opn, .num 0, [], false⟩,
  ⟨0x2030, 1, 1, 1, 1, .u16, .rw, .guarded, .num 30511, [(1024, 65535)], false⟩,
  ⟨0x2030, 1, 1, 2, 2, .u8, .rw, .guarded, .num 255, [], false⟩,
  ⟨0x2030, 1, 1, 3, 3, .u16, .rw, .guarded, .num 30, [(5, 600)], false⟩,
  ⟨0x2030, 1, 1, 4, 4, .u16, .rw, .guarded, .num 60, [(10, 3600)], false⟩,
  ⟨0x2040, 1, 1, 1, 1, .u8, .rw, .opn, .num 0, [(0, 2)], false⟩,
  ⟨0x2040, 1, 1, 2, 2, .u8, .ro, .opn, .num 0, [], false⟩,
  ⟨0x2040, 1, 1, 3, 3, .u16, .ro, .opn, .num 0, [], false⟩,
  ⟨0x2040, 1, 1, 4, 4, .u16, .ro, .opn, .num 13500, [], false⟩,
  ⟨0x2040, 1, 1, 5, 5, .u32, .ro, .opn, .num 0, [], false⟩,
  ⟨0x2050, 1, 1, 1, 1, .u8, .wo, .opn, .num 0, [(1, 4)], true⟩,
  ⟨0x2050, 1, 1, 2, 2, .u8, .ro, .opn, .num 0, [], false⟩,
  ⟨0x2050, 1, 1, 3, 3, .u8, .rw, .opn, .num 15, [], false⟩,
  ⟨0x2050, 1, 1, 4, 4, .u32, .rw, .opn, .num 0, [(0, 0), (60, 2592000)], false⟩,
  ⟨0x2050, 1, 1, 5, 5, .bool, .rw, .opn, .num 1, [], false⟩,
  ⟨0x2050, 1, 1, 6, 6, .u8, .ro, .opn, .num 0, [], false⟩,
  ⟨0x2060, 1, 1, 1, 1, .u8, .wo, .opn, .num 0, [(90, 90)], true⟩,
  ⟨0x2060, 1, 1, 2, 2, .u8, .ro, .opn, .num 1, [], false⟩,
  ⟨0x2060, 1, 1, 3, 3, .u32, .ro, .opn, .num 0, [], false⟩,
  ⟨0x2060, 1, 1, 4, 4, .u16, .ro, .opn, .num 0, [], false⟩,
  ⟨0x2060, 1, 1, 5, 5, .u16, .rw, .opn, .num 1000, [(100, 10000)], false⟩
]

/-- Further entries with an index of 2000 to 20FF. -/
def dict20b : List Row := [
  ⟨0x2060, 1, 1, 6, 6, .u32, .ro, .opn, .num 0, [], false⟩,
  ⟨0x2070, 1, 1, 1, 1, .u16, .ro, .opn, .num 0, [], false⟩,
  ⟨0x2070, 1, 1, 2, 2, .u32, .ro, .opn, .num 0, [], false⟩,
  ⟨0x2071, 1, 1, 1, 1, (.oct 64), .ro, .opn, .oct (zeros 64), [], false⟩,
  ⟨0x2080, 1, 1, 1, 1, .i16, .ro, .opn, .num 0, [], false⟩,
  ⟨0x2080, 1, 1, 2, 2, .i16, .ro, .opn, .num 0, [], false⟩,
  ⟨0x2080, 1, 1, 3, 3, .i16, .rw, .opn, .num 1100, [(700, 1250)], false⟩,
  ⟨0x2080, 1, 1, 4, 4, (.oct 16), .ro, .opn, .oct (zeros 16), [], false⟩,
  ⟨0x2090, 1, 1, 1, 1, .u16, .rw, .opn, .num 0, [], false⟩,
  ⟨0x2090, 1, 1, 2, 2, .u16, .rw, .opn, .num 0, [], true⟩,
  ⟨0x2090, 1, 1, 3, 3, .u16, .ro, .opn, .num 0, [], false⟩
]

/-- Entries with an index of 2200 to 22FF. -/
def dict22a : List Row := [
  ⟨0x2200, 1, 1, 1, 1, .u8, .ro, .opn, .num 0, [], false⟩,
  ⟨0x2200, 1, 1, 2, 2, .time80, .ro, .opn, .num 0, [], false⟩,
  ⟨0x2200, 1, 1, 3, 3, .u64, .ro, .opn, .num 0, [], false⟩,
  ⟨0x2200, 1, 1, 4, 4, .u8, .ro, .opn, .num 0, [], false⟩,
  ⟨0x2200, 1, 1, 5, 5, .u32, .ro, .opn, .num 4294967295, [], false⟩,
  ⟨0x2200, 1, 1, 6, 6, .u32, .ro, .opn, .num 0, [], false⟩,
  ⟨0x2200, 1, 1, 7, 7, .time80, .ro, .opn, .num 0, [], false⟩,
  ⟨0x2200, 1, 1, 8, 8, .i64, .ro, .opn, .num 0, [], false⟩,
  ⟨0x2200, 1, 1, 9, 9, .i16, .ro, .opn, .num 0, [], false⟩,
  ⟨0x2200, 1, 1, 10, 10, .u8, .ro, .opn, .num 0, [], false⟩,
  ⟨0x2200, 1, 1, 11, 11, .i64, .ro, .opn, .num 0, [], false⟩,
  ⟨0x2200, 1, 1, 12, 12, .i32, .ro, .opn, .num 0, [], false⟩,
  ⟨0x2201, 1, 1, 1, 1, (.oct 32), .ro, .opn, .oct (zeros 32), [], false⟩,
  ⟨0x2210, 1, 1, 1, 1, (.oct 4), .rw, .opn, .oct [0x01, 0x02, 0x03, 0x00], [], false⟩,
  ⟨0x2210, 1, 1, 2, 2, .u16, .rw, .opn, .num 100, [(1, 1000)], false⟩,
  ⟨0x2210, 1, 1, 3, 3, .u16, .rw, .opn, .num 30, [(1, 1000)], false⟩,
  ⟨0x2210, 1, 1, 4, 4, .u16, .rw, .opn, .num 707, [(500, 2000)], false⟩,
  ⟨0x2210, 1, 1, 5, 5, .u16, .rw, .opn, .num 500, [(1, 500)], false⟩,
  ⟨0x2210, 1, 1, 6, 6, .u32, .rw, .opn, .num 100, [(10, 500000)], false⟩,
  ⟨0x2210, 1, 1, 7, 7, .u16, .rw, .opn, .num 10, [(1, 600)], false⟩,
  ⟨0x2210, 1, 1, 8, 8, .u8, .rw, .opn, .num 4, [(2, 16)], false⟩,
  ⟨0x2210, 1, 1, 9, 9, .u8, .rw, .opn, .num 0, [(0, 1)], false⟩,
  ⟨0x2210, 1, 1, 10, 10, .i32, .rw, .opn, .num 0, [(-5000000, 5000000)], false⟩,
  ⟨0x2210, 1, 1, 11, 11, .i32, .rw, .opn, .num 0, [(-5000000, 5000000)], false⟩,
  ⟨0x2210, 1, 1, 12, 12, .u32, .rw, .opn, .num 1000, [(100, 1000000)], false⟩,
  ⟨0x2210, 1, 1, 13, 13, .u16, .rw, .opn, .num 64, [(16, 3600)], false⟩,
  ⟨0x2211, 1, 1, 1, 1, .u32, .ro, .opn, .num 524288, [], false⟩,
  ⟨0x2211, 1, 1, 2, 2, .i64, .ro, .opn, .num 0, [], false⟩,
  ⟨0x2211, 1, 1, 3, 3, .i64, .ro, .opn, .num 0, [], false⟩,
  ⟨0x2211, 1, 1, 4, 4, .u8, .ro, .opn, .num 0, [], false⟩,
  ⟨0x2220, 2, 1, 1, 1, .u8, .rw, .opn, .num 0, [(0, 2)], false⟩,
  ⟨0x2220, 2, 1, 2, 2, .u8, .rw, .opn, .num 0, [(0, 2)], false⟩
]

/-- Further entries with an index of 2200 to 22FF. -/
def dict22b : List Row := [
  ⟨0x2220, 2, 1, 3, 3, .u8, .rw, .opn, .num 0, [(0, 127)], false⟩,
  ⟨0x2220, 2, 1, 4, 4, .u8, .rw, .opn, .num 128, [(0, 255)], false⟩,
  ⟨0x2220, 2, 1, 5, 5, .u8, .rw, .opn, .num 128, [(0, 255)], false⟩,
  ⟨0x2220, 2, 1, 6, 6, .i8, .rw, .opn, .num 1, [(0, 4)], false⟩,
  ⟨0x2220, 2, 1, 7, 7, .i8, .rw, .opn, .num 0, [(-3, 1)], false⟩,
  ⟨0x2220, 2, 1, 8, 8, .i8, .rw, .opn, .num 0, [(0, 5)], false⟩,
  ⟨0x2220, 2, 1, 9, 9, .u8, .rw, .opn, .num 3, [(2, 10)], false⟩,
  ⟨0x2220, 2, 1, 10, 10, .i32, .rw, .opn, .num 0, [], false⟩,
  ⟨0x2220, 2, 1, 11, 11, .u16, .rw, .opn, .num 0, [(0, 4094)], false⟩,
  ⟨0x2220, 2, 1, 12, 12, .u8, .rw, .opn, .num 0, [(0, 2)], false⟩,
  ⟨0x2222, 1, 1, 1, 1, (.oct 8), .ro, .factory, .oct Config.clockIdentity, [], false⟩,
  ⟨0x2222, 1, 1, 2, 3, .u8, .ro, .opn, .num 0, [], false⟩,
  ⟨0x2222, 1, 1, 4, 4, (.oct 10), .ro, .opn, .oct (zeros 10), [], false⟩,
  ⟨0x2222, 1, 1, 5, 5, (.oct 8), .ro, .opn, .oct (zeros 8), [], false⟩,
  ⟨0x2222, 1, 1, 6, 6, .u16, .ro, .opn, .num 0, [], false⟩,
  ⟨0x2222, 1, 1, 7, 8, .i64, .ro, .opn, .num 0, [], false⟩,
  ⟨0x2240, 2, 1, 1, 1, .bool, .rw, .opn, .num 0, [], false⟩,
  ⟨0x2240, 2, 1, 2, 2, .u8, .rw, .opn, .num 0, [(0, 1)], false⟩,
  ⟨0x2240, 2, 1, 3, 3, .u32, .rw, .opn, .num 100000, [(1, 500000)], false⟩,
  ⟨0x2240, 2, 1, 4, 4, .i32, .rw, .opn, .num 0, [(-5000000, 5000000)], false⟩,
  ⟨0x2240, 2, 1, 5, 5, .u8, .rw, .opn, .num 0, [(0, 1)], false⟩,
  ⟨0x2240, 2, 1, 6, 6, (.oct 16), .rw, .opn, .oct (zeros 16), [], false⟩,
  ⟨0x2240, 2, 1, 7, 7, .u16, .rw, .opn, .num 0, [], false⟩,
  ⟨0x2242, 1, 1, 1, 2, (.oct 32), .ro, .opn, .oct (zeros 32), [], false⟩,
  ⟨0x2260, 1, 1, 1, 1, .u8, .ro, .opn, .num 0, [], false⟩,
  ⟨0x2260, 1, 1, 2, 2, (.oct 32), .ro, .opn, .oct (zeros 32), [], false⟩,
  ⟨0x2260, 1, 1, 3, 3, .u32, .ro, .opn, .num 0, [], false⟩,
  ⟨0x2260, 1, 1, 4, 4, .u16, .ro, .opn, .num 0, [], false⟩,
  ⟨0x2260, 1, 1, 5, 5, .i16, .ro, .opn, .num 0, [], false⟩,
  ⟨0x2260, 1, 1, 6, 7, .u16, .ro, .opn, .num 0, [], false⟩,
  ⟨0x2280, 15, 1, 1, 1, .u8, .rw, .opn, .num 0, [(0, 2)], false⟩,
  ⟨0x2280, 15, 1, 2, 2, .time80, .rw, .opn, .num 0, [], true⟩
]

/-- Further entries with an index of 2200 to 22FF. -/
def dict22c : List Row := [
  ⟨0x2280, 15, 1, 3, 3, .u64, .rw, .opn, .num 1000000000, [(1000, 1000000000000)], false⟩,
  ⟨0x2280, 15, 1, 4, 4, .u8, .rw, .opn, .num 1, [], false⟩,
  ⟨0x2280, 15, 1, 5, 5, .u8, .rw, .opn, .num 0, [(0, 3)], false⟩,
  ⟨0x2280, 15, 1, 6, 6, .u8, .rw, .opn, .num 0, [(0, 1)], false⟩,
  ⟨0x2280, 15, 1, 7, 7, .u8, .ro, .opn, .num 0, [], false⟩
]

/-- Entries with an index of 2400 to 24FF. -/
def dict24a : List Row := [
  ⟨0x2400, 1, 1, 1, 2, .bool, .rw, .opn, .num 1, [], false⟩,
  ⟨0x2400, 1, 1, 3, 4, .u8, .ro, .opn, .num 0, [], false⟩,
  ⟨0x2400, 1, 1, 5, 6, .u16, .ro, .opn, .num 0, [], false⟩,
  ⟨0x2410, 6, 1, 1, 4, .u8, .rw, .opn, .num 1, [(0, 2)], false⟩,
  ⟨0x2410, 6, 1, 5, 8, .i32, .rw, .opn, .num 0, [(-30000000, 30000000)], false⟩,
  ⟨0x2410, 6, 1, 9, 9, .u8, .rw, .opn, .num 15, [(6, 40)], false⟩,
  ⟨0x2410, 6, 1, 10, 10, .u16, .rw, .opn, .num 100, [(10, 2000)], false⟩,
  ⟨0x2410, 6, 1, 11, 11, .bool, .rw, .opn, .num 1, [], false⟩,
  ⟨0x2410, 6, 1, 12, 12, .u8, .rw, .opn, .num 40, [(20, 120)], false⟩,
  ⟨0x2410, 6, 1, 13, 13, .u16, .rw, .opn, .num 200, [(10, 10000)], false⟩,
  ⟨0x2420, 6, 1, 1, 4, .i32, .ro, .opn, .num 0, [], false⟩,
  ⟨0x2420, 6, 1, 5, 8, .u8, .ro, .opn, .num 0, [], false⟩,
  ⟨0x2420, 6, 1, 9, 9, .u8, .ro, .opn, .num 0, [], false⟩,
  ⟨0x2420, 6, 1, 10, 10, .u16, .ro, .opn, .num 0, [], false⟩,
  ⟨0x2420, 6, 1, 11, 11, .u16, .ro, .opn, .num 0, [], false⟩,
  ⟨0x2420, 6, 1, 12, 12, .i16, .ro, .opn, .num 0, [], false⟩,
  ⟨0x2420, 6, 1, 13, 13, .u8, .rw, .opn, .num 64, [(1, 255)], false⟩,
  ⟨0x2420, 6, 1, 14, 14, .u8, .ro, .opn, .num 0, [], false⟩,
  ⟨0x2430, 1, 1, 1, 1, .i16, .rw, .opn, .num 50, [(0, 300)], false⟩,
  ⟨0x2430, 1, 1, 2, 2, .u8, .rw, .opn, .num 2, [(1, 16)], false⟩,
  ⟨0x2430, 1, 1, 3, 3, .u16, .rw, .opn, .num 130, [(60, 250)], false⟩,
  ⟨0x2430, 1, 1, 4, 4, .u8, .rw, .opn, .num 0, [(1, 3)], true⟩,
  ⟨0x2430, 1, 1, 5, 5, .u16, .ro, .opn, .num 0, [], false⟩,
  ⟨0x2430, 1, 1, 6, 6, .u16, .ro, .opn, .num 0, [], false⟩,
  ⟨0x2440, 4, 1, 1, 1, .u8, .rw, .opn, .num 3, [(2, 3)], false⟩,
  ⟨0x2440, 1, 1, 2, 2, .u16, .rw, .opn, .num 120, [(10, 500)], false⟩,
  ⟨0x2440, 4, 1, 3, 3, .u8, .rw, .opn, .num 2, [(1, 2)], false⟩,
  ⟨0x2440, 4, 1, 4, 4, .u16, .rw, .opn, .num 100, [(10, 500)], false⟩,
  ⟨0x2440, 4, 1, 5, 5, .u16, .rw, .opn, .num 20, [(0, 200)], false⟩,
  ⟨0x2440, 4, 1, 6, 6, .u8, .rw, .opn, .num 2, [(1, 2)], false⟩,
  ⟨0x2440, 4, 1, 7, 7, .u16, .rw, .opn, .num 50, [(1, 500)], false⟩,
  ⟨0x2440, 1, 1, 8, 8, .u8, .rw, .opn, .num 10, [(5, 100)], false⟩
]

/-- Further entries with an index of 2400 to 24FF. -/
def dict24b : List Row := [
  ⟨0x2440, 1, 1, 9, 9, .u8, .rw, .opn, .num 20, [(1, 2), (4, 5), (10, 10), (20, 20)], false⟩,
  ⟨0x2440, 4, 1, 10, 10, .u16, .rw, .opn, .num 250, [(150, 400)], false⟩,
  ⟨0x2441, 1, 1, 2, 2, .u16, .rw, .opn, .num 100, [(10, 500)], false⟩,
  ⟨0x2441, 1, 1, 8, 8, .u8, .rw, .opn, .num 15, [(5, 100)], false⟩,
  ⟨0x2441, 1, 1, 9, 9, .u8, .rw, .opn, .num 20, [(1, 2), (4, 5), (10, 10), (20, 20)], false⟩,
  ⟨0x2442, 1, 1, 2, 2, .u16, .rw, .opn, .num 100, [(10, 500)], false⟩,
  ⟨0x2442, 1, 1, 8, 8, .u8, .rw, .opn, .num 50, [(5, 100)], false⟩,
  ⟨0x2442, 1, 1, 9, 9, .u8, .rw, .opn, .num 20, [(1, 2), (4, 5), (10, 10), (20, 20)], false⟩,
  ⟨0x2443, 1, 1, 2, 2, .u16, .rw, .opn, .num 100, [(10, 500)], false⟩,
  ⟨0x2443, 1, 1, 8, 8, .u8, .rw, .opn, .num 50, [(5, 100)], false⟩,
  ⟨0x2443, 1, 1, 9, 9, .u8, .rw, .opn, .num 10, [(1, 2), (4, 5), (10, 10), (20, 20)], false⟩,
  ⟨0x2460, 1, 1, 1, 1, (.blob 16777216), .ro, .opn, .oct [], [], false⟩,
  ⟨0x2460, 1, 1, 2, 2, .u16, .ro, .opn, .num 384, [], false⟩,
  ⟨0x2460, 1, 1, 3, 3, .u8, .ro, .opn, .num 32, [], false⟩,
  ⟨0x2460, 1, 1, 4, 4, (.oct 52), .ro, .opn, .oct (zeros 52), [], false⟩,
  ⟨0x2470, 1, 1, 1, 1, .u8, .rw, .opn, .num 4, [(0, 6)], false⟩,
  ⟨0x2470, 1, 1, 2, 2, (.blob 16777216), .ro, .opn, .oct [], [], false⟩,
  ⟨0x2470, 1, 1, 3, 3, .u16, .ro, .opn, .num 0, [], false⟩,
  ⟨0x2470, 1, 1, 4, 4, .u32, .ro, .opn, .num 0, [], false⟩,
  ⟨0x2480, 1, 1, 1, 1, .u8, .rw, .guarded, .num 31, [], false⟩,
  ⟨0x2480, 1, 1, 2, 2, .u8, .rw, .opn, .num 15, [(5, 40)], false⟩,
  ⟨0x2480, 1, 1, 3, 3, .u8, .rw, .opn, .num 10, [(3, 60)], false⟩,
  ⟨0x2480, 1, 1, 4, 4, .u16, .rw, .opn, .num 30, [(5, 1000)], false⟩,
  ⟨0x2480, 1, 1, 5, 5, .u32, .rw, .opn, .num 300, [(50, 100000)], false⟩,
  ⟨0x2480, 1, 1, 6, 6, .u16, .rw, .opn, .num 600, [(60, 7200)], false⟩,
  ⟨0x2480, 1, 1, 7, 7, .u16, .rw, .opn, .num 50, [(10, 1000)], false⟩,
  ⟨0x2480, 1, 1, 8, 8, .u16, .rw, .opn, .num 560, [(450, 700)], false⟩,
  ⟨0x2480, 1, 1, 9, 9, .u8, .rw, .opn, .num 10, [(0, 50)], false⟩,
  ⟨0x2480, 1, 1, 10, 10, .u8, .rw, .opn, .num 5, [(3, 9)], false⟩,
  ⟨0x2480, 1, 1, 11, 11, .u16, .rw, .opn, .num 60, [(10, 3600)], false⟩,
  ⟨0x2480, 1, 1, 12, 12, .u16, .rw, .opn, .num 300, [(30, 7200)], false⟩,
  ⟨0x2480, 1, 1, 13, 13, .i16, .rw, .opn, .num 100, [(0, 450)], false⟩
]

/-- Further entries with an index of 2400 to 24FF. -/
def dict24c : List Row := [
  ⟨0x2481, 1, 1, 1, 1, .bool, .ro, .opn, .num 0, [], false⟩,
  ⟨0x2481, 1, 1, 2, 2, .u8, .ro, .opn, .num 0, [], false⟩,
  ⟨0x2481, 1, 1, 3, 3, .u8, .ro, .opn, .num 0, [], false⟩,
  ⟨0x2481, 1, 1, 4, 4, .u16, .ro, .opn, .num 0, [], false⟩,
  ⟨0x2481, 1, 1, 5, 5, .u8, .ro, .opn, .num 0, [], false⟩,
  ⟨0x2481, 1, 1, 6, 6, .u16, .ro, .opn, .num 0, [], false⟩,
  ⟨0x2481, 1, 1, 7, 7, (.oct 12), .ro, .opn, .oct (zeros 12), [], false⟩,
  ⟨0x2490, 1, 1, 1, 1, (.oct 24), .rw, .guarded, .oct (zeros 24), [], false⟩,
  ⟨0x2490, 1, 1, 2, 2, .i32, .rw, .guarded, .num 0, [], false⟩,
  ⟨0x2490, 1, 1, 3, 3, .u8, .rw, .guarded, .num 0, [(0, 2)], false⟩,
  ⟨0x2490, 1, 1, 4, 4, .u32, .rw, .guarded, .num 0, [], false⟩,
  ⟨0x2490, 1, 1, 5, 5, (.oct 12), .rw, .guarded, .oct (zeros 12), [], false⟩,
  ⟨0x2490, 1, 1, 6, 6, .u16, .rw, .opn, .num 0, [(0, 4095)], false⟩,
  ⟨0x2490, 1, 1, 7, 7, (.str 31), .rw, .opn, .oct [], [], false⟩,
  ⟨0x2490, 1, 1, 8, 8, (.str 31), .rw, .opn, .oct [], [], false⟩,
  ⟨0x2490, 1, 1, 9, 9, .u8, .rw, .opn, .num 0, [], false⟩,
  ⟨0x2490, 1, 1, 10, 10, .u8, .rw, .opn, .num 0, [(0, 63)], false⟩,
  ⟨0x2491, 1, 1, 1, 6, (.oct 12), .rw, .opn, .oct (zeros 12), [], false⟩,
  ⟨0x2492, 1, 1, 1, 1, .u8, .rw, .guarded, .num 0, [(1, 2)], true⟩,
  ⟨0x2492, 1, 1, 2, 2, .u32, .rw, .opn, .num 14400, [(600, 604800)], false⟩,
  ⟨0x2492, 1, 1, 3, 3, .u32, .rw, .opn, .num 300, [(10, 10000)], false⟩,
  ⟨0x2492, 1, 1, 4, 4, .u8, .ro, .opn, .num 0, [], false⟩,
  ⟨0x2492, 1, 1, 5, 5, (.oct 24), .ro, .opn, .oct (zeros 24), [], false⟩,
  ⟨0x2492, 1, 1, 6, 6, .u32, .ro, .opn, .num 0, [], false⟩,
  ⟨0x2492, 1, 1, 7, 7, .u32, .ro, .opn, .num 0, [], false⟩,
  ⟨0x24C0, 1, 1, 1, 1, .bool, .rw, .opn, .num 0, [], false⟩,
  ⟨0x24C0, 1, 1, 2, 2, (.oct 16), .rw, .opn, .oct (zeros 16), [], false⟩,
  ⟨0x24C0, 1, 1, 3, 3, .u16, .rw, .opn, .num 0, [], false⟩,
  ⟨0x24C0, 1, 1, 4, 4, .u8, .rw, .opn, .num 1, [(1, 4)], false⟩,
  ⟨0x24C0, 1, 1, 5, 5, .u8, .rw, .opn, .num 2, [(0, 2)], false⟩,
  ⟨0x24C0, 1, 1, 6, 6, .u8, .rw, .opn, .num 10, [(1, 60)], false⟩,
  ⟨0x24C0, 1, 1, 7, 7, .u8, .rw, .opn, .num 15, [], false⟩
]

/-- Further entries with an index of 2400 to 24FF. -/
def dict24d : List Row := [
  ⟨0x24C0, 1, 1, 8, 8, .u16, .rw, .opn, .num 0, [(0, 4094)], false⟩
]

/-- Entries with an index of 2800 to 28FF. -/
def dict28a : List Row := [
  ⟨0x2800, 1, 1, 1, 1, .u16, .rw, .opn, .num 500, [(10, 5000)], false⟩,
  ⟨0x2800, 1, 1, 2, 2, .u16, .rw, .opn, .num 100, [(0, 1000)], false⟩,
  ⟨0x2800, 1, 1, 3, 3, .u16, .rw, .opn, .num 20, [(0, 1000)], false⟩,
  ⟨0x2800, 1, 1, 4, 4, .i16, .rw, .opn, .num 100, [(0, 300)], false⟩,
  ⟨0x2800, 1, 1, 5, 5, .u16, .rw, .opn, .num 30, [(5, 500)], false⟩,
  ⟨0x2800, 1, 1, 6, 6, .u16, .rw, .opn, .num 300, [(50, 5000)], false⟩,
  ⟨0x2800, 1, 1, 7, 7, .u16, .rw, .opn, .num 40, [(0, 1000)], false⟩,
  ⟨0x2800, 1, 1, 8, 8, .i16, .rw, .opn, .num 150, [(0, 450)], false⟩,
  ⟨0x2800, 1, 1, 9, 9, .u16, .rw, .opn, .num 300, [(150, 1000)], false⟩,
  ⟨0x2800, 1, 1, 10, 10, .u16, .rw, .opn, .num 9990, [(9000, 9999)], false⟩,
  ⟨0x2800, 1, 1, 11, 11, .u8, .rw, .opn, .num 6, [(4, 48)], false⟩,
  ⟨0x2800, 1, 1, 12, 12, .u8, .rw, .opn, .num 5, [(0, 50)], false⟩,
  ⟨0x2800, 1, 1, 13, 13, .u8, .rw, .opn, .num 5, [(3, 9)], false⟩,
  ⟨0x2800, 1, 1, 14, 14, .u16, .rw, .opn, .num 600, [(100, 2000)], false⟩,
  ⟨0x2800, 1, 1, 15, 15, .u16, .rw, .opn, .num 533, [(100, 2000)], false⟩,
  ⟨0x2800, 1, 1, 16, 16, .u8, .rw, .opn, .num 10, [(1, 100)], false⟩,
  ⟨0x2800, 1, 1, 17, 17, .u8, .rw, .opn, .num 3, [(1, 100)], false⟩,
  ⟨0x2800, 1, 1, 18, 18, .u16, .rw, .opn, .num 1000, [(200, 10000)], false⟩,
  ⟨0x2800, 1, 1, 19, 19, .u16, .rw, .opn, .num 30, [(0, 300)], false⟩,
  ⟨0x2800, 1, 1, 20, 20, .u16, .rw, .opn, .num 500, [(0, 10000)], false⟩,
  ⟨0x2801, 1, 1, 1, 1, .u8, .ro, .opn, .num 8, [], false⟩,
  ⟨0x2801, 1, 1, 2, 2, .u16, .ro, .opn, .num 2560, [], false⟩,
  ⟨0x2801, 1, 1, 3, 3, .u16, .ro, .opn, .num 0, [], false⟩,
  ⟨0x2801, 1, 1, 4, 4, .u16, .ro, .opn, .num 0, [], false⟩,
  ⟨0x2801, 1, 1, 5, 5, .u32, .ro, .opn, .num 0, [], false⟩,
  ⟨0x2801, 1, 1, 6, 6, .u32, .ro, .opn, .num 0, [], false⟩,
  ⟨0x2801, 1, 1, 7, 7, .u16, .ro, .opn, .num 0, [], false⟩,
  ⟨0x2801, 1, 1, 8, 8, .u32, .ro, .opn, .num 0, [], false⟩,
  ⟨0x2801, 1, 1, 9, 9, .u16, .ro, .opn, .num 0, [], false⟩,
  ⟨0x2801, 1, 1, 10, 10, .u8, .ro, .opn, .num 8, [], false⟩,
  ⟨0x2801, 1, 1, 11, 11, (.oct 17), .ro, .opn, .oct (zeros 17), [], false⟩,
  ⟨0x2801, 1, 1, 12, 12, .u16, .ro, .opn, .num 0, [], false⟩
]

/-- Entries with an index of 2C00 to 2CFF. -/
def dict2Ca : List Row := [
  ⟨0x2C00, 1, 1, 1, 1, .i32, .rw, .guarded, .num 0, [(-314159265, 314159265)], false⟩,
  ⟨0x2C00, 1, 1, 2, 2, .u16, .rw, .opn, .num 500, [(50, 10000)], false⟩,
  ⟨0x2C01, 1, 1, 1, 1, (.oct 72), .ro, .opn, .oct (zeros 72), [], false⟩,
  ⟨0x2C01, 1, 1, 2, 2, .u32, .ro, .opn, .num 0, [], false⟩,
  ⟨0x2C10, 1, 1, 1, 1, (.blob 262144), .rw, .opn, .oct [], [], false⟩,
  ⟨0x2C10, 1, 1, 2, 2, (.blob 786432), .rw, .opn, .oct [], [], false⟩,
  ⟨0x2C10, 1, 1, 3, 3, (.blob 524288), .rw, .opn, .oct [], [], false⟩,
  ⟨0x2C10, 1, 1, 4, 4, (.blob 131072), .rw, .opn, .oct [], [], false⟩,
  ⟨0x2C11, 1, 1, 1, 5, .u32, .ro, .opn, .num 0, [], false⟩,
  ⟨0x2C11, 1, 1, 6, 6, .u16, .ro, .opn, .num 0, [], false⟩,
  ⟨0x2C20, 1, 1, 1, 1, (.blob 16384), .rw, .opn, .oct [], [], false⟩,
  ⟨0x2C20, 1, 1, 2, 2, (.blob 524288), .rw, .opn, .oct [], [], false⟩,
  ⟨0x2C21, 1, 1, 1, 1, .u32, .ro, .opn, .num 0, [], false⟩,
  ⟨0x2C21, 1, 1, 2, 2, .u32, .ro, .opn, .num 0, [], false⟩,
  ⟨0x2C21, 1, 1, 3, 3, .u16, .ro, .opn, .num 1, [], false⟩
]

/-- Entries with an index of 2E00 to 2EFF. -/
def dict2Ea : List Row := [
  ⟨0x2E00, 1, 1, 1, 1, .u16, .rw, .opn, .num 5000, [(100, 60000)], false⟩,
  ⟨0x2E00, 1, 1, 2, 2, .u8, .rw, .opn, .num 90, [(50, 99)], false⟩,
  ⟨0x2E10, 1, 1, 1, 1, (.blob 32792), .wo, .opn, .oct [], [], true⟩,
  ⟨0x2E11, 1, 1, 1, 1, (.oct 32), .ro, .opn, .oct (zeros 32), [], false⟩,
  ⟨0x2E11, 1, 1, 2, 2, (.blob 16777216), .ro, .opn, .oct [], [], false⟩,
  ⟨0x2E12, 1, 1, 1, 1, .u16, .wo, .opn, .num 0, [], true⟩,
  ⟨0x2E12, 1, 1, 2, 2, (.blob 16777216), .ro, .opn, .oct [], [], false⟩,
  ⟨0x2E14, 1, 1, 1, 1, .u16, .wo, .guarded, .num 0, [(0, 1023)], true⟩,
  ⟨0x2E20, 1, 1, 1, 1, .u32, .ro, .opn, .num 0, [], false⟩,
  ⟨0x2E20, 1, 1, 2, 2, .u32, .ro, .opn, .num 0, [], false⟩,
  ⟨0x2E20, 1, 1, 3, 3, .u16, .ro, .opn, .num 0, [], false⟩,
  ⟨0x2E20, 1, 1, 4, 4, .u8, .ro, .opn, .num 0, [], false⟩,
  ⟨0x2E20, 1, 1, 5, 5, .u32, .ro, .opn, .num 0, [], false⟩,
  ⟨0x2E20, 1, 1, 6, 6, .u32, .ro, .opn, .num 0, [], false⟩,
  ⟨0x2E20, 1, 1, 7, 7, .u32, .ro, .opn, .num 0, [], false⟩
]

/-- Entries with an index of 3000 to 30FF. -/
def dict30a : List Row := [
  ⟨0x3000, 1, 1, 1, 1, .u16, .rw, .opn, .num 1000, [(100, 1000)], false⟩,
  ⟨0x3000, 1, 1, 2, 2, .u8, .rw, .opn, .num 50, [(10, 50)], false⟩,
  ⟨0x3000, 1, 1, 3, 3, .u16, .rw, .opn, .num 2000, [(0, 60000)], false⟩,
  ⟨0x3000, 1, 1, 4, 4, .u16, .rw, .opn, .num 4, [(0, 1000)], false⟩,
  ⟨0x3000, 1, 1, 5, 5, .u8, .rw, .opn, .num 16, [(1, 32)], false⟩,
  ⟨0x3000, 1, 1, 6, 6, .u16, .rw, .opn, .num 200, [(20, 2000)], false⟩,
  ⟨0x3000, 1, 1, 7, 7, .u8, .rw, .opn, .num 10, [(0, 100)], false⟩,
  ⟨0x3000, 1, 1, 8, 8, .u16, .rw, .opn, .num 120, [(1, 590)], false⟩,
  ⟨0x3000, 1, 1, 9, 9, .u16, .rw, .opn, .num 60, [(1, 3600)], false⟩,
  ⟨0x3001, 1, 1, 1, 1, (.oct 48), .wo, .opn, .oct (zeros 48), [], true⟩,
  ⟨0x3001, 1, 1, 2, 2, .u32, .wo, .opn, .num 0, [], true⟩,
  ⟨0x3001, 1, 1, 3, 3, (.oct 8), .ro, .opn, .oct (zeros 8), [], false⟩,
  ⟨0x3002, 1, 1, 1, 1, (.blob 16777216), .ro, .opn, .oct [], [], false⟩,
  ⟨0x3010, 1, 1, 1, 1, .u16, .rw, .opn, .num 0, [(0, 10000)], false⟩,
  ⟨0x3020, 1, 1, 1, 1, .u32, .ro, .opn, .num 0, [], false⟩,
  ⟨0x3020, 1, 1, 2, 2, .u16, .ro, .opn, .num 0, [], false⟩,
  ⟨0x3020, 1, 1, 3, 3, .u8, .ro, .opn, .num 0, [], false⟩,
  ⟨0x3020, 1, 1, 4, 4, .u16, .ro, .opn, .num 0, [], false⟩,
  ⟨0x3020, 1, 1, 5, 5, .u16, .ro, .opn, .num 0, [], false⟩,
  ⟨0x3020, 1, 1, 6, 6, .u32, .ro, .opn, .num 0, [], false⟩,
  ⟨0x3020, 1, 1, 7, 7, .u16, .ro, .opn, .num 0, [], false⟩,
  ⟨0x3020, 1, 1, 8, 8, .u32, .ro, .opn, .num 0, [], false⟩
]

/-- Entries with an index of 3400 to 34FF. -/
def dict34a : List Row := [
  ⟨0x3400, 1, 1, 1, 16, (.oct 24), .rw, .opn, .oct (zeros 24), [], false⟩,
  ⟨0x3410, 1, 1, 1, 1, .u8, .rw, .opn, .num 50, [(20, 200)], false⟩,
  ⟨0x3410, 1, 1, 2, 2, .u16, .rw, .opn, .num 30, [(1, 600)], false⟩,
  ⟨0x3420, 1, 1, 1, 1, .u16, .rw, .guarded, .num 30512, [(1024, 65535)], false⟩,
  ⟨0x3420, 1, 1, 2, 2, .u8, .rw, .guarded, .num 255, [], false⟩,
  ⟨0x3420, 1, 1, 3, 3, .u8, .rw, .opn, .num 127, [], false⟩,
  ⟨0x3420, 1, 1, 4, 4, .u8, .rw, .opn, .num 10, [(2, 100)], false⟩,
  ⟨0x3421, 1, 1, 1, 5, .u32, .ro, .opn, .num 0, [], false⟩,
  ⟨0x3430, 1, 1, 1, 128, (.oct 18), .rw, .opn, .oct (zeros 18), [], false⟩,
  ⟨0x3431, 1, 1, 1, 1, (.blob 16777216), .ro, .opn, .oct [], [], false⟩
]

/-- Entries with an index of 3600 to 36FF. -/
def dict36a : List Row := [
  ⟨0x3600, 8, 1, 1, 1, .bool, .rw, .opn, .num 0, [], false⟩,
  ⟨0x3600, 8, 1, 2, 2, .u16, .rw, .opn, .num 40, [(10, 2000)], false⟩,
  ⟨0x3600, 8, 1, 3, 3, .u16, .rw, .opn, .num 200, [(20, 20000)], false⟩,
  ⟨0x3600, 8, 1, 4, 4, .u16, .rw, .opn, .num 200, [(20, 20000)], false⟩,
  ⟨0x3600, 8, 1, 5, 5, .u32, .rw, .opn, .num 10000, [(1, 8000000)], false⟩,
  ⟨0x3600, 8, 1, 6, 6, .u32, .rw, .opn, .num 100000, [(1, 1000000000)], false⟩,
  ⟨0x3600, 8, 1, 7, 7, .u32, .rw, .opn, .num 100000, [(1, 1000000000)], false⟩,
  ⟨0x3600, 8, 1, 8, 8, .u32, .rw, .opn, .num 1000000, [(1, 4000000000)], false⟩,
  ⟨0x3600, 8, 1, 9, 9, .i32, .rw, .opn, .num (-2147483648), [], false⟩,
  ⟨0x3600, 8, 1, 10, 10, .i32, .rw, .opn, .num 2147483647, [], false⟩,
  ⟨0x3600, 8, 1, 11, 11, .u8, .rw, .opn, .num 0, [(0, 1)], false⟩,
  ⟨0x3600, 8, 1, 12, 12, .u8, .rw, .opn, .num 0, [], false⟩,
  ⟨0x3600, 8, 1, 13, 13, .u16, .rw, .opn, .num 100, [(1, 10000)], false⟩,
  ⟨0x3600, 8, 1, 14, 14, .u16, .rw, .opn, .num 500, [], false⟩,
  ⟨0x3600, 8, 1, 15, 15, .u16, .rw, .opn, .num 20, [(0, 1000)], false⟩,
  ⟨0x3600, 8, 1, 16, 16, .u16, .rw, .opn, .num 50, [(0, 1000)], false⟩,
  ⟨0x3600, 8, 1, 17, 17, .u16, .rw, .opn, .num 100, [(0, 10000)], false⟩,
  ⟨0x3600, 8, 1, 18, 18, .u32, .rw, .opn, .num 200, [], false⟩,
  ⟨0x3600, 8, 1, 19, 19, .u16, .rw, .opn, .num 0, [(0, 0), (4, 4096)], false⟩,
  ⟨0x3600, 8, 1, 20, 20, .u8, .rw, .opn, .num 0, [(0, 4)], false⟩,
  ⟨0x3600, 8, 1, 21, 21, .u32, .rw, .opn, .num 1000, [], false⟩,
  ⟨0x3600, 8, 1, 22, 22, .u32, .rw, .opn, .num 100, [], false⟩,
  ⟨0x3600, 8, 1, 23, 23, .u32, .rw, .opn, .num 1000, [], false⟩,
  ⟨0x3600, 8, 1, 24, 24, .i32, .rw, .opn, .num 0, [], false⟩,
  ⟨0x3600, 8, 1, 25, 25, .u32, .rw, .opn, .num 4294967295, [], false⟩,
  ⟨0x3610, 8, 1, 1, 1, .u8, .ro, .opn, .num 0, [], false⟩,
  ⟨0x3610, 8, 1, 2, 2, .i32, .ro, .opn, .num 0, [], false⟩,
  ⟨0x3610, 8, 1, 3, 3, .i32, .ro, .opn, .num 0, [], false⟩,
  ⟨0x3610, 8, 1, 4, 4, .u16, .ro, .opn, .num 1, [], false⟩,
  ⟨0x3610, 8, 1, 5, 5, .u16, .ro, .opn, .num 0, [], false⟩,
  ⟨0x3610, 8, 1, 6, 6, .i32, .ro, .opn, .num 0, [], false⟩,
  ⟨0x3610, 8, 1, 7, 7, .i32, .ro, .opn, .num 0, [], false⟩
]

/-- Further entries with an index of 3600 to 36FF. -/
def dict36b : List Row := [
  ⟨0x3610, 8, 1, 8, 8, .u8, .ro, .opn, .num 0, [], false⟩,
  ⟨0x3620, 8, 1, 0, 0, (.oct 8), .wo, .opn, .oct (zeros 8), [], true⟩,
  ⟨0x3630, 8, 1, 0, 0, .i32, .wo, .guarded, .num 0, [], true⟩
]

/-- Entries with an index of 3800 to 38FF. -/
def dict38a : List Row := [
  ⟨0x3800, 1, 1, 1, 1, .u8, .wo, .opn, .num 0, [(1, 3)], true⟩,
  ⟨0x3800, 1, 1, 2, 2, .u32, .wo, .opn, .num 0, [], true⟩,
  ⟨0x3800, 1, 1, 3, 3, .u8, .wo, .opn, .num 0, [], true⟩,
  ⟨0x3801, 1, 1, 1, 1, .u8, .ro, .opn, .num 1, [], false⟩,
  ⟨0x3801, 1, 1, 2, 2, .u8, .ro, .opn, .num 2, [], false⟩,
  ⟨0x3801, 1, 1, 3, 3, .u32, .ro, .opn, .num 0, [], false⟩,
  ⟨0x3801, 1, 1, 4, 4, .u16, .ro, .opn, .num 64, [], false⟩,
  ⟨0x3801, 1, 1, 5, 5, .time80, .ro, .opn, .num 0, [], false⟩,
  ⟨0x3801, 1, 1, 6, 6, .time80, .ro, .opn, .num 0, [], false⟩,
  ⟨0x3801, 1, 1, 7, 7, .u8, .ro, .opn, .num 0, [], false⟩,
  ⟨0x3801, 1, 1, 8, 8, .u8, .ro, .opn, .num 0, [], false⟩,
  ⟨0x3801, 1, 1, 9, 9, .u16, .ro, .opn, .num 0, [], false⟩,
  ⟨0x3801, 1, 1, 10, 10, .u16, .ro, .opn, .num 0, [], false⟩,
  ⟨0x3801, 1, 1, 11, 11, .u16, .ro, .opn, .num 0, [], false⟩,
  ⟨0x3810, 1, 1, 1, 1, .u8, .rw, .guarded, .num 3, [(1, 3)], false⟩,
  ⟨0x3810, 1, 1, 2, 2, .u8, .rw, .guarded, .num 2, [(1, 3)], false⟩,
  ⟨0x3810, 1, 1, 3, 3, .u8, .rw, .guarded, .num 20, [(10, 50)], false⟩,
  ⟨0x3810, 1, 1, 4, 4, .u16, .rw, .guarded, .num 50, [(5, 500)], false⟩,
  ⟨0x3810, 1, 1, 5, 5, .u8, .rw, .guarded, .num 0, [], false⟩,
  ⟨0x3810, 1, 1, 6, 6, .u8, .rw, .guarded, .num 1, [(1, 3)], false⟩,
  ⟨0x3810, 1, 1, 7, 7, .u8, .rw, .guarded, .num 1, [(1, 3)], false⟩,
  ⟨0x3810, 1, 1, 8, 8, .u16, .rw, .guarded, .num 1000, [(0, 0), (100, 10000)], false⟩,
  ⟨0x3810, 1, 1, 9, 9, .u16, .rw, .guarded, .num 300, [(50, 2000)], false⟩,
  ⟨0x3810, 1, 1, 10, 10, .u8, .rw, .guarded, .num 2, [(1, 3)], false⟩,
  ⟨0x3810, 1, 1, 11, 11, .u16, .rw, .opn, .num 0, [(0, 0), (100, 60000)], false⟩,
  ⟨0x3810, 1, 1, 12, 12, .u8, .rw, .opn, .num 2, [(1, 3)], false⟩,
  ⟨0x3810, 1, 1, 13, 13, .u8, .rw, .guarded, .num 0, [(0, 2)], false⟩,
  ⟨0x3810, 1, 1, 14, 14, .u8, .rw, .guarded, .num 2, [(1, 3)], false⟩,
  ⟨0x3820, 1, 1, 1, 1, .u8, .rw, .guarded, .num 255, [], false⟩,
  ⟨0x3820, 1, 1, 2, 2, (.oct 16), .rw, .guarded, .oct ([0,0,0,0,0,0,0,0,0,0,0xFF,0xFF,255,255,255,255]), [], false⟩,
  ⟨0x3820, 1, 1, 3, 3, .u16, .rw, .guarded, .num 30512, [(1024, 65535)], false⟩,
  ⟨0x3820, 1, 1, 4, 4, (.oct 8), .rw, .guarded, .oct [0x00, 0x00, 0xFF, 0xFF, 0xFF, 0xFF, 0xFF, 0xFF], [], false⟩
]

/-- Entries with an index of 3A00 to 3AFF. -/
def dict3Aa : List Row := [
  ⟨0x3A00, 1, 1, 1, 1, (.oct 6), .ro, .factory, .oct Config.macAddress, [], false⟩,
  ⟨0x3A00, 1, 1, 2, 2, .u16, .rw, .opn, .num 1522, [(1522, 9018)], false⟩,
  ⟨0x3A00, 1, 1, 3, 3, .u8, .rw, .opn, .num 6, [(0, 7)], false⟩,
  ⟨0x3A10, 8, 1, 1, 1, .bool, .rw, .opn, .num 1, [], false⟩,
  ⟨0x3A10, 8, 1, 2, 2, .u8, .rw, .opn, .num 3, [(0, 4)], false⟩,
  ⟨0x3A10, 8, 1, 3, 3, .u8, .rw, .opn, .num 3, [], false⟩,
  ⟨0x3A10, 8, 1, 4, 4, .u16, .rw, .opn, .num 1, [(1, 4094)], false⟩,
  ⟨0x3A10, 8, 1, 5, 5, .u8, .rw, .opn, .num 0, [(0, 2)], false⟩,
  ⟨0x3A10, 8, 1, 6, 6, .bool, .rw, .opn, .num 1, [], false⟩,
  ⟨0x3A10, 8, 1, 7, 7, .bool, .rw, .opn, .num 0, [], false⟩,
  ⟨0x3A18, 8, 1, 1, 1, .u8, .ro, .opn, .num 0, [], false⟩,
  ⟨0x3A18, 8, 1, 2, 2, .u16, .ro, .opn, .num 0, [], false⟩,
  ⟨0x3A18, 8, 1, 3, 3, .u8, .ro, .opn, .num 0, [], false⟩,
  ⟨0x3A18, 8, 1, 4, 4, .u64, .ro, .opn, .num 0, [], false⟩,
  ⟨0x3A18, 8, 1, 5, 5, .u64, .ro, .opn, .num 0, [], false⟩,
  ⟨0x3A18, 8, 1, 6, 6, .u32, .ro, .opn, .num 0, [], false⟩,
  ⟨0x3A18, 8, 1, 7, 7, .u32, .ro, .opn, .num 0, [], false⟩,
  ⟨0x3A18, 8, 1, 8, 8, .u32, .ro, .opn, .num 0, [], false⟩,
  ⟨0x3A18, 8, 1, 9, 9, .u32, .ro, .opn, .num 0, [], false⟩,
  ⟨0x3A20, 1, 1, 1, 1, .u32, .rw, .opn, .num 300, [(0, 0), (10, 1000000)], false⟩,
  ⟨0x3A20, 1, 1, 2, 2, .u8, .rw, .opn, .num 90, [(50, 99)], false⟩,
  ⟨0x3A20, 1, 1, 3, 3, .u8, .rw, .opn, .num 48, [(1, 64)], false⟩,
  ⟨0x3A21, 1, 1, 1, 12, .u32, .ro, .opn, .num 0, [], false⟩,
  ⟨0x3A30, 1, 1, 1, 1, (.blob 16777216), .rw, .opn, .oct Config.vlanDefault, [], false⟩,
  ⟨0x3A40, 1, 1, 1, 1, (.blob 16777216), .rw, .guarded, .oct [], [], false⟩,
  ⟨0x3A40, 1, 1, 2, 2, .u8, .rw, .opn, .num 125, [], false⟩,
  ⟨0x3A50, 1, 1, 1, 1, .u32, .ro, .opn, .num 0, [], false⟩,
  ⟨0x3A50, 1, 1, 2, 2, .u16, .ro, .opn, .num 0, [], false⟩,
  ⟨0x3A50, 1, 1, 3, 3, .u32, .ro, .opn, .num 0, [], false⟩,
  ⟨0x3A50, 1, 1, 4, 4, .u32, .ro, .opn, .num 0, [], false⟩,
  ⟨0x3A60, 1, 1, 1, 6, .u32, .ro, .opn, .num 0, [], false⟩,
  ⟨0x3A80, 1, 1, 1, 1, .u8, .rw, .opn, .num 0, [], true⟩
]

/-- Further entries with an index of 3A00 to 3AFF. -/
def dict3Ab : List Row := [
  ⟨0x3A80, 1, 1, 2, 2, (.oct 24), .rw, .opn, .oct (zeros 24), [], true⟩,
  ⟨0x3A80, 1, 1, 3, 3, (.oct 24), .rw, .opn, .oct (zeros 24), [], true⟩,
  ⟨0x3A80, 1, 1, 4, 4, .u8, .wo, .opn, .num 0, [], true⟩,
  ⟨0x3A80, 1, 1, 5, 5, .u16, .ro, .opn, .num 0, [], false⟩,
  ⟨0x3A80, 1, 1, 6, 6, (.oct 52), .ro, .opn, .oct (zeros 52), [], false⟩,
  ⟨0x3A81, 1, 1, 1, 1, (.blob 229376), .wo, .opn, .oct [], [], true⟩,
  ⟨0x3A81, 1, 1, 2, 2, (.oct 8), .ro, .opn, .oct (zeros 8), [], false⟩,
  ⟨0x3A90, 1, 1, 1, 3, .u32, .ro, .opn, .num 0, [], false⟩
]

/-- Entries with an index of 3E00 to 3EFF. -/
def dict3Ea : List Row := [
  ⟨0x3E00, 16, 1, 1, 1, .bool, .ro, .factory, .num 0, [], false⟩,
  ⟨0x3E00, 16, 1, 2, 2, .u32, .ro, .factory, .num 4096, [], false⟩,
  ⟨0x3E00, 16, 1, 3, 3, .u8, .ro, .factory, .num 0, [], false⟩,
  ⟨0x3E00, 16, 1, 4, 4, .u32, .ro, .factory, .num 0, [], false⟩,
  ⟨0x3E00, 16, 1, 5, 5, .u8, .ro, .factory, .num 0, [], false⟩,
  ⟨0x3E10, 240, 1, 1, 1, .bool, .rw, .opn, .num 0, [], false⟩,
  ⟨0x3E10, 240, 1, 2, 2, .u32, .rw, .opn, .num 4096, [(16, 16777216)], false⟩,
  ⟨0x3E10, 240, 1, 3, 3, .u8, .rw, .opn, .num 0, [(0, 3)], false⟩,
  ⟨0x3E10, 240, 1, 4, 4, .u32, .rw, .opn, .num 0, [(0, 1048576)], false⟩,
  ⟨0x3E10, 240, 1, 5, 5, .u8, .wo, .opn, .num 0, [], true⟩
]

/-- Entries with an index of 3F00 to 3FFF. -/
def dict3Fa : List Row := [
  ⟨0x3F00, 1, 1, 1, 1, (.blob 26624), .ro, .opn, .oct [], [], false⟩,
  ⟨0x3F10, 1, 1, 1, 1, .u8, .rw, .opn, .num 64, [(0, 64)], false⟩,
  ⟨0x3F10, 1, 1, 2, 2, .u8, .rw, .opn, .num 90, [(50, 99)], false⟩,
  ⟨0x3F10, 1, 1, 3, 3, .u32, .ro, .opn, .num 0, [], false⟩,
  ⟨0x3F10, 1, 1, 4, 4, .u8, .wo, .opn, .num 0, [], true⟩
]

/-- Entries with an index of 4000 to 40FF. -/
def dict40a : List Row := [
  ⟨0x4000, 1, 1, 1, 1, .u8, .rw, .opn, .num 90, [(50, 100)], false⟩,
  ⟨0x4000, 1, 1, 2, 2, .u32, .rw, .opn, .num 1000, [(10, 1000000)], false⟩,
  ⟨0x4000, 1, 1, 3, 3, .u8, .wo, .opn, .num 0, [], true⟩,
  ⟨0x4001, 1, 1, 1, 1, (.blob 16777216), .ro, .opn, .oct [], [], false⟩,
  ⟨0x4003, 1, 1, 1, 1, (.blob 512), .rw, .opn, .oct Config.affinityDefault, [], false⟩,
  ⟨0x4010, 1, 1, 1, 1, (.blob 784), .ro, .opn, .oct [], [], false⟩,
  ⟨0x4011, 1, 1, 1, 1, .u16, .ro, .opn, .num 0, [], false⟩,
  ⟨0x4011, 1, 1, 2, 2, .u32, .ro, .opn, .num 0, [], false⟩
]

/-- Entries with an index of 4100 to 41FF. -/
def dict41a : List Row := [
  ⟨0x4100, 256, 1, 1, 1, .u8, .rw, .opn, .num 0, [(0, 2)], false⟩,
  ⟨0x4100, 256, 1, 2, 2, .time80, .rw, .opn, .num 0, [], true⟩,
  ⟨0x4100, 256, 1, 3, 3, .u64, .rw, .opn, .num 1000000000, [(100000, 1000000000000)], false⟩,
  ⟨0x4100, 256, 1, 4, 4, .u8, .rw, .opn, .num 0, [(0, 1)], false⟩,
  ⟨0x4100, 256, 1, 5, 5, .u32, .rw, .opn, .num 0, [], false⟩,
  ⟨0x4100, 256, 1, 6, 6, (.oct 8), .rw, .opn, .oct (zeros 8), [], false⟩,
  ⟨0x4100, 256, 1, 7, 7, .u8, .ro, .opn, .num 0, [], false⟩,
  ⟨0x4100, 256, 1, 8, 8, .u16, .ro, .opn, .num 0, [], false⟩
]

/-- Entries with an index of 4200 to 42FF. -/
def dict42a : List Row := [
  ⟨0x4200, 1, 1, 1, 1, .u8, .rw, .opn, .num 1, [], false⟩,
  ⟨0x4200, 1, 1, 2, 2, .bool, .rw, .opn, .num 0, [], false⟩,
  ⟨0x4200, 1, 1, 3, 3, .u32, .rw, .opn, .num 1, [(1, 65536)], false⟩,
  ⟨0x4200, 1, 1, 4, 4, .u8, .rw, .opn, .num 1, [(1, 2), (4, 4), (8, 8), (16, 16)], false⟩,
  ⟨0x4200, 1, 1, 5, 5, .u32, .rw, .opn, .num 1024, [], false⟩,
  ⟨0x4200, 1, 1, 6, 6, .u32, .rw, .opn, .num 4096, [(0, 1000000000)], false⟩,
  ⟨0x4200, 1, 1, 7, 7, .u8, .rw, .opn, .num 0, [(0, 1)], false⟩,
  ⟨0x4200, 1, 1, 8, 8, .u8, .rw, .opn, .num 0, [(0, 1)], false⟩,
  ⟨0x4201, 1, 1, 1, 1, .u8, .rw, .opn, .num 0, [(0, 7)], false⟩,
  ⟨0x4201, 1, 1, 2, 2, .u8, .rw, .opn, .num 0, [(0, 31)], false⟩,
  ⟨0x4201, 1, 1, 3, 3, .u8, .rw, .opn, .num 0, [(0, 2)], false⟩,
  ⟨0x4201, 1, 1, 4, 4, .u16, .rw, .opn, .num 2048, [(0, 4095)], false⟩,
  ⟨0x4201, 1, 1, 5, 5, .u16, .rw, .opn, .num 16, [(1, 2048)], false⟩,
  ⟨0x4202, 1, 1, 1, 16, .u8, .rw, .opn, .num 0, [(0, 38)], false⟩,
  ⟨0x4203, 1, 1, 1, 1, .u8, .wo, .opn, .num 0, [(1, 3)], true⟩,
  ⟨0x4203, 1, 1, 2, 2, .u8, .wo, .opn, .num 0, [], true⟩,
  ⟨0x4210, 1, 1, 1, 1, .u8, .ro, .opn, .num 0, [], false⟩,
  ⟨0x4210, 1, 1, 2, 2, .u32, .ro, .opn, .num 0, [], false⟩,
  ⟨0x4210, 1, 1, 3, 3, .u32, .ro, .opn, .num 0, [], false⟩,
  ⟨0x4210, 1, 1, 4, 4, .u32, .ro, .opn, .num 0, [], false⟩,
  ⟨0x4210, 1, 1, 5, 5, .u32, .ro, .opn, .num 0, [], false⟩,
  ⟨0x4210, 1, 1, 6, 6, .u16, .ro, .opn, .num 0, [], false⟩,
  ⟨0x4210, 1, 1, 7, 7, .u32, .ro, .opn, .num 0, [], false⟩,
  ⟨0x4210, 1, 1, 8, 8, .u16, .ro, .opn, .num 0, [], false⟩,
  ⟨0x4220, 1, 1, 1, 16, (.blob 2097216), .ro, .opn, .oct [], [], false⟩
]

/-- Entries with an index of 4400 to 44FF. -/
def dict44a : List Row := [
  ⟨0x4400, 1, 1, 1, 1, .u8, .ro, .opn, .num 0, [], false⟩,
  ⟨0x4400, 1, 1, 2, 2, .u8, .rw, .guarded, .num 3, [], false⟩,
  ⟨0x4400, 1, 1, 3, 3, .u8, .rw, .opn, .num 2, [(1, 10)], false⟩,
  ⟨0x4400, 1, 1, 4, 4, .u8, .rw, .opn, .num 20, [(5, 200)], false⟩,
  ⟨0x4400, 1, 1, 5, 5, .u16, .rw, .opn, .num 2000, [(500, 10000)], false⟩,
  ⟨0x4400, 1, 1, 6, 6, .u16, .rw, .opn, .num 50, [(0, 1000)], false⟩,
  ⟨0x4400, 1, 1, 7, 7, .u32, .rw, .guarded, .num 0, [(0, 0), (10, 86400)], false⟩,
  ⟨0x4400, 1, 1, 8, 8, .u16, .rw, .opn, .num 0, [(0, 0), (24, 8760)], false⟩,
  ⟨0x4401, 1, 1, 1, 1, .u8, .wo, .opn, .num 0, [(1, 1)], true⟩,
  ⟨0x4401, 1, 1, 2, 2, .u8, .wo, .opn, .num 0, [(1, 1)], true⟩,
  ⟨0x4401, 1, 1, 3, 3, .u8, .wo, .guarded, .num 0, [(0, 1)], true⟩,
  ⟨0x4402, 1, 1, 1, 1, .u8, .ro, .opn, .num 1, [], false⟩,
  ⟨0x4402, 1, 1, 2, 2, .u8, .ro, .opn, .num 0, [], false⟩,
  ⟨0x4402, 1, 1, 3, 3, .u32, .ro, .opn, .num 0, [], false⟩,
  ⟨0x4402, 1, 1, 4, 4, .u32, .ro, .opn, .num 0, [], false⟩,
  ⟨0x4402, 1, 1, 5, 5, .u8, .ro, .opn, .num 0, [], false⟩,
  ⟨0x4402, 1, 1, 6, 6, .u8, .ro, .opn, .num 255, [], false⟩,
  ⟨0x4402, 1, 1, 7, 7, .u8, .ro, .opn, .num 0, [], false⟩,
  ⟨0x4402, 1, 1, 8, 8, .u32, .ro, .opn, .num 0, [], false⟩,
  ⟨0x4402, 1, 1, 9, 9, .u32, .ro, .opn, .num 0, [], false⟩,
  ⟨0x4402, 1, 1, 10, 10, .u32, .ro, .opn, .num 0, [], false⟩,
  ⟨0x4402, 1, 1, 11, 11, .u16, .ro, .opn, .num 0, [], false⟩,
  ⟨0x4402, 1, 1, 12, 12, .u8, .ro, .opn, .num 0, [], false⟩,
  ⟨0x4402, 1, 1, 13, 13, .u32, .ro, .opn, .num 0, [], false⟩,
  ⟨0x4402, 1, 1, 14, 14, .u16, .ro, .opn, .num 0, [], false⟩,
  ⟨0x4402, 1, 1, 15, 15, .u32, .ro, .opn, .num 0, [], false⟩,
  ⟨0x4402, 1, 1, 16, 16, .u32, .ro, .opn, .num 0, [], false⟩
]

/-- Entries with an index of 4600 to 46FF. -/
def dict46a : List Row := [
  ⟨0x4600, 1, 1, 1, 1, .u8, .rw, .guarded, .num 0, [(0, 1)], false⟩,
  ⟨0x4600, 1, 1, 2, 2, .u16, .rw, .guarded, .num 300, [(60, 540)], false⟩,
  ⟨0x4600, 1, 1, 3, 3, .bool, .rw, .guarded, .num 0, [], false⟩,
  ⟨0x4601, 1, 1, 1, 1, .u8, .ro, .opn, .num 0, [], false⟩,
  ⟨0x4601, 1, 1, 2, 2, .u8, .ro, .opn, .num 0, [], false⟩,
  ⟨0x4601, 1, 1, 3, 3, .u32, .ro, .opn, .num Config.imageVersion, [], false⟩,
  ⟨0x4601, 1, 1, 4, 4, .u32, .ro, .opn, .num 0, [], false⟩,
  ⟨0x4601, 1, 1, 5, 5, .u32, .ro, .opn, .num 0, [], false⟩,
  ⟨0x4601, 1, 1, 6, 6, .u8, .ro, .opn, .num 0, [], false⟩,
  ⟨0x4601, 1, 1, 7, 7, .u16, .ro, .opn, .num 0, [], false⟩,
  ⟨0x4601, 1, 1, 8, 8, .u8, .ro, .opn, .num 0, [], false⟩,
  ⟨0x4601, 1, 1, 9, 9, .u16, .ro, .opn, .num Config.imageSchema, [], false⟩,
  ⟨0x4601, 1, 1, 10, 10, .u32, .ro, .opn, .num 0, [], false⟩,
  ⟨0x4602, 1, 1, 1, 1, (.blob 16777216), .wo, .opn, .oct [], [], true⟩,
  ⟨0x4602, 1, 1, 2, 2, .u8, .wo, .opn, .num 0, [(1, 1)], true⟩,
  ⟨0x4602, 1, 1, 3, 3, .u8, .wo, .opn, .num 0, [(1, 1)], true⟩,
  ⟨0x4602, 1, 1, 4, 4, .u8, .wo, .opn, .num 0, [(1, 1)], true⟩,
  ⟨0x4610, 1, 1, 1, 1, .bool, .ro, .opn, .num 0, [], false⟩,
  ⟨0x4610, 1, 1, 2, 2, .u16, .ro, .opn, .num 0, [], false⟩,
  ⟨0x4610, 1, 1, 3, 3, .u16, .rw, .guarded, .num 600, [(60, 3600)], false⟩,
  ⟨0x4610, 1, 1, 4, 4, .u8, .wo, .opn, .num 0, [], true⟩,
  ⟨0x4610, 1, 1, 5, 5, .u8, .ro, .opn, .num 0, [], false⟩,
  ⟨0x4610, 1, 1, 6, 6, .u8, .wo, .guarded, .num 0, [], true⟩,
  ⟨0x4610, 1, 1, 7, 7, .bool, .rw, .guarded, .num 1, [], false⟩,
  ⟨0x4610, 1, 1, 8, 8, .u32, .ro, .opn, .num 0, [], false⟩,
  ⟨0x4620, 1, 1, 1, 1, (.oct 32), .ro, .factory, .oct Config.vendorKey, [], false⟩,
  ⟨0x4620, 1, 1, 2, 4, (.oct 32), .ro, .opn, .oct (zeros 32), [], false⟩,
  ⟨0x4620, 1, 1, 5, 5, .u8, .ro, .opn, .num 0, [], false⟩,
  ⟨0x4621, 1, 1, 1, 1, (.oct 33), .wo, .guarded, .oct (zeros 33), [], true⟩,
  ⟨0x4621, 1, 1, 2, 2, .u8, .wo, .guarded, .num 0, [], true⟩
]

/-- Entries with an index of 4800 to 48FF. -/
def dict48a : List Row := [
  ⟨0x4800, 1, 1, 1, 1, .u8, .rw, .opn, .num 1, [(0, 3)], false⟩,
  ⟨0x4810, 1, 1, 1, 16, .u32, .rw, .opn, .num 0, [], false⟩,
  ⟨0x4811, 1, 1, 1, 16, .u32, .rw, .opn, .num 0, [], false⟩,
  ⟨0x4812, 1, 1, 1, 16, .u32, .rw, .opn, .num 0, [], false⟩,
  ⟨0x4813, 1, 1, 1, 16, .u32, .rw, .opn, .num 0, [], false⟩,
  ⟨0x4814, 1, 1, 1, 16, .u32, .rw, .opn, .num 0, [], false⟩,
  ⟨0x4815, 1, 1, 1, 16, .u32, .rw, .opn, .num 0, [], true⟩,
  ⟨0x4816, 1, 1, 1, 4, .u8, .rw, .opn, .num 0, [(0, 2)], false⟩,
  ⟨0x4817, 1, 1, 1, 16, .u32, .ro, .opn, .num 0, [], false⟩,
  ⟨0x4818, 1, 1, 0, 0, .u32, .ro, .opn, .num 0, [], false⟩,
  ⟨0x4820, 1, 1, 1, 1, (.blob 16777216), .ro, .opn, .oct [], [], false⟩,
  ⟨0x4820, 1, 1, 2, 2, .u32, .wo, .opn, .num 0, [], true⟩,
  ⟨0x4820, 1, 1, 3, 3, .u32, .ro, .opn, .num 0, [], false⟩,
  ⟨0x4820, 1, 1, 4, 4, .u32, .ro, .opn, .num 0, [], false⟩,
  ⟨0x4820, 1, 1, 5, 5, .u32, .ro, .opn, .num 0, [], false⟩,
  ⟨0x4820, 1, 1, 6, 6, .u8, .wo, .guarded, .num 0, [], true⟩,
  ⟨0x4840, 1, 1, 1, 1, .u16, .ro, .opn, .num 32, [], false⟩,
  ⟨0x4840, 1, 1, 2, 2, .u16, .ro, .opn, .num 1, [], false⟩,
  ⟨0x4840, 1, 1, 3, 3, .u16, .ro, .opn, .num 8, [], false⟩,
  ⟨0x4840, 1, 1, 4, 4, .u16, .ro, .opn, .num 768, [], false⟩,
  ⟨0x4840, 1, 1, 5, 5, .u16, .ro, .opn, .num 32, [], false⟩,
  ⟨0x4840, 1, 1, 6, 6, .u16, .ro, .opn, .num 64, [], false⟩,
  ⟨0x4841, 1, 1, 1, 6, .u16, .ro, .opn, .num 0, [], false⟩,
  ⟨0x4842, 1, 1, 1, 1, (.oct 8), .ro, .opn, .oct [0x00, 0x01, 0x02, 0x03, 0x04, 0x05, 0x06, 0x07], [], false⟩,
  ⟨0x4860, 1, 1, 1, 10, .u16, .ro, .opn, .num 0, [], false⟩,
  ⟨0x4861, 1, 1, 1, 1, (.oct 32), .ro, .opn, .oct (zeros 32), [], false⟩
]

/-- Entries with an index of 5000 to 501F, the block of vehicle slot 0; slot n lies 32 × n above (R28). -/
def dict50a : List Row := [
  ⟨0x5000, 128, 32, 1, 1, .bool, .rw, .opn, .num 0, [], false⟩,
  ⟨0x5000, 128, 32, 2, 2, .u32, .rw, .opn, .num 0, [(0, 4294967294)], false⟩,
  ⟨0x5000, 128, 32, 3, 3, .u8, .rw, .opn, .num 0, [], false⟩,
  ⟨0x5000, 128, 32, 4, 4, .u8, .rw, .opn, .num 4, [(0, 5)], false⟩,
  ⟨0x5000, 128, 32, 5, 5, .u16, .rw, .opn, .num 65535, [], false⟩,
  ⟨0x5000, 128, 32, 6, 6, .u16, .rw, .opn, .num 300, [(10, 10000)], false⟩,
  ⟨0x5000, 128, 32, 7, 7, .u16, .rw, .opn, .num 500, [(10, 10000)], false⟩,
  ⟨0x5000, 128, 32, 8, 8, .u8, .rw, .opn, .num 3, [(3, 4)], false⟩,
  ⟨0x5000, 128, 32, 9, 9, .u32, .rw, .opn, .num 250000, [(1, 1000000000)], false⟩,
  ⟨0x5000, 128, 32, 10, 10, .u32, .rw, .opn, .num 10000, [(1, 1000000000)], false⟩,
  ⟨0x5001, 128, 32, 1, 1, .u8, .ro, .opn, .num 0, [], false⟩,
  ⟨0x5001, 128, 32, 2, 2, .u8, .ro, .opn, .num 0, [], false⟩,
  ⟨0x5001, 128, 32, 3, 3, .u8, .ro, .opn, .num 0, [], false⟩,
  ⟨0x5001, 128, 32, 4, 4, .u32, .ro, .opn, .num 0, [], false⟩,
  ⟨0x5001, 128, 32, 5, 5, .u32, .ro, .opn, .num 0, [], false⟩,
  ⟨0x5001, 128, 32, 6, 6, .u32, .ro, .opn, .num 0, [], false⟩,
  ⟨0x5001, 128, 32, 7, 7, .u32, .ro, .opn, .num 0, [], false⟩,
  ⟨0x5001, 128, 32, 8, 8, .u8, .ro, .opn, .num 0, [], false⟩,
  ⟨0x5001, 128, 32, 9, 9, .u16, .ro, .opn, .num 0, [], false⟩,
  ⟨0x5001, 128, 32, 10, 10, .u8, .ro, .opn, .num 0, [], false⟩,
  ⟨0x5001, 128, 32, 11, 11, .u16, .ro, .opn, .num 0, [], false⟩,
  ⟨0x5002, 128, 32, 1, 1, (.oct 64), .ro, .opn, .oct (zeros 64), [], false⟩,
  ⟨0x5003, 128, 32, 1, 1, .u8, .wo, .opn, .num 0, [(1, 2)], true⟩,
  ⟨0x5010, 128, 32, 1, 1, .u8, .rw, .opn, .num 0, [(0, 15)], false⟩,
  ⟨0x5011, 128, 32, 1, 1, .u16, .ro, .opn, .num 65535, [], false⟩,
  ⟨0x5011, 128, 32, 2, 2, .u8, .ro, .opn, .num 0, [], false⟩,
  ⟨0x5011, 128, 32, 3, 3, .chain, .ro, .opn, .num 0, [], false⟩,
  ⟨0x5011, 128, 32, 4, 4, .i32, .ro, .opn, .num 0, [], false⟩,
  ⟨0x5011, 128, 32, 5, 5, .chain, .ro, .opn, .num 0, [], false⟩,
  ⟨0x5011, 128, 32, 6, 6, .chain, .ro, .opn, .num 0, [], false⟩,
  ⟨0x5011, 128, 32, 7, 7, .u8, .ro, .opn, .num 0, [], false⟩,
  ⟨0x5011, 128, 32, 8, 8, .u8, .ro, .opn, .num 0, [], false⟩
]

/-- Further entries with an index of 5000 to 50FF. -/
def dict50b : List Row := [
  ⟨0x5013, 128, 32, 1, 1, .u32, .wo, .opn, .num 0, [], true⟩
]

/-- The page of the dictionary that holds an index. -/
def dictPage : Nat → List Row
  | 0x10 => dict10a
  | 0x18 => dict18a
  | 0x1A => dict1Aa
  | 0x1E => dict1Ea
  | 0x20 => dict20a ++ dict20b
  | 0x22 => dict22a ++ dict22b ++ dict22c
  | 0x24 => dict24a ++ dict24b ++ dict24c ++ dict24d
  | 0x28 => dict28a
  | 0x2C => dict2Ca
  | 0x2E => dict2Ea
  | 0x30 => dict30a
  | 0x34 => dict34a
  | 0x36 => dict36a ++ dict36b
  | 0x38 => dict38a
  | 0x3A => dict3Aa ++ dict3Ab
  | 0x3E => dict3Ea
  | 0x3F => dict3Fa
  | 0x40 => dict40a
  | 0x41 => dict41a
  | 0x42 => dict42a
  | 0x44 => dict44a
  | 0x46 => dict46a
  | 0x48 => dict48a
  | n => if n / 16 = 5 then dict50a ++ dict50b else []

end Sys2Proof.Machine
end

