-- ==== Sys2Proof/Machine/Operands.lean ====
section
/-!
DEFINITION. Operand forms: little-endian fields (R7), the encodings of the data types (R29, R30), CRC-32C (R55) and the
look-up of a row of the dictionary (R28, R573).
-/
namespace Sys2Proof.Machine

/-- The unsigned number that bytes hold, least significant first (R7). -/
def leNat : List Byte → Nat
  | [] => 0
  | b :: bs => b.toNat + 256 * leNat bs

/-- `n` bytes of a number, least significant first (R7). -/
def leBytes : Nat → Nat → List Byte
  | 0, _ => []
  | n + 1, v => BitVec.ofNat 8 v :: leBytes n (v / 256)

/-- Octets as a number, the first the highest: the order of the protocols of IEEE 802.3, IP, RTCM 3 and IEEE 1588. -/
def beNat (b : List Byte) : Nat := leNat b.reverse

/-- A number as octets, the highest first. -/
def beBytes (n x : Nat) : List Byte := (leBytes n x).reverse

/-- Two's complement reading of a number of `bits` bits (R29). -/
def toSigned (bits v : Nat) : Int := if 2 * v < 2 ^ bits then (v : Int) else (v : Int) - 2 ^ bits

/-- Two's complement of an integer in `bits` bits. -/
def ofSigned (bits : Nat) (v : Int) : Nat := (v % (2 ^ bits : Int)).toNat

/-- The unsigned field of `len` bytes at an offset. -/
def fieldN (b : List Byte) (off len : Nat) : Nat := leNat ((b.drop off).take len)

/-- The signed field of `len` bytes at an offset. -/
def fieldI (b : List Byte) (off len : Nat) : Int := toSigned (8 * len) (fieldN b off len)

/-- A TIME80 field in ns (R29). -/
def fieldT (b : List Byte) (off : Nat) : Nat := fieldN b off 6 * 1000000000 + fieldN b (off + 6) 4

/-- Bits [hi:lo] of a number. -/
def bitsOf (v hi lo : Nat) : Nat := v / 2 ^ lo % 2 ^ (hi + 1 - lo)

/-- Cut bytes into records of `n`. `fuel` bounds the number of records. -/
def recordsOf (n : Nat) : Nat → List Byte → List (List Byte)
  | 0, _ => []
  | fuel + 1, b => if b.length < n ∨ n = 0 then [] else b.take n :: recordsOf n fuel (b.drop n)

/-- All whole records of `n` bytes. -/
def records (n : Nat) (b : List Byte) : List (List Byte) := recordsOf n b.length b

/-- One byte through the reflected CRC-32C register (R55). -/
def crcByte (c : BitVec 32) (b : Byte) : BitVec 32 :=
  let rec go : Nat → BitVec 32 → BitVec 32
    | 0, x => x
    | n + 1, x => go n (if x.getLsbD 0 then (x >>> 1) ^^^ 0x82F63B78#32 else x >>> 1)
  go 8 (c ^^^ b.zeroExtend 32)

/-- CRC-32C of R55: Castagnoli polynomial, reflected, initial value all ones, final inversion. -/
def crc32c (b : List Byte) : Nat := (~~~ (b.foldl crcByte 0xFFFFFFFF#32)).toNat

/-- Size in bytes of a type of fixed size (R29). -/
def tySize : Ty → Option Nat
  | .bool => some 1 | .u8 => some 1 | .u16 => some 2 | .u32 => some 4 | .u64 => some 8
  | .i8 => some 1 | .i16 => some 2 | .i32 => some 4 | .i64 => some 8
  | .r32 => some 4 | .r64 => some 8 | .chain => some 4 | .id16 => some 2
  | .time80 => some 10 | .grid3 => some 12
  | .str _ => none | .oct n => some n | .blob _ => none

/-- The TYPE code of R29. -/
def tyCode : Ty → Nat
  | .bool => 0x01 | .i8 => 0x02 | .i16 => 0x03 | .i32 => 0x04 | .i64 => 0x15
  | .u8 => 0x05 | .u16 => 0x06 | .u32 => 0x07 | .u64 => 0x1B
  | .r32 => 0x08 | .r64 => 0x11 | .str _ => 0x09 | .oct _ => 0x0A
  | .time80 => 0x40 | .grid3 => 0x41 | .chain => 0x42 | .id16 => 0x43 | .blob _ => 0x44

/-- R30: the length of a written value fits its type. -/
def lengthOk (t : Ty) (n : Nat) : Bool :=
  match t with
  | .str m => decide (n ≤ m)
  | .blob m => decide (n ≤ m)
  | t => tySize t == some n

/-- The value that bytes of the right length spell; none where R30 refuses the encoding with RANGE. -/
def decodeVal (t : Ty) (b : List Byte) : Option DVal :=
  match t with
  | .bool => if leNat b ≤ 1 then some (.num (leNat b)) else none
  | .u8 => some (.num (leNat b)) | .u16 => some (.num (leNat b))
  | .u32 => some (.num (leNat b)) | .u64 => some (.num (leNat b)) | .id16 => some (.num (leNat b))
  | .i8 => some (.num (toSigned 8 (leNat b))) | .i16 => some (.num (toSigned 16 (leNat b)))
  | .i32 => some (.num (toSigned 32 (leNat b))) | .chain => some (.num (toSigned 32 (leNat b)))
  | .i64 => some (.num (toSigned 64 (leNat b)))
  | .time80 => if fieldN b 6 4 ≤ 999999999 then some (.num (fieldT b 0)) else none
  | .str _ => if b.all (fun c => decide (0x20 ≤ c.toNat ∧ c.toNat ≤ 0x7E)) then some (.oct b) else none
  | .r32 => some (.oct b) | .r64 => some (.oct b) | .grid3 => some (.oct b) | .oct _ => some (.oct b) | .blob _ => some (.oct b)

/-- TIME80 bytes of a time in ns (R29). -/
def time80Bytes (ns : Nat) : List Byte := leBytes 6 (ns / 1000000000) ++ leBytes 4 (ns % 1000000000)

/-- The bytes of a value (R29). -/
def encodeVal (t : Ty) (v : DVal) : List Byte :=
  match v with
  | .oct b => b
  | .num n =>
    match t with
    | .time80 => time80Bytes n.toNat
    | t => leBytes ((tySize t).getD 4) (ofSigned (8 * (tySize t).getD 4) n)

/-- True where a row holds an index. -/
def rowHasIdx (r : Row) (idx : Nat) : Bool :=
  decide (r.i0 ≤ idx) && decide ((idx - r.i0) % r.str = 0) && decide ((idx - r.i0) / r.str < r.cnt)

/-- The rows of the dictionary at an index. -/
def rowsAt (idx : Nat) : List Row := (dictPage (idx / 256)).filter (fun r => rowHasIdx r idx)

/-- The row of an entry. -/
def rowOf (idx sub : Nat) : Option Row := (rowsAt idx).find? (fun r => decide (r.s0 ≤ sub) && decide (sub ≤ r.s1))

/-- The highest sub-index of an index (R573). -/
def highestSub (idx : Nat) : Nat := (rowsAt idx).foldl (fun m r => max m r.s1) 0

/-- A key from index and sub-index. -/
def keyOf (idx sub : Nat) : Key := idx * 256 + sub

/-- The default of an entry, where it does not depend on the number of the unit, is its row's. R409 gives the queues that
exist at power-on reset, and R420 their handlers; 5000:03 of slot n is 128 + n. -/
def dictDefault (k : Key) : DVal :=
  let idx := k / 256
  let sub := k % 256
  if 0x5000 ≤ idx ∧ idx < 0x6000 ∧ idx % 32 = 0 ∧ sub = 3 then .num (128 + (idx - 0x5000) / 32)
  else if 0x3E00 ≤ idx ∧ idx < 0x3F00 ∧ sub = 1 then
    .num (if idx - 0x3E00 = 125 ∨ idx - 0x3E00 = 127 ∨ idx - 0x3E00 ≥ 128 ∨ idx - 0x3E00 < 16 then 1 else 0)
  else if 0x3E00 ≤ idx ∧ idx < 0x3F00 ∧ sub = 3 then
    .num (if idx - 0x3E00 ≥ 128 then 1 else if idx - 0x3E00 = 127 then 2 else if idx - 0x3E00 = 125 then 3
      else if idx - 0x3E00 < 16 then 0xFF else 0)
  else if 0x3E00 ≤ idx ∧ idx < 0x3E10 ∧ (sub = 2 ∨ sub = 4) then .num (Config.deviceQueue (idx - 0x3E00) sub)
  else match rowOf idx sub with
    | some r => r.dv
    | none => .num 0

/-- The bits of an entry that are not reserved; a write of the others is ignored (R8). -/
def definedBits (k : Key) : Option Nat :=
  let idx := k / 256
  let sub := k % 256
  if 0x2280 ≤ idx ∧ idx ≤ 0x228E ∧ sub = 4 then some 7
  else if k = 0x248001 then some 0x1F
  else if k = 0x24C007 then some 0x0F
  else if 0x3A10 ≤ idx ∧ idx ≤ 0x3A17 ∧ sub = 3 then some 3
  else if 0x3600 ≤ idx ∧ idx ≤ 0x3607 ∧ sub = 0x0C then some 0x0F
  else if k = 0x420001 then some 0x0F
  else if k = 0x1E0004 ∨ k = 0x1E0104 then some 3
  else if k = 0x205003 then some 0x0F
  else if k = 0x381005 then some 3
  else if k = 0x440002 then some 3
  else if k = 0x461006 then some 3
  else if 0x5000 ≤ idx ∧ idx < 0x6000 ∧ idx % 32 = 0x13 ∧ sub = 1 then some 0xFF00FFFF
  else none

/-- Bits of a little-endian record, from `lo` to `hi`. -/
def bitSpan (hi lo : Nat) : Nat := 2 ^ (hi + 1) - 2 ^ lo

/-- Entries that hold records with reserved fields: the size of a record, and its bits that are not reserved (R223 to R226, R234,
R261, R377, R378, 4003:01). -/
def definedRecord (k : Key) : Option (Nat × Nat) :=
  if k = 0x2C1001 then some (16, bitSpan 127 16 + bitSpan 1 0)
  else if k = 0x2C1002 then some (24, bitSpan 191 56 + bitSpan 48 48 + bitSpan 31 0)
  else if k = 0x2C1003 then some (8, bitSpan 63 32 + bitSpan 15 0)
  else if k = 0x2C1004 then some (4, bitSpan 31 16 + bitSpan 0 0)
  else if k = 0x2C2001 then some (8, bitSpan 47 16 + bitSpan 1 0)
  else if k / 256 = 0x3400 then some (24, bitSpan 191 48 + bitSpan 1 0)
  else if k = 0x3A3001 then some (8, bitSpan 32 16 + bitSpan 11 0)
  else if k = 0x3A4001 then some (24, bitSpan 191 16 + bitSpan 11 0)
  else if k = 0x400301 then some (2, bitSpan 14 0)
  else none

/-- Records of `n` bytes with the bits outside `m` cleared (R8). -/
def clearReserved (n m : Nat) (b : List Byte) : List Byte :=
  b.zipIdx.map (fun p => p.1 &&& BitVec.ofNat 8 (m / 2 ^ (8 * (p.2 % n))))

/-- Encodings that R9 or a Meaning refuses beyond the ranges of the row: the source priority list 2210:01, a timed action's
period (a multiple of 100,000) and its target length, the code of a vehicle command 5013:01, and the flood VLANs 3820:04. -/
def extraOk (k : Key) (v : DVal) : Bool :=
  let idx := k / 256
  let sub := k % 256
  match v with
  | .oct b =>
    if k = 0x221001 then
      let live := b.takeWhile (fun c => c != 0)
      live.all (fun c => decide (c.toNat ≤ 3)) && decide live.Nodup
    else if k = 0x382004 then
      (records 2 b).all (fun w => decide (leNat w ≤ 4094) || decide (leNat w = 0xFFFF))
    else true
  | .num n =>
    if 0x4100 ≤ idx ∧ idx < 0x4200 ∧ sub = 3 then decide (n % 100000 = 0)
    else if 0x4100 ≤ idx ∧ idx < 0x4200 ∧ sub = 5 then decide (n = 0 ∨ (1 ≤ n % 256 ∧ n % 256 ≤ 8))
    else if 0x5000 ≤ idx ∧ idx < 0x6000 ∧ idx % 32 = 0x13 ∧ sub = 1 then decide (1 ≤ n / 0x1000000 ∧ n / 0x1000000 ≤ 4)
    else true

/-- Check 10 of R572: the value lies in its row's ranges. -/
def inRange (r : Row) (v : DVal) : Bool :=
  match v with
  | .oct _ => true
  | .num n => r.lim.isEmpty || r.lim.any (fun p => decide (p.1 ≤ n) && decide (n ≤ p.2))

/-- Checks 9 and 10 of R572 on the bytes of one entry: the value, or TYPE_LENGTH (7) or RANGE (8). -/
def checkValue (r : Row) (k : Key) (b : List Byte) : Except Nat DVal :=
  if lengthOk r.ty b.length then
    match decodeVal r.ty b with
    | none => .error 8
    | some v =>
      let v : DVal := match definedBits k, v with
        | some m, .num n => .num ((n.toNat &&& m : Nat) : Int)
        | _, v => v
      let v : DVal := match definedRecord k, v with
        | some (n, m), .oct b => .oct (clearReserved n m b)
        | _, v => v
      if inRange r v && extraOk k v then .ok v else .error 8
  else .error 7

end Sys2Proof.Machine
end

