-- ==== Sys2Proof/Machine/State.lean ====
section
/-!
DEFINITION. The state of the NZ-8640, as plain data. The live values of the object dictionary stand in one sparse table
(`Dev.od`: an entry not listed reads as its default in Machine/Dict.lean); everything the spec gives the machine beside
the dictionary stands in a structure for each chapter. `pending` is the queue of commands waiting, first in first out.
-/
namespace Sys2Proof.Machine

/-- Why the machine stops. The NZ-8640 has no such case: a command it turns away leaves a next state. -/
inductive Fault where
  /-- Raised by no command; kept so that the type has a name for a stop. Safe. -/
  | stopped
deriving DecidableEq, Repr

/-- Why a command has no meaning. -/
inductive Refusal where
  /-- Raised by exec for a row that has no meaning yet. Safe: nothing is claimed about it. -/
  | notModelled (mnemonic : String)
deriving DecidableEq, Repr

/-- What a frame, message or line that leaves the device is. -/
inductive SentKind where
  /-- A Ledger response (R54). -/
  | ledgerReply
  /-- A USDO response (R74). -/
  | usdoReply
  /-- A NOTIFY (R70). -/
  | notify
  /-- An emergency message (R72). -/
  | emcy
  /-- A CANopen heartbeat (R74). -/
  | canHeartbeat
  /-- TPDO1 (R75). -/
  | tpdo1
  /-- TPDO2 (R75). -/
  | tpdo2
  /-- PTP messages (R101 to R103). -/
  | ptpSync
  | ptpFollowUp
  | ptpAnnounce
  | ptpDelayReq
  | ptpDelayResp
  | ptpPdelayReq
  | ptpPdelayResp
  | ptpPdelayRespFollowUp
  /-- A pulse message (R110). -/
  | ppsMessage
  /-- A pulse on PPSn_OUT (R108). -/
  | ppsPulse
  /-- A pulse on TOUTn (R120). -/
  | toutPulse
  /-- A code for EFC_OUT (R79). -/
  | efcCode
  /-- A life record to the cartridge (R117). -/
  | eepromWrite
  /-- A stop notice on the pair link (R478). -/
  | stopNotice
  /-- A stop telegram (R343). -/
  | stopTelegram
  /-- A permission telegram (R341). -/
  | permission
  /-- STOP_TPA or STOP_TPB (R302). -/
  | testLine
  /-- A test pulse of a stop output (R311). -/
  | outputTest
  /-- Steps on AXSTEP_n (R353). -/
  | axisSteps
  /-- AXDIR_n (R353). -/
  | axisDir
  /-- AXEN_n (R354). -/
  | axisEnable
  /-- AXHOLD_n (R361). -/
  | axisHold
  /-- A fix telegram (R334). -/
  | fix
  /-- A grant telegram (R336). -/
  | grant
  /-- A setpoint block (R339). -/
  | setpoints
  /-- A task status telegram (R346). -/
  | taskStatus
  /-- The answer to a push (R412). -/
  | pushResult
  /-- The answer to a pop (R414). -/
  | popResult
  /-- A frame on a port (R379). -/
  | frameOut
  /-- A PAUSE frame (R373). -/
  | pauseOut
  /-- RTCM 3 messages (R169). -/
  | rtcmStation
  | rtcmDescriptor
  | rtcmBias
  | rtcmMsm
  /-- Bias of an antenna feed (R123). -/
  | feedBias
  /-- Pair-link frames (R478). -/
  | heartbeat
  | cairnPart
  | cairnAck
  | settingsPart
  | settingsAck
  | pairWake
  /-- An answer of USB DFU (R531). -/
  | dfuReply
  /-- A Jenyn response (R528). -/
  | jenynReply
  /-- XSPI_RST_N low for a time in ns (R566). -/
  | flashReset
deriving DecidableEq, Repr

/-- One thing that left the device: its kind, where it went and its fields in the order of its layout. -/
structure Sent where
  kind : SentKind
  whom   : List Nat := []
  flds : List Int := []
deriving DecidableEq, Repr

/-- Events waiting for one subscriber: a NOTIFY record of R70 in the making. -/
structure EvRec where
  src    : Nat
  time   : Nat
  count  : Nat
  detail : Nat
deriving DecidableEq, Repr

/-- A subscriber slot (R68). `mask` bit n holds source n; `leaseEnd` is in model ticks. -/
structure Subscriber where
  peer     : Peer
  mask     : Nat
  leaseEnd : Nat
  seq      : Nat
  lost     : Nat
  recs     : List EvRec
  /-- The instants of the NOTIFY frames of the past second (R69). -/
  sentAt   : List Nat
deriving DecidableEq, Repr

/-- The event router beside 4810 to 4818 (R65 to R73). -/
structure Events where
  counts   : Tab Nat
  subs     : Tab Subscriber
  emcyWait : List (Nat × Nat × Nat)
  /-- The inhibit time 1015:00 runs (R72). -/
  inhibit  : Bool
  /-- The model time at which the inhibit time last began (R72). -/
  inhibitAt : Nat
  /-- The instants of the frames dropped in the past second (R55). -/
  dropped  : List Nat
  dropAt   : Option Nat
deriving DecidableEq, Repr

/-- A COMMIT or check accepted and not yet complete (R41, R61). -/
structure CommitReq where
  peer    : Peer
  reqId   : Nat
  mode    : Nat
  instant : Nat
  asWrite : Bool
  at_     : Nat
deriving DecidableEq, Repr

/-- The change set (R38). `instant` is the commit instant chosen: in ns of fleet time, or of the crystal count when the flag is set (R50). -/
structure ChangeSet where
  staged  : Tab DVal
  owner   : Option Peer
  lastReq : Nat
  req     : Option CommitReq
  instant : Option (Bool × Nat)
deriving DecidableEq, Repr

/-- A kept response (R57). -/
structure Cached where
  peer  : Peer
  reqId : Nat
  reply : Sent
  at_   : Nat
deriving DecidableEq, Repr

/-- The parts of a long value received so far from one peer (R60). -/
structure PartBuf where
  peer   : Peer
  key    : Key
  staged : Bool
  total  : Nat
  data   : List Byte
  /-- When the last part came. -/
  at_    : Nat
deriving DecidableEq, Repr

/-- Ledger protocol state (R53 to R63). `port` and `enable` are the values in force of 2030:01 and 2030:02; `change` holds their writes that
are answered and not yet in force: sub-index, value and time. -/
structure Ledger where
  cache   : List Cached
  parts   : List PartBuf
  waiting : List (Peer × Nat)
  port    : Nat
  enable  : Nat
  change  : List (Nat × Nat × Nat)
  /-- Entries worked out at a reading, as the last READ found them (R59). -/
  seen    : Tab DVal
deriving DecidableEq, Repr

/-- NMT states (R74). -/
inductive Nmt where
  | initialisation | preOperational | operational | stopped
deriving DecidableEq, Repr

/-- One CAN FD port: NMT state, and the node ID and bit rates in force (R74, R75). -/
structure CanPort where
  nmt    : Nmt
  node   : Nat
  nom    : Nat
  dataR  : Nat
deriving DecidableEq, Repr

/-- The tick counter, the equation terms (R76, R77) and the scales that run on without fleet time (R85).
`now` is the model's own elapsed time in 0.8 ns. `engOff` is engine scale less fleet time; `engBase` and `engAt` hold the
engine scale while fleet time is in state 0. Scales are in 2^-16 ns. -/
structure Clk where
  now     : Nat
  tick    : Nat
  base    : Nat
  off     : Int
  rate    : Int
  reloads : Nat
  engOff  : Int
  engBase : Int
  engAt   : Nat
deriving DecidableEq, Repr

/-- The servo beside its dictionary entries (R88 to R98). Phases are in 2^-16 ns. `due` holds updates that a source has delivered and the
servo has not taken, with the phase error and TAI − UTC where it comes with the update; `runs` gives the first and the last of a source's
unbroken usable updates; `codes` the EFC codes of the last 7 days in state 3 (R117); `y0` the figure of R98, without a unit;
`gnssAt` the model time of the last usable GNSS update. -/
structure Servo where
  integ      : Rat
  lastAt     : Option Nat
  cands      : List Int
  lockRun    : Nat
  looseRun   : Nat
  everSet    : Bool
  first      : Bool
  returning  : Bool
  everValid  : Nat
  slew0      : Int
  slewTerm   : Int
  slewAt     : Nat
  slewReturn : Bool
  stepAt     : Option (Bool × Nat)
  stepSize   : Int
  rSum       : Int
  rAt        : Nat
  rFrom      : Nat
  err0       : Nat
  holdAt     : Nat
  y0         : Rat
  due        : Tab (Int × Option Int)
  runs       : Tab (Nat × Nat)
  codes      : List (Nat × Int)
  utcSeen    : Bool
  gnssAt     : Nat
  /-- Tick at which the last step was applied (R448). -/
  stepTick   : Nat
deriving DecidableEq, Repr

/-- The servo when the timebase island starts. -/
def servo0 : Servo :=
  { integ := 0, lastAt := none, cands := [], lockRun := 0, looseRun := 0, everSet := false, first := true
    returning := false, everValid := 0, slew0 := 0, slewTerm := 0, slewAt := 0, slewReturn := false
    stepAt := none, stepSize := 0, rSum := 0, rAt := 0, rFrom := 0, err0 := 0, holdAt := 0, y0 := 0, due := [], runs := [], codes := []
    utcSeen := false, gnssAt := 0, stepTick := 0 }

/-- The reference cartridge beside 2260 (R113 to R118). `clockOk` says that it has met no failure condition for 1 s, `goodAt` since when it has
met none, `inserted` that it has been inserted and not yet been valid, `counted` that the insertion or power-on stands in POWER_CYCLES,
`warmup` its WARMUP in s, `heldTo` the model time to which R115 holds ACQUIRING, `lifeAt` that to which OP_MINUTES counts. -/
structure Cart where
  present   : Bool
  clockOk   : Bool
  goodAt    : Option Nat
  inserted  : Bool
  counted   : Bool
  idValid   : Bool
  efcGain   : Nat
  warming   : Bool
  warmup    : Nat
  heldTo    : Nat
  lifeAt    : Nat
  image     : List Byte
  lifeSeq   : Nat
  opMinutes : Nat
  lifeSlot  : Nat
deriving DecidableEq, Repr

/-- One PTP port (R101 to R107). Times are in 2^-16 ns. -/
structure PtpPort where
  syncSeq   : Nat
  syncT2    : Int
  syncCorr  : Int
  syncOpen  : Bool
  syncLog   : Int
  syncAt    : Nat
  txSync    : Nat
  txAnn     : Nat
  txDelay   : Nat
  t3        : Int
  delayOpen : Bool
  pt1       : Int
  pt2       : Int
  pt4       : Int
  pOpen     : Bool
  linkDelay : Int
  best      : Option Announce
deriving DecidableEq, Repr

/-- One PPS output (R108 to R111): the last edge, the next pulse's message QERR and whether a step came since. -/
structure Pps where
  lastEdge : Option Int
  nextSec  : Option Nat
  qerr     : Int
  stepped  : Bool
  stepNote : Option Int
deriving DecidableEq, Repr

/-- One Moraine entry (R533), less its CRC. FW_TIME is 1 in every entry, those that hardware islands offer among them: R107 does not say whose
entries the firmware stamps (DESIGN CHOICE, log 72). -/
structure MorEntry where
  seq    : Nat := 0
  time   : Nat := 0
  code   : Nat
  sev    : Nat
  island : Nat
  flash  : Bool := false
  fwTime : Bool := true
  step   : Nat := 0
  detail : Nat := 0
  data0  : Nat := 0
  data1  : Nat := 0
deriving DecidableEq, Repr

/-- The Moraine log (R535 to R539). Entries offered and not yet stored stand oldest first, those beyond 64 being held by
their islands (R537); the rings stand newest first. -/
structure Moraine where
  offers   : List MorEntry
  ring     : List MorEntry
  flash    : List MorEntry
  next     : Nat
  ceiling  : Nat
  copied   : Nat
  blocks   : Nat
  readFrom : Nat
  /-- Losses not yet reported: model time of the last report, entries, SEQ of the first (R535). -/
  lostAt   : Option Nat
  lostNow  : Nat
  lostSeq  : Nat
deriving DecidableEq, Repr

/-- What the device does once a command has been answered: a reset of a kind with its detail, or the entry to Hibernate or
Glacier. -/
inductive Due where
  | reset (kind detail : Nat)
  | hibernate
  | glacier
deriving DecidableEq, Repr

/-- Power, Thaw and reset state beside 2020 to 2071 (R451 to R472). Island numbers are those of R10. -/
structure Power where
  vmainEn   : Bool
  vmainPg   : Bool
  vaonOk    : Bool
  aonEn     : Bool
  thawing   : Bool
  kind      : Nat
  detail    : Nat
  /-- Model times at which the Thaw began and the last Thaw ended. -/
  thawAt    : Nat
  thawEnd   : Nat
  /-- Islands passed over, failed once and failed twice in this Thaw, and Thaws ended in succession by R459. -/
  passed    : List Nat
  failedOnce : List Nat
  failed    : List Nat
  thawFails : Nat
  hibernating : Bool
  glacier   : Bool
  /-- The recovery in progress, recoveries that wait, and the recoveries made: island and model time (R470). -/
  recNow    : Option Nat
  recDue    : List Nat
  recTimes  : List (Nat × Nat)
  orderly   : Bool
  /-- Model times at which VMAIN_EN last changed, and at which a Thaw ended with the islands off (R453, R459, R464). -/
  vmainAt   : Nat
  failAt    : Nat
  /-- The xSPI flash is in 8D-8D-8D mode (R566). -/
  octal     : Bool
  saved     : Tab DVal
  /-- Event source 8 has been raised for the present excursion of the power estimate; model times since which the estimate exceeds its bound
  and stays below it, of the last estimate, and ticks over the bound that make no whole ms yet (R22, R26). -/
  overBound : Bool
  overAt    : Option Nat
  underAt   : Option Nat
  estAt     : Nat
  overRem   : Nat
  /-- Event sources 0 and 2 have been raised and not yet 1 and 3 (R571). -/
  warm      : Bool
  hot       : Bool
  due       : Option Due
  /-- Islands whose not-ready replies have raised event source 10 since they were last in state 3 (R17). -/
  notReady  : List Nat
deriving DecidableEq, Repr

/-- Whiteout beside 3800 to 3820 (R295 to R324). The channels STOP0_A, STOP0_B, STOP1_A and STOP1_B are numbered from 0. -/
structure Whiteout where
  /-- Model time at which the flood schedule in force began, and its next repetition count (R308). -/
  flood    : Option (Nat × Nat)
  /-- Level-0 clear waves still to send: the next repetition count and the stop sequence they carry (R317). -/
  clearing : Option (Nat × Nat)
  /-- A watchdog expiry is pending (R318). -/
  expiry   : Bool
  /-- The supervisor watchdog runs (R318). -/
  wdRun    : Bool
  /-- Model time up to which the A and B channels of the inputs under test are masked, and the channel levels before (R301). -/
  maskA    : Nat
  maskB    : Nat
  before   : Nat
  /-- Model time since which every channel has been high (R315). -/
  highAt   : Nat
  /-- Test instants of each output since a fault was latched, and how many of the last followed their drive (R311). -/
  tests0   : Nat
  tests1   : Nat
  good0    : Nat
  good1    : Nat
  /-- Reference edge of a stop started by an input, while it is measured (R305), in model ticks. -/
  refAt    : Option Nat
  /-- Ports whose first stop frame has left, and slots whose first permission without grant has (R305). -/
  portsOut : Nat
  slotsOut : List Nat
  /-- Bounds of R303 already reported for this stop (R305). -/
  reported : Nat
  /-- Trip levels of the outputs, 3810:06 and 3810:07, as the last source took them (R310, R324). -/
  trip0    : Nat
  trip1    : Nat
  /-- The permission period 3410:01 in ms at the reference (R303). -/
  refP     : Nat := 50
  /-- Model times of the last start of the watchdog (R318), of the arming of the resume (R316) and of the last clear (R317). -/
  wdAt     : Nat := 0
  armedAt  : Nat := 0
  clearAt  : Nat := 0
  /-- Model times of the last test instants of the outputs (R311). -/
  testAt0  : Option Nat := none
  testAt1  : Option Nat := none
deriving DecidableEq, Repr

/-- What an axis is doing inside its state (R362 to R369). -/
inductive AxisPlan where
  | none
  /-- A move to a target at most at a rate: a move, a jog or the parking move. -/
  | move (target : Int) (rate : Nat)
  /-- Braking to rest; then, after the dwell, a move to the target at the rate where there is one. -/
  | brake (next : Option (Int × Nat))
  /-- Braking to rest for a limit input that became active at a position (R364). -/
  | limit (edge : Int)
  /-- At rest in a reversal dwell before a move. -/
  | dwell (target : Int) (rate : Nat)
  /-- A step of the homing sequence of R366, by number; `latch` is the position at the edge, `start` where the search began. -/
  | home (stage : Nat) (latch start : Int)
  /-- Braking before the parking move, and the parking move to a position at which the phase is 0 (R369). -/
  | toPark
  | park (target : Int)
deriving DecidableEq, Repr

/-- Limits of an axis in force (R355): VMAX, ACCEL, DECEL, JERK. -/
structure AxLim where
  vmax  : Nat
  accel : Nat
  decel : Nat
  jerk  : Nat
deriving DecidableEq, Repr

/-- One local axis beside 3610 + n. `pos`, `vel` and `acc` are the planned motion in steps and seconds; `set` holds the settings 3600 + n:01 to :19
with which the move began (R357), `segAt` the model time at which the segment under way ends (R362), and `dirPin` the level of AXDIR_n. -/
structure Axis where
  plan     : AxisPlan
  pos      : Rat
  vel      : Rat
  acc      : Rat
  /-- Direction of the last motion; true is positive. -/
  forward  : Bool
  /-- Limits in force for the move (R357). -/
  lim      : AxLim
  /-- Model time before which the first step may not begin, and of the last rest (R353, R361). -/
  readyAt  : Nat
  restAt   : Nat
  set      : List Int := []
  segAt    : Nat := 0
  dirPin   : Bool := true
deriving DecidableEq, Repr

/-- The axis at reset. -/
def axis0 : Axis :=
  { plan := .none, pos := 0, vel := 0, acc := 0, forward := true
    lim := { vmax := 10000, accel := 100000, decel := 100000, jerk := 1000000 }, readyAt := 0, restAt := 0 }

/-- One pair lane (R476 to R480). -/
structure Lane where
  txSeq    : Nat
  rxRun    : Nat
  lastAt   : Option Nat
deriving DecidableEq, Repr

/-- Reserve units beside 2460, 2801, 4840 to 4842 (R541 to R548): errors of rows and regions, spare rows used in an array, what a
region or flash block is remapped to, and rows retired with no spare row left. Rows are numbered island × 2^24 + array × 2^12 + row and
arrays island × 2^12 + array; errors are (model time, uncorrectable), newest first. -/
structure Reserve where
  rowErrs  : Tab (List (Nat × Bool))
  rowsUsed : Tab Nat
  regErrs  : Tab (List (Nat × Bool))
  regions  : Tab Nat
  blocks   : Tab Nat
  bare     : List Nat
  /-- Readings of the junction temperature in each range of 4861:01, of 10 ms each (R540). -/
  tempRuns : Tab Nat
deriving DecidableEq, Repr

/-- One tracking channel (R136 to R144). `since` is the model time of entering its state; the run marks give the model time since
which a condition of R137 has held. Loop terms are those of R139 and R140: alpha and beta in rad/s² and rad/s, gamma in
chips/s, with the last prompt sum and the NCO frequencies. LOCK_MS counts from `lockAt`. `dir` is the unit vector to the satellite. `codeT` is
the code time in s, modulo the longest primary code period of 1.5 s, at the model time `codeAt` (R132). `cn0s` and `inds` are the samples that
C/N0 and the lock indicator are averaged from, `mp` the multipath metric, `bits` the newest symbols of the data component, and `held` the last
measurement: model time, pseudorange in m and carrier in cycles. -/
structure Chan where
  state   : Nat
  sys     : Nat
  sig     : Nat
  sat     : Nat
  ant     : Nat
  elev    : Int
  since   : Nat
  lockAt  : Nat
  cn0     : Nat
  ind     : Int
  doppler : Int
  half    : Bool
  slip    : Bool
  swapped : Bool
  pullAt  : Option Nat
  highAt  : Option Nat
  lowAt   : Option Nat
  weakAt  : Option Nat
  alpha   : Rat
  beta    : Rat
  gamma   : Rat
  lastI   : Rat
  lastQ   : Rat
  fNco    : Rat
  fCode   : Rat
  dir     : List Rat
  codeT   : Rat
  codeAt  : Nat
  cn0s    : List (Nat × Rat)
  inds    : List (Nat × Rat)
  mp      : Int
  bits    : List Bool
  held    : Option (Nat × Rat × Rat)
deriving DecidableEq, Repr

/-- A channel that tracks nothing. -/
def chan0 : Chan :=
  { state := 0, sys := 0, sig := 0, sat := 0, ant := 0, elev := 0, since := 0, lockAt := 0, cn0 := 0, ind := 0, doppler := 0
    half := false, slip := false, swapped := false, pullAt := none, highAt := none, lowAt := none, weakAt := none
    alpha := 0, beta := 0, gamma := 0, lastI := 0, lastQ := 0, fNco := 0, fCode := 0, dir := [], codeT := 0, codeAt := 0, cn0s := [], inds := []
    mp := 0, bits := [], held := none }

/-- A signal of a satellite on an antenna. -/
structure Sig where
  sys : Nat
  sig : Nat
  sat : Nat
  ant : Nat
deriving DecidableEq, Repr

/-- An exclusion of the consistency checks (R166, R167): scope 0 S, 1 T, 2 C; its check; what it removes, as the event's DETAIL
numbers it; and the updates since its check began to pass. -/
structure Excl where
  scope : Nat
  check : Nat
  what  : Nat
  pass  : Option Nat
deriving DecidableEq, Repr

/-- One signal entry of a measurement record (R150), less its constant fields. -/
structure MeasEntry where
  chan    : Nat
  sys     : Nat
  sig     : Nat
  sat     : Nat
  ant     : Nat
  pr      : Nat
  carrier : Int
  doppler : Int
  lockMs  : Nat
  cn0     : Nat
  mp      : Int
  flags   : Nat
deriving DecidableEq, Repr

/-- A measurement epoch latched (R145, R149). `at_` is the model time of the epoch instant. -/
structure Meas where
  seq     : Nat
  rate    : Nat
  timeSt  : Nat
  flags   : Nat
  time    : Nat
  tick    : Nat
  steps   : Nat
  at_     : Nat
  entries : List MeasEntry
deriving DecidableEq, Repr

/-- A retired channel that waits for its replacement at the next epoch boundary (R155): its number, the reserve, whether that has shadowed it,
and its last state. -/
structure Swap where
  old    : Nat
  new    : Nat
  shadow : Bool
  chan   : Chan
deriving DecidableEq, Repr

/-- The shadow test that runs (R153): the active channel, the reserve under way, the start, the reserves of the tests before, and for the channel
and each of those whether the reserve under way has disagreed with it at an epoch. -/
structure Shadow where
  chan   : Nat
  res    : Nat
  at_    : Nat
  before : List Nat
  bad    : List Bool
deriving DecidableEq, Repr

/-- The pulse blanker and the estimates of a band-antenna pair (R126 to R130). `rms2` is the squared noise RMS once a window of 1 ms without
blanking has given one, `hold` the samples still to blank, and `sum`, `count` and `dirty` the window under way. `bad` and `all` count the samples
since the last epoch, and `log` those of the last second at their model times. `jn` and `agc` are the samples of J/N as a power ratio and of the
AGC gain; `low` is since when JI has stayed 16 below its threshold. `moved` and `weak` are, per notch, when its centre last moved and since when
its component has stood 3 dB below the threshold. -/
structure Band where
  rms2  : Option Rat
  hold  : Nat
  sum   : Nat
  count : Nat
  dirty : Bool
  bad   : Nat
  all   : Nat
  log   : List (Nat × Nat × Nat)
  jn    : List (Nat × Rat)
  agc   : List (Nat × Rat)
  low   : Option Nat
  moved : Tab Nat
  weak  : Tab Nat
deriving DecidableEq, Repr

/-- A pair before its first samples. -/
def band0 : Band :=
  { rms2 := none, hold := 0, sum := 0, count := 0, dirty := false, bad := 0, all := 0, log := [], jn := [], agc := [], low := none, moved := []
    weak := [] }

/-- The reference receiver (R121 to R175) beside 2400 to 24C0. `queue` holds the searches that wait for the bank: channel and whether unaided; the
one at the front began at `bankAt`. `requeue` holds signals that wait their 10 s. `joined` holds the reserves that have been brought in, and
`shadowNext` the channel from which the next shadow test looks on. `bandCn0` is the mean C/N0 of each pair at the last time update. The survey
keeps its number of positions, their sums and the sums of their squares, and `hour` the antenna 0 positions of the last hour (R161, R162). -/
structure Receiver where
  jamUp    : List Nat
  bands    : Tab Band
  joined   : List Nat
  bankAt   : Nat
  shadowNext : Nat
  bandCn0  : Tab Rat
  surveyN  : Nat
  surveySum : List Rat
  surveySq : List Rat
  hour     : List (Nat × List Rat)
  chans    : Tab Chan
  queue    : List (Nat × Bool)
  requeue  : List (Nat × Sig)
  swaps    : List Swap
  shadow   : Option Shadow
  almanac  : Bool
  eph      : List (Nat × Nat)
  coarse   : Bool
  startAt  : Nat
  fixed    : Bool
  latch    : Option Meas
  last     : Option Meas
  /-- The rate of the epoch before, where it was dropped (R149). -/
  dropped  : Option Nat
  dropTimes : List Nat
  excl     : List Excl
  doaRuns  : Tab Nat
  jump     : Option (Int × Nat)
  clean    : Nat
  badAt    : Option Nat
  msmOff   : Bool
  msmSteps : Nat
  surveyAt : Nat
  far      : Bool
  /-- 2490:06 has been set since the Benchmark was last changed (R171). -/
  station  : Bool
deriving DecidableEq, Repr

/-- The receiver before its island first starts. -/
def receiver0 : Receiver :=
  { jamUp := [], bands := [], joined := [], bankAt := 0, shadowNext := 0, bandCn0 := [], surveyN := 0, surveySum := [0, 0, 0]
    surveySq := [0, 0, 0], hour := [], chans := [], queue := [], requeue := [], swaps := [], shadow := none, almanac := false, eph := [], coarse := false
    startAt := 0, fixed := false, latch := none, last := none, dropped := none, dropTimes := [], excl := [], doaRuns := []
    jump := none, clean := 0, badAt := none, msmOff := false, msmSteps := 0, surveyAt := 0, far := false, station := false }

/-- What holds a group (R241): the codes of HIT_KIND in R248. -/
inductive HoldKind where
  | interval | standing | park | supervisor
deriving DecidableEq, Repr

/-- One hold of a path on a group (R241, R243). Times are in ms of the engine scale with margins; `stop` has no meaning for a
standing hold or park. `last` is the path chainage at which the path's last stretch in the group ends (R245). `since` is the
engine time at which a standing hold began. -/
structure Hold where
  path  : Nat
  group : Nat
  kind  : HoldKind
  start : Int
  stop  : Int
  last  : Int
  arcs  : List Nat
  nodes : List Nat
  since : Int
  alert : Bool
deriving DecidableEq, Repr

/-- One piece of a stored interval in the bucket of a second (R243). -/
structure Piece where
  group : Nat
  sec   : Int
  path  : Nat
deriving DecidableEq, Repr

/-- One item of a vehicle path (R247) with the path chainages of its stretch. -/
structure PathItem where
  arc   : Nat
  seg   : Nat
  kind  : Nat
  group : Nat
  c0    : Int
  c1    : Int
deriving DecidableEq, Repr

/-- One grant of a path (R336). `arcs` are its own arcs, `depart` the departure in ns or 0. -/
structure GrantRec where
  id     : Nat
  base   : Nat
  first  : Nat
  arcs   : List Nat
  start  : Int
  stop   : Int
  park   : Nat
  task   : Nat
  depart : Nat
deriving DecidableEq, Repr

/-- A granted path of a slot: its items, its arcs with the path chainage of each arc's start, and its grants, newest first. -/
structure Path where
  items  : List PathItem
  arcs   : List (Nat × Int)
  grants : List GrantRec
  /-- Engine time in ms before which the vehicle does not depart. -/
  depart : Int
deriving DecidableEq, Repr

/-- The reservation engine (R240 to R260) beside 2E11 and 2E20. `held` is the copy in DRAM (R259). -/
structure Engine where
  holds   : List Hold
  pieces  : List Piece
  history : List (List Byte)
  sched   : Nat
  full    : Bool
  refusedAt : Tab Nat
deriving DecidableEq, Repr

/-- The fleet engines' and telegrams' state of one slot beside 5010 to 5013 and 3431. -/
structure Vehicle where
  path     : Option Path
  /-- Track position of R230: arc, chainage, signed offset. -/
  track    : Option (Nat × Nat × Int)
  offTrack : Bool
  /-- Zone flags of the last fix: bit 0 NO_GO, 1 CLASS_BARRED, 2 OUTSIDE, 3 ALERT (R237). -/
  zone     : Nat
  /-- Planned motion of the antenna along the path: mm and seconds. -/
  s        : Rat
  v        : Rat
  a        : Rat
  /-- Limits in force: DECEL and JERK of the class record used (R291). -/
  decel    : Nat
  jerk     : Nat
  /-- Stop causes of R290 in force, one bit each from bit 1. -/
  stops    : Nat
  /-- A Whiteout stop is still being completed (R317). -/
  woStop   : Bool
  /-- Model time at which the slot left READY while it held a path (R286). -/
  unready  : Option Nat
  /-- Group waited for under R253. -/
  waits    : Option Nat
  /-- Node of a vehicle command 3 not yet carried out (R289, R292). -/
  target   : Option Nat
  /-- That target has been requested since the vehicle came to rest; it is requested again at auction rounds only (R292). -/
  tried    : Bool := false
  /-- Model time at which a reversal dwell began (R292). -/
  dwellAt  : Nat := 0
  /-- Speed above a lowered limit has been reported (R288). -/
  beyond     : Bool
  /-- Model time of the last rest with the front at the path's end. -/
  restAt   : Nat
  /-- Next SEQ of the device streams fix, grant, setpoint, permission, task status (R329), and next GRANT_ID (R336). -/
  seqFix   : Nat
  seqGrant : Nat
  seqBlock : Nat
  seqPerm  : Nat
  seqTask  : Nat
  nextGrant : Nat
  /-- Last SEQ of the vehicle streams acknowledgement and task status (R329). -/
  rxAck    : Option Nat
  rxTask   : Option Nat
  /-- Destination learned (R325): address and port. -/
  dest     : Option (Nat × Nat)
  /-- Last acknowledgement (R345): PERM_SEQ, GRANT_ID, STATE, LEVEL; periods since, and whether the absence was reported. -/
  ackPerm  : Nat
  ackGrant : Nat
  ackState : Nat
  ackLevel : Nat
  periods  : Nat
  absent   : Bool
  /-- A resend has been made in this permission period (R338). -/
  resent   : Bool
  /-- Grants not yet released by a Cairn acknowledgement (R489): GRANT_ID, number of the Cairn and model time. -/
  heldBack : List (Nat × Nat × Nat)
  /-- Model times of the last events that are limited in rate. -/
  lateAt   : Option Nat
deriving DecidableEq, Repr

/-- The vehicle state of a slot that has had none. -/
def vehicle0 : Vehicle :=
  { path := none, track := none, offTrack := false, zone := 0, s := 0, v := 0, a := 0, decel := 0, jerk := 0, stops := 0
    woStop := false, unready := none, waits := none, target := none, beyond := false, restAt := 0
    seqFix := 0, seqGrant := 0, seqBlock := 0, seqPerm := 0, seqTask := 0, nextGrant := 1
    rxAck := none, rxTask := none, dest := none
    ackPerm := 0, ackGrant := 0, ackState := 0, ackLevel := 0, periods := 0, absent := false, resent := false
    heldBack := [], lateAt := none }

/-- One task (R263 to R267). Times are in ns of fleet time; 0 stands for none. -/
structure Task where
  state    : Nat
  id       : Nat
  prio     : Nat
  slot     : Nat
  reason   : Nat
  attempts : Nat
  cost     : Nat
  pick     : Nat
  drop     : Nat
  classes  : Nat
  fixed    : Bool
  fixSlot  : Nat
  timed    : Bool
  pickSvc  : Nat
  dropSvc  : Nat
  earliest : Nat
  deadline : Nat
  /-- Model time of the last event 286 for the task (R275). -/
  warned   : Option Nat
  /-- Model time at which the task became DONE, CANCELLED or FAILED (R265). -/
  endAt    : Nat := 0
deriving DecidableEq, Repr

/-- The result of a search at a node (R271): the time in ms to it, the last arc, and the node that this arc leaves. -/
abbrev Reached := Nat × Nat × Nat

/-- Auction rounds (R272 to R275): a cause that waits, the round that runs with its start, and its free vehicles and travel
times in ms to each task's pick node. -/
structure Rounds where
  due     : Bool
  running : Bool
  startAt : Nat
  free    : List Nat
  times   : List (Nat × Nat × Nat)
  /-- Bidding cycles completed when the round bound passed (R274). -/
  bound   : Option Nat
  /-- The predecessor chains of the pass for each free vehicle (R271). -/
  passes  : List (Nat × List (Nat × Reached)) := []
  /-- The settings 3000:03 to 3000:08 with which the round began (R46, R293). -/
  set     : List (Key × DVal) := []
deriving DecidableEq, Repr

/-- Telegram counts that the device keeps to limit its events (R328). -/
structure Telegrams where
  term     : Nat
  /-- The instants of the malformed telegrams of the past second (R328). -/
  bad      : List Nat
  badAt    : Option Nat
  unknownAt : Option Nat
  /-- Period instants at which grants are sent again after a new term (R338). -/
  newTerm  : Bool
  /-- A stale permission or block has been reported in this recovery of the switch island (R350). -/
  stale    : Bool
deriving DecidableEq, Repr

/-- One single-difference ambiguity of a slot's filter (R193, R199, R204, R212): its integer against the pivot, the base
difference of R214, the accepted fixes that gave the same integer, and whether it is held or carried. -/
structure Amb where
  sys     : Nat
  band    : Nat
  sat     : Nat
  pivot   : Nat
  n       : Int
  sd      : Rat
  run     : Nat
  held    : Bool
  carried : Bool
  /-- Taken from a Cairn and not yet translated to this unit's base (R214). -/
  seed    : Bool
deriving DecidableEq, Repr

/-- What the filter keeps for one single-difference ambiguity (R193, R198): its signal, the vehicle's last lock time, half-cycle
indicator and phase, and the epoch it was last seen at in GPS ns. `cuts` are the tags of base records with SLIP for the signal that no epoch has
reached yet (R192). -/
structure Sd where
  sys   : Nat
  band  : Nat
  sig   : Nat
  sat   : Nat
  lock  : Nat
  half  : Bool
  phase : Rat
  seen  : Int
  cuts  : List Int := []
deriving DecidableEq, Repr

/-- The filter of a slot (R193): its time in GPS ns, the vector x of position, velocity and acceleration in m and s with one
ambiguity in cycles for each of `sds`, its covariance by rows, the pivot of each system group and band (R199), and the signals in use, by
system, satellite and code (R187). -/
structure Filt where
  t    : Int
  x    : List Rat
  cov  : List (List Rat)
  sds  : List Sd
  pivots : List (Nat × Nat × Nat × Nat)
  used : List (Nat × Nat × Nat) := []
deriving DecidableEq, Repr

/-- The position engine's state of one slot beside 5000 to 5003. Times of epochs are GPS ns, positions mm, speeds mm/s. -/
structure Slot where
  lastTv   : Option Int
  lastFix  : Option Nat
  fixes    : Nat
  shed     : Nat
  e        : Int
  n        : Int
  u        : Int
  ve       : Int
  vn       : Int
  vu       : Int
  sigE     : Nat
  sigN     : Nat
  sigU     : Nat
  base     : Nat
  /-- The instant of the Cairn that seeded it, in ns (R214). -/
  seedAt   : Nat
  ambs     : List Amb
  filt     : Option Filt
  /-- Model time at which the slot's state code was entered (R184). -/
  stateAt  : Nat
  /-- Model time from which the present gap counts (R211, R213). -/
  gapAt    : Option Nat
  /-- Model times of the last events 197 and 198 of the slot (R189, R208). -/
  excessAt : Option Nat
  rejectAt : Option Nat
deriving DecidableEq, Repr

/-- A slot that holds no state. -/
def slot0 : Slot :=
  { lastTv := none, lastFix := none, fixes := 0, shed := 0, e := 0, n := 0, u := 0, ve := 0, vn := 0, vu := 0
    sigE := 0, sigN := 0, sigU := 0, base := 0, seedAt := 0, ambs := [], filt := none, stateAt := 0, gapAt := none, excessAt := none, rejectAt := none }

/-- A base measurement record as the engine keeps it (R149, R190): TIME in ns, tag in GPS ns, TIME_STATE, SUSPECT and EXCLUDED. -/
structure BaseRec where
  num      : Nat
  time     : Nat
  tag      : Int
  timeSt   : Nat
  suspect  : Bool
  excluded : Bool
  at_      : Nat
  entries  : List MeasEntry
deriving DecidableEq, Repr

/-- One vehicle epoch in the engine (R188 to R191, R208): its slot and time, its reference, and where it stands. -/
structure Epoch where
  slot     : Nat
  tv       : Int
  partial_ : Bool
  excess   : Bool
  conform  : Bool
  again    : Bool
  refAt    : Nat
  /-- 0 collecting MSMs, 1 held for a base record, 2 waiting for a group. -/
  stage    : Nat
  /-- The base record paired with, once paired, and whether by the Propagated rule. -/
  base     : Option BaseRec
  extra    : Bool
  /-- Model time of its first MSM, and the cells received (R186, R188). -/
  firstAt  : Nat
  cells    : List VCell
  /-- The settings that a group began it with (R46, R216), and whether its slot has been disabled since (R184). -/
  set      : Tab DVal := []
  void     : Bool := false
deriving DecidableEq, Repr

/-- The position engine (R176 to R217) beside 2800 and 2801. `lanes` lists retired lanes, `groups` the groups out of service,
`busy` the epoch each group works on. Tokens are in model ticks × epochs per second. -/
structure PosEng where
  lanes    : List Nat
  groupsOut : List Nat
  busy     : Tab Epoch
  wait     : List Epoch
  bases    : List BaseRec
  baseNum  : Nat
  /-- Model times of the last base record and of the first of an unbroken run (R184). -/
  baseAt   : Option Nat
  runAt    : Option Nat
  tokens   : Nat
  tokenAt  : Nat
  shedNow  : List Nat
  shedAt   : Option Nat
  /-- Model times of the fixes of the last second (2801:04). -/
  fixTimes : List Nat
  /-- Offset c of the receiver's latest time solution, in ns (R190). -/
  gnssC    : Int
  /-- The Benchmark in m and the basis of the grid that positions stand in while none is committed (R215). -/
  oldGrid  : Option (List Rat × List (List Rat))
deriving DecidableEq, Repr

/-- A notice of a Whiteout change kept for the peer (R488): sequence, state, level, causes, instant in ns. -/
structure Notice where
  seq    : Nat
  state  : Nat
  level  : Nat
  causes : Nat
  time   : Nat
deriving DecidableEq, Repr

/-- An integer record of a Cairn's section 1 (R484): the single-difference carrier of the base is in cycles. -/
structure CairnInt where
  sys   : Nat
  band  : Nat
  sat   : Nat
  pivot : Nat
  n     : Int
  sd    : Rat
deriving DecidableEq, Repr

/-- A slot record of a Cairn (R484, section 1). `base` is the base epoch of the differences, in ns. -/
structure CairnSlot where
  slot    : Nat
  state   : Nat
  vehicle : Nat
  e       : Int
  n       : Int
  u       : Int
  ve      : Int
  vn      : Int
  vu      : Int
  sigE    : Nat
  sigN    : Nat
  sigU    : Nat
  base    : Nat
  ints    : List CairnInt
deriving DecidableEq, Repr

/-- A path record of a Cairn (R484, section 2); each arc entry with its REVERSE_GEAR bit. -/
structure CairnPath where
  slot   : Nat
  state  : Nat
  task   : Nat
  grant  : Nat
  chain  : Int
  speed  : Int
  accel  : Int
  auth   : Int
  rest   : Int
  arcs   : List (Nat × Bool)
deriving DecidableEq, Repr

/-- A hold record of a Cairn (R484, section 3): path number, EARLY, and an item of R247. -/
structure CairnHold where
  path  : Nat
  early : Bool
  item  : ResItem
deriving DecidableEq, Repr

/-- A task record of a Cairn (R484, section 4): its submission record and the fields of its status record. -/
structure CairnTask where
  num      : Nat
  record   : List Byte
  state    : Nat
  slot     : Nat
  reason   : Nat
  attempts : Nat
  cost     : Nat
deriving DecidableEq, Repr

/-- A Cairn (R483, R484). Times are in ns; `instant` is 0 while fleet time is unavailable. -/
structure Cairn where
  unit    : Nat
  final   : Bool
  term    : Nat
  gen     : Nat
  setGen  : Nat
  stopSeq : Nat
  woState : Nat
  level   : Nat
  causes  : Nat
  instant : Nat
  steps   : Nat
  timeSt  : Nat
  slots   : List CairnSlot
  paths   : List CairnPath
  holds   : List CairnHold
  tasks   : List CairnTask
deriving DecidableEq, Repr

/-- A Cairn slot of the retention SRAM (R486): TERM and GENERATION of the Cairn under transfer or held, its parts received, and the Cairn once it
is complete. -/
structure CairnHeld where
  term     : Nat
  gen      : Nat
  got      : List (Nat × List Byte)
  cairn    : Option Cairn
deriving DecidableEq, Repr

/-- Duty and standby state beside 4400 to 4402 (R473 to R503). -/
structure Pair where
  lane0    : Lane
  lane1    : Lane
  /-- The unit has been paired in its term; it is isolated; it is SOLO (R489, R495). -/
  paired   : Bool
  isolated : Bool
  solo     : Bool
  isoAt    : Nat
  /-- Newest GENERATION taken, and the Cairns sent and not acknowledged: generation, term, model time, FINAL. -/
  gen      : Nat
  sent     : List (Nat × Nat × Nat × Bool)
  busyTill : Nat
  slotA    : Option CairnHeld
  slotB    : Option CairnHeld
  own      : Option Cairn
  notice   : Option Notice
  /-- TERM and model time of the instant of the Cairn of 4402:08 (R479, R503). -/
  cairnTerm : Nat
  cairnAt  : Nat
  /-- Settings generation sent and not acknowledged, with its records; parts received: generation, total length, bytes received so far. -/
  unacked  : Option (Nat × List Byte)
  parts    : Option (Nat × Nat × List Byte)
  /-- Reason of the wake in progress: 0 none, 1 switch-over, 2 drill, 3 takeover. -/
  waking   : Nat
  /-- Switch-over on the active: 0 none, 1 WAKE sent, 2 peer thawed, 3 FINAL sent. -/
  switch_  : Nat
  drill    : Bool
  /-- Paths taken from a Cairn whose holds are inherited (R493). -/
  inherited : List Nat
  /-- Model time of the first permission of the term (R497). -/
  firstPerm : Option Nat
  /-- Model times: the election began, both lanes were lost, the wake or switch-over in progress began, the last heartbeats left, a drill was last
  due, a change set was last sent (R475, R478, R487, R490, R500, R501). -/
  electAt  : Nat
  lostAt   : Nat
  wokenAt  : Nat
  beatAt   : Option Nat
  drillAt  : Nat
  setAt    : Nat
  /-- The number of the last Cairn instant, in 100 ms of fleet time or, with the flag, of the crystal count (R482). -/
  tookAt   : Option (Bool × Nat)
  /-- The Cairn or, with the flag, the change set in transfer until `busyTill`: its lane, generation and bytes (R480). -/
  moving   : Option (Nat × Bool × Nat × List Byte)
deriving DecidableEq, Repr

/-- One queue item (R410 to R412): its header fields, its frame pool buffer where it is a frame descriptor, the rest of the
descriptor, and the instant from which it is visible, in 0.05 ns of model time. -/
structure QItem where
  src    : Nat
  typ    : Nat
  tag    : Nat
  words  : Nat
  buf    : Option Nat
  flds   : List Nat
  seenAt : Nat
deriving DecidableEq, Repr

/-- One queue (R409 to R422). Its items stand oldest first: `nHead` in the head, then `nFirn` in Firn, then those of the tail.
`back` lists credits returned and the instant from which they can be reserved; `told` marks producers that receive FLUSHED. -/
structure Queue where
  items    : List QItem
  nHead    : Nat
  nFirn    : Nat
  back     : List (Nat × Nat)
  told     : Nat
  above    : Bool
  peak     : Nat
  accepted : Nat
  pops     : Nat
  refused  : Nat
  flushes  : Nat
  lost     : Nat
  hist     : Tab Nat
  /-- Model times of the last events 393 and 449 of the queue. -/
  creditAt : Option Nat
  refuseAt : Option Nat
deriving DecidableEq, Repr

/-- A queue that has carried nothing. -/
def queue0 : Queue :=
  { items := [], nHead := 0, nFirn := 0, back := [], told := 0, above := false, peak := 0, accepted := 0, pops := 0, refused := 0
    flushes := 0, lost := 0, hist := [], creditAt := none, refuseAt := none }

/-- One task slot (R423): its state code, the firmware's priority and mask, its core, its wake source, a remembered wake and
the model time at which it became READY. `held` lists the queue items popped in its dispatch, with their queues, and `again` those of a dispatch
that a core's retirement cut short, in order (R543). -/
structure Job where
  state   : Nat
  prio    : Nat
  mask    : Nat
  core    : Option Nat
  srcKind : Nat
  srcNum  : Nat
  memo    : Bool
  readyAt : Nat
  held    : List (Nat × QItem) := []
  again   : List (Nat × QItem) := []
deriving DecidableEq, Repr

/-- One logical core (R424, R433): the slot it runs, its ready list in order of arrival, and its counts. `since` is the model time at which it
began to run a task, and `spans` the times of the last second in which it ran one. -/
structure Core where
  run      : Option Nat
  ready    : List Nat
  since    : Nat := 0
  spans    : List (Nat × Nat) := []
  loadHigh : Bool
  peak     : Nat
  runs     : Nat
  preempts : Nat
  hist     : Tab Nat
deriving DecidableEq, Repr

/-- A core that has run nothing. -/
def core0 : Core := { run := none, ready := [], loadHigh := false, peak := 0, runs := 0, preempts := 0, hist := [] }

/-- The queues and the scheduler (R409 to R433). Timers give the slot they wake and their expiry in ns of the scheduler scale. -/
structure Sched where
  queues  : Tab Queue
  firnHigh : Bool
  jobs    : Tab Job
  cores   : Tab Core
  timers  : Tab (Nat × Int)
  /-- Model times of the last events 454 and 455. -/
  waitAt  : Option Nat
  timerAt : Option Nat
  /-- Timed actions armed for a target already passed (R431), with the scheduler scale at the arming in ns. -/
  actLate : Tab Int
deriving DecidableEq, Repr

/-- A complete capture record (R449, R450). -/
structure CapRecord where
  header : List Byte
  frames : List Byte
deriving DecidableEq, Repr

/-- The capture engine (R434 to R448) beside 4200 to 4220. `start` is the tick of the first frame stored. -/
structure Capture where
  seg      : Nat
  start    : Nat
  tick     : Nat
  frac     : Nat
  place    : Nat
  source   : Nat
  forced   : Bool
  short    : Bool
  extra    : Nat
  time     : Nat
  timeSt   : Nat
  steps    : Nat
  records  : Tab CapRecord
  /-- A re-arm waits for this frame boundary. -/
  rearm    : Option Nat
  /-- The hysteresis conditions of R441: a sample at or below level − hysteresis, and one at or above level + hysteresis, has been seen. -/
  primedLow  : Bool
  primedHigh : Bool
  /-- The last sample seen, with its tick. -/
  last     : Option (Nat × CapSample)
  missedAt : Option Nat
deriving DecidableEq, Repr

/-- The capture engine at reset. -/
def capture0 : Capture :=
  { seg := 0, start := 0, tick := 0, frac := 0, place := 0, source := 0, forced := false, short := false, extra := 0
    time := 0, timeSt := 0, steps := 0, records := [], rearm := none, primedLow := false, primedHigh := false, last := none, missedAt := none }

/-- A frame waiting in an egress buffer: class (4 for a stop telegram), length, and its bytes, or the fields of a stop telegram (R379). -/
structure OutFrame where
  cls  : Nat
  len  : Nat
  flds : List Int
deriving DecidableEq, Repr

/-- One switch port (R372 to R379, R407). `waiting` holds what the transmitter has not begun, oldest first. -/
structure Port where
  up       : Bool
  speed    : Nat
  sending  : Option OutFrame
  waiting  : List OutFrame
  /-- Model time up to which a received PAUSE holds the transmitter. -/
  pausedTo : Nat
  /-- PAUSE has been sent for the ingress buffer. -/
  pausing  : Bool
  /-- Discards since the last event 387, and its model time. -/
  discards : Nat
  discardAt : Option Nat
  /-- Model times at which the link came up, and at which it went down or the port was enabled (R407). -/
  upAt     : Nat
  /-- The partner's ability in auto-negotiation (R373). -/
  ability  : Nat
  downAt   : Option Nat
deriving DecidableEq, Repr

/-- A port that is down. -/
def port0 : Port :=
  { up := false, speed := 0, sending := none, waiting := [], pausedTo := 0, pausing := false, discards := 0, discardAt := none
    upAt := 0, ability := 0, downAt := none }

/-- One entry of an exact-match table: key and value as the window lays them out (R401). -/
structure Entry where
  key : Nat
  val : Nat
deriving DecidableEq, Repr

/-- An exact-match table (R384): entries by way index; stash slot k stands at 65,536 + k. `order` lists the stash, oldest first. -/
structure Exact where
  ways  : Tab Entry
  order : List Nat
deriving DecidableEq, Repr

/-- A learning notice (R381): 0 learn, 1 move, 2 refresh, 3 removal; key and port; the model time at which it was posted. -/
structure LearnNote where
  kind : Nat
  key  : Nat
  port : Nat
  time : Nat
deriving DecidableEq, Repr

/-- One pipeline's own state: its MAC table and the notices on their way to it. -/
structure Pipe where
  mac      : Exact
  notices  : List LearnNote
  stashHigh : Bool
  fillHigh : Bool
  /-- Model times of the last events 388 and 389 of the pipeline. -/
  fullAt   : Option Nat
  lostAt   : Option Nat
  /-- Model time at which the present second of punts began, and the punts made in it (R395). -/
  puntAt   : Nat
  punts    : Nat
  /-- Model times at which the inserts in progress and waiting end (R380), earliest first. -/
  inserts  : List Nat
  /-- Model time of the ageing sweep's last visit, by index (R388). -/
  swept    : Tab Nat
  /-- An entry has left the buckets since the last try to re-insert a stash entry (R387). -/
  freed    : Bool
deriving DecidableEq, Repr

/-- A pipeline at the start of its island. -/
def pipe0 : Pipe :=
  { mac := { ways := [], order := [] }, notices := [], stashHigh := false, fillHigh := false, fullAt := none, lostAt := none
    puntAt := 0, punts := 0, inserts := [], swept := [], freed := false }

/-- The tables of the switch at a moment (R407). -/
structure SwImage where
  macA    : Exact
  macB    : Exact
  sess    : Exact
  routes4 : List Entry
  routes6 : List Entry
  kept    : List (Nat × Entry)
deriving DecidableEq, Repr

/-- The switch island (R372 to R408) beside 3A00 to 3A90. `routes4` and `routes6` stand in the order of their index. `kept`
holds the PERSIST entries of the settings store by table code (R404). `faulty` lists entries that wait for their rewrite, by
table code, and `rowFaults` the faults of SRAM rows: how many, and the model time of the first (R406). -/
structure Switch where
  ports    : Tab Port
  pipeA    : Pipe
  pipeB    : Pipe
  sess     : Exact
  routes4  : List Entry
  routes6  : List Entry
  kept     : List (Nat × Entry)
  faulty   : List (Nat × Entry)
  rowFaults : Tab (Nat × Nat)
  /-- Trie nodes that wait for their rewrite: IPv6, stage, and the address bits walked to it (R406). -/
  badNodes : List (Bool × Nat × Nat)
  eccAt    : Option Nat
  /-- How many of the device's own outputs pipeline A has been given (R376). -/
  given    : Nat
  /-- The tables before the staged window command that still runs (R407). -/
  undo     : Option SwImage
  /-- Model time up to which the table command window is BUSY (R399). -/
  busyTill : Nat
deriving DecidableEq, Repr

/-- What a flash bank holds of an image (R512, R516): the bytes written so far (none for the image that the device came with)
and the header's fields. `good` says that it is whole and has passed the checks of R517 and R520. -/
structure Bank where
  img     : List Byte
  len     : Nat
  ver     : Int
  sec     : Nat
  key     : Nat
  level   : Nat
  schema  : Int
  good    : Bool
deriving DecidableEq, Repr

/-- A boot descriptor (R516), less its constant fields and CRC: SEQ, ACTIVE_BANK, STATE, TRIAL_STARTS, VER_A, VER_B. -/
structure Desc where
  seq    : Nat
  active : Nat
  trial  : Bool
  starts : Nat
  verA   : Int
  verB   : Int
deriving DecidableEq, Repr

/-- Firmware update beside 4600 to 4621 (R509 to R532). `desc0` and `desc1` are the two descriptor copies. `source` is the peer
whose download is in progress. `fallback` is FALLBACK_CAUSE, and `fellBack` says that event source 503 is due. `old` holds the
settings area and the PERSIST entries of the previous image during a trial. `trialAt` is the model time of the end of its Thaw. -/
structure Update where
  bankA    : Option Bank
  bankB    : Option Bank
  desc0    : Option Desc
  desc1    : Option Desc
  source   : Option Peer
  resume   : Nat
  sigId    : List Byte
  fallback : Nat
  fellBack : Bool
  old      : Option (Tab DVal × List (Nat × Entry))
  migrated : Bool
  trialAt  : Nat
  /-- An activation accepted waits for a commit to be applied (R526). -/
  waiting  : Bool
  /-- The boot ROM is in recovery; the DFU state, status and image received, and the bank it goes to (R530 to R532). -/
  recovery : Bool
  dfuState : Nat
  dfuError : Nat
  dfuImg   : List Byte
  dfuBank  : Nat
deriving DecidableEq, Repr

/-- Witness beside 4610 (R504 to R509): the model time at which the open window last opened or restarted, the latches that set
while the core island was down, and that the retention file was lost and is to be rewritten at the next start (R506, R467); SEAL_OFF of the file. -/
structure Witness where
  window   : Option Nat
  late     : Nat
  fileLost : Bool
  sealOff  : Bool
deriving DecidableEq, Repr

/-- Happenings that recur after a time, or at instants of fleet time, and whose last instant the device holds: the heartbeat of a CAN FD port
(R74), TPDO1 with the Whiteout level that it last carried and TPDO2 (R75), setpoint blocks (R284) and permissions (R342), the save of the counts
(R468), the messages of a PTP port and the last Announce it took (R101, R102), the retry of a shorted feed (R124), the self-test of a core and the
wear measurement (R540, R541), the reading of the junction temperature (R570), and measurement and MSM epochs, by their instants (R145, R172). -/
inductive Recur where
  | heartbeat (port : Nat)
  | tpdo1
  | level
  | tpdo2
  | block
  | period
  | counts
  | announce (port : Nat)
  | sync (port : Nat)
  | delay (port : Nat)
  | heard (port : Nat)
  | feed (ant : Nat)
  | coreTest
  | wear
  | temperature
  | epoch
  | msm
deriving DecidableEq, Repr

/-- The place of a recurring happening in `Dev.marks`. -/
def Recur.key : Recur → Nat
  | .heartbeat p => p
  | .tpdo1 => 2
  | .level => 3
  | .tpdo2 => 4
  | .block => 5
  | .period => 6
  | .counts => 7
  | .announce p => 8 + p
  | .sync p => 10 + p
  | .delay p => 12 + p
  | .heard p => 14 + p
  | .feed a => 16 + a
  | .coreTest => 18
  | .wear => 19
  | .temperature => 20
  | .epoch => 21
  | .msm => 22

/-- The device: everything but the fuses and the command queue. -/
structure Dev where
  /-- Live dictionary values that differ from what was last default (R28); status registers among them. -/
  od     : Tab DVal
  /-- Generation counts of R59. -/
  gen    : Tab Nat
  /-- The settings store in flash (R49). -/
  nv     : Tab DVal
  /-- Values of the last commits that wait for the settings store write (R49). -/
  nvDue  : Tab DVal
  /-- What has left the device, newest first: the model's own record. -/
  out    : List Sent
  /-- Number of free values used: the model's own field (log 5). -/
  frees  : Nat
  ev     : Events
  cs     : ChangeSet
  led    : Ledger
  can0   : CanPort
  can1   : CanPort
  clk    : Clk
  servo  : Servo
  cart   : Cart
  ptp0   : PtpPort
  ptp1   : PtpPort
  pps0   : Pps
  pps1   : Pps
  /-- Comparators armed late (R120), one bit each. -/
  cmpLate : Nat
  pwr    : Power
  mor    : Moraine
  res    : Reserve
  wo     : Whiteout
  axes   : Tab Axis
  rounds : Rounds
  resv   : Engine
  cars   : Tab Vehicle
  tasks  : Tab Task
  tele   : Telegrams
  rx     : Receiver
  slots  : Tab Slot
  eng_   : PosEng
  sched  : Sched
  cap    : Capture
  sw     : Switch
  pair   : Pair
  upd    : Update
  wit    : Witness
  /-- The model time of each recurring happening, and the number of the last instant of those that fleet time sets, by the key of its `Recur`. -/
  marks  : Tab Nat
deriving DecidableEq, Repr

/-- A CAN FD port in initialisation, with the defaults of R75 for its node ID and bit rates. -/
def canPort0 (node : Nat) : CanPort := { nmt := .initialisation, node := node, nom := 500, dataR := 2000 }

/-- A PTP port that has heard nothing. -/
def ptpPort0 : PtpPort :=
  { syncSeq := 0, syncT2 := 0, syncCorr := 0, syncOpen := false, syncLog := 0, syncAt := 0, txSync := 0, txAnn := 0
    txDelay := 0, t3 := 0, delayOpen := false, pt1 := 0, pt2 := 0, pt4 := 0, pOpen := false, linkDelay := 0, best := none }

/-- A PPS output that has given no pulse. -/
def pps0_ : Pps := { lastEdge := none, nextSec := none, qerr := 0, stepped := false, stepNote := none }

/-- A pair lane that has carried nothing. -/
def lane0 : Lane := { txSeq := 0, rxRun := 0, lastAt := none }

/-- The image that the device came with (log 19): signed with key slot 0, of PAIR_LEVEL 1 (R527), counter 0. -/
def bank0 : Bank :=
  { img := [], len := 0, ver := Config.imageVersion, sec := 0, key := 0, level := 1, schema := Config.imageSchema, good := true }

/-- Firmware as the device came: bank A confirmed, bank B empty (log 19). -/
def update0 : Update :=
  { bankA := some bank0, bankB := none
    desc0 := some { seq := 1, active := 0, trial := false, starts := 0, verA := Config.imageVersion, verB := 0 }, desc1 := none
    source := none, resume := 0, sigId := zeros 16, fallback := 0, fellBack := false, old := none, migrated := false
    trialAt := 0, waiting := false, recovery := false, dfuState := 2, dfuError := 0, dfuImg := [], dfuBank := 1 }

/-- The device right after the sentry island has left power-on reset (R452, R457, R471): backup and sentry islands in state
3, islands 3 to 10 off, a Thaw in progress, VMAIN_EN driven high. Its dictionary holds the defaults but for what stands in
`od`: the islands and power state, both PTP ports FAULTY (R84) and the role of a unit strapped as single (log 6). -/
def dev0 : Dev :=
  { od := [(0x202001, .num 3), (0x202002, .num 3), (0x205002, .num 3), (0x222202, .num 2), (0x222203, .num 2), (0x440201, .num 0)]
    gen := [], nv := [], nvDue := [], out := [], frees := 0
    ev := { counts := [], subs := [], emcyWait := [], inhibit := false, inhibitAt := 0, dropped := [], dropAt := none }
    cs := { staged := [], owner := none, lastReq := 0, req := none, instant := none }
    led := { cache := [], parts := [], waiting := [], port := 30511, enable := 0xFF, change := [], seen := [] }
    can0 := canPort0 0x20, can1 := canPort0 0x21
    clk := { now := 0, tick := 0, base := 0, off := 0, rate := 0, reloads := 0, engOff := 0, engBase := 0, engAt := 0 }
    servo := servo0
    cart := { present := false, clockOk := false, goodAt := none, inserted := false, counted := false, idValid := false, efcGain := 190000
              warming := false, warmup := 0, heldTo := 0, lifeAt := 0, image := [], lifeSeq := 0, opMinutes := 0, lifeSlot := 1 }
    ptp0 := ptpPort0, ptp1 := ptpPort0, pps0 := pps0_, pps1 := pps0_, cmpLate := 0
    pwr := { vmainEn := true, vmainPg := false, vaonOk := true, aonEn := true, thawing := true, kind := 1, detail := 0
             thawAt := 0, thawEnd := 0, passed := [], failedOnce := [], failed := [], thawFails := 0, hibernating := false
             glacier := false, recNow := none, recDue := [], recTimes := [], orderly := false, vmainAt := 0, failAt := 0, octal := false
             saved := [], overBound := false, overAt := none, underAt := none, estAt := 0, overRem := 0, warm := false, hot := false, due := none, notReady := [] }
    mor := { offers := [], ring := [], flash := [], next := 1, ceiling := 1, copied := 0, blocks := 32, readFrom := 0
             lostAt := none, lostNow := 0, lostSeq := 0 }
    res := { rowErrs := [], rowsUsed := [], regErrs := [], regions := [], blocks := [], bare := [], tempRuns := [] }
    wo := { flood := none, clearing := none, expiry := false, wdRun := false, maskA := 0, maskB := 0, before := 0
            highAt := 0, tests0 := 0, tests1 := 0, good0 := 0, good1 := 0, refAt := none, portsOut := 0, slotsOut := []
            reported := 0, trip0 := 1, trip1 := 1 }
    axes := []
    rounds := { due := false, running := false, startAt := 0, free := [], times := [], bound := none }
    resv := { holds := [], pieces := [], history := [], sched := 0, full := false, refusedAt := [] }
    cars := [], tasks := []
    tele := { term := 0, bad := [], badAt := none, unknownAt := none, newTerm := false, stale := false }
    rx := receiver0
    slots := []
    eng_ := { lanes := [], groupsOut := [], busy := [], wait := [], bases := [], baseNum := 0, baseAt := none, runAt := none
              tokens := 0, tokenAt := 0, shedNow := [], shedAt := none, fixTimes := [], gnssC := 0, oldGrid := none }
    sched := { queues := [], firnHigh := false, jobs := [], cores := [], timers := [], waitAt := none, timerAt := none, actLate := [] }
    cap := capture0
    sw := { ports := [], pipeA := pipe0, pipeB := pipe0, sess := { ways := [], order := [] }, routes4 := [], routes6 := []
            kept := [], faulty := [], rowFaults := [], badNodes := [], eccAt := none, given := 0, undo := none, busyTill := 0 }
    pair := { lane0 := lane0, lane1 := lane0, paired := false, isolated := false, solo := false, isoAt := 0, gen := 0
              sent := [], busyTill := 0, slotA := none, slotB := none, own := none, notice := none, cairnTerm := 0, cairnAt := 0, unacked := none
              parts := none, waking := 0, switch_ := 0, drill := false, inherited := [], firstPerm := none, electAt := 0, lostAt := 0, wokenAt := 0, beatAt := none, drillAt := 0, setAt := 0, tookAt := none, moving := none }
    upd := update0
    wit := { window := none, late := 0, fileLost := false, sealOff := false }
    marks := []
  }

/-- The one-time fuses (R511, R523): the anti-rollback counter, the public keys of slots 1 to 3 (none while empty), and the
revoked slots, one bit each. A blown fuse stays blown. -/
structure Fuses where
  counter : Nat
  key1    : Option (List Byte)
  key2    : Option (List Byte)
  key3    : Option (List Byte)
  revoked : Nat
deriving DecidableEq, Repr

/-- Fuses as the device came: no key of the integrator, none revoked, counter 0 (log 19). -/
def fuses0 : Fuses := { counter := 0, key1 := none, key2 := none, key3 := none, revoked := 0 }

/-- The machine: the device, its fuses and the commands waiting, first in first out. -/
structure State where
  dev     : Dev
  fuses   : Fuses
  pending : List Instr
deriving DecidableEq, Repr


/-- The machine right after reset: a device that has just left power-on reset, with no fuse blown and no command waiting. -/
def State.reset : State := { dev := dev0, fuses := fuses0, pending := [] }

end Sys2Proof.Machine
end

