-- ==== Sys2Proof/Machine/Tabs.lean ====
section
/-!
DEFINITION. Sparse tables: look up, put and remove. A table keeps its keys strictly rising, so equal tables are equal data.
-/
namespace Sys2Proof.Machine

/-- The value stored under a number. -/
def tabGet {α : Type} : Tab α → Nat → Option α
  | [], _ => none
  | (k, v) :: m, i => if k = i then some v else tabGet m i

/-- Store a value under a number, in place. -/
def tabPut {α : Type} : Tab α → Nat → α → Tab α
  | [], i, x => [(i, x)]
  | (k, v) :: m, i, x =>
    if k = i then (i, x) :: m
    else if i < k then (i, x) :: (k, v) :: m
    else (k, v) :: tabPut m i x

/-- Remove what is stored under a number. -/
def tabDel {α : Type} (m : Tab α) (i : Nat) : Tab α := m.filter (fun p => p.1 != i)

/-- The value stored under a number, or `x`. -/
def tabGetD {α : Type} (m : Tab α) (i : Nat) (x : α) : α := (tabGet m i).getD x

/-- Change the value stored under a number, starting from `x` where there is none. -/
def tabMod {α : Type} (m : Tab α) (i : Nat) (x : α) (f : α → α) : Tab α := tabPut m i (f (tabGetD m i x))

/-- Keys strictly rising, each above `lo` where `lo` is given. -/
def tabOk {α : Type} : Option Nat → Tab α → Bool
  | _, [] => true
  | none, (k, _) :: m => tabOk (some k) m
  | some b, (k, _) :: m => decide (b < k) && tabOk (some k) m

/-- The lowest number below `n` that is not a key. -/
def tabFree {α : Type} (m : Tab α) (n : Nat) : Option Nat :=
  (List.range n).find? (fun i => (tabGet m i).isNone)

end Sys2Proof.Machine
end

