-- ==== Sys2Proof/Machine/Regs.lean ====
section
/-!
DEFINITION. Access to the live values of the object dictionary, by key, and the record of what leaves the device.
-/
namespace Sys2Proof.Machine

/-- The number in a value (0 for bytes). -/
def DVal.int : DVal → Int
  | .num v => v
  | .oct _ => 0

/-- The bytes in a value (none for a number). -/
def DVal.bytes : DVal → List Byte
  | .num _ => []
  | .oct b => b

/-- The live value of an entry: what stands in the table, else its default (R28). -/
def Dev.get (d : Dev) (k : Key) : DVal := (tabGet d.od k).getD (dictDefault k)

/-- The live value of a numeric entry. -/
def Dev.num (d : Dev) (k : Key) : Int := (d.get k).int

/-- The live value of an unsigned entry. -/
def Dev.nat (d : Dev) (k : Key) : Nat := (d.num k).toNat

/-- The live value of an entry of bytes. -/
def Dev.oct (d : Dev) (k : Key) : List Byte := (d.get k).bytes

/-- True where a BOOLEAN entry, or any entry, is not 0. -/
def Dev.flag (d : Dev) (k : Key) : Bool := decide (d.num k ≠ 0)

/-- Bit `b` of an entry. -/
def Dev.bit (d : Dev) (k : Key) (b : Nat) : Bool := (d.nat k).testBit b

/-- Change a live value. The generation of R59 advances, in 16 bits, where the value changes. -/
def Dev.put (d : Dev) (k : Key) (v : DVal) : Dev :=
  { d with
    od := tabPut d.od k v
    gen := if d.get k = v then d.gen else tabMod d.gen k 0 (fun n => (n + 1) % 65536) }

/-- Change a numeric entry. -/
def Dev.setN (d : Dev) (k : Key) (v : Int) : Dev := d.put k (.num v)

/-- Change an entry of bytes. -/
def Dev.setO (d : Dev) (k : Key) (b : List Byte) : Dev := d.put k (.oct b)

/-- Change a truth value. -/
def Dev.setB (d : Dev) (k : Key) (b : Bool) : Dev := d.setN k (if b then 1 else 0)

/-- Add to a count that saturates at `top`. -/
def Dev.addSat (d : Dev) (k : Key) (n top : Nat) : Dev := d.setN k (min (d.nat k + n) top : Nat)

/-- Advance an UNSIGNED32 count that saturates. -/
def Dev.inc32 (d : Dev) (k : Key) : Dev := d.addSat k 1 0xFFFFFFFF

/-- Advance an UNSIGNED16 count that saturates. -/
def Dev.inc16 (d : Dev) (k : Key) : Dev := d.addSat k 1 0xFFFF

/-- Set or clear one bit of an entry. -/
def Dev.setBit (d : Dev) (k : Key) (b : Nat) (on : Bool) : Dev :=
  let v := d.nat k
  d.setN k ((if on then v ||| 2 ^ b else v ^^^ (v &&& 2 ^ b) : Nat) : Int)

/-- Record what leaves the device. -/
def Dev.emit (d : Dev) (k : SentKind) (whom : List Nat) (flds : List Int) : Dev :=
  { d with out := { kind := k, whom := whom, flds := flds } :: d.out }

/-- Take the next free value (log 5). -/
def Dev.freeN (d : Dev) : Nat := Config.freeNat d.frees
/-- Take the next free integer (log 5). -/
def Dev.freeI (d : Dev) : Int := Config.freeInt d.frees
/-- Take the next free truth value (log 5). -/
def Dev.freeB (d : Dev) : Bool := Config.freeBool d.frees
/-- One free value has been used. -/
def Dev.used (d : Dev) : Dev := { d with frees := d.frees + 1 }

/-- The state of an island (R12): 0 off, 1 retained, 2 starting, 3 running, 4 recovering. -/
def Dev.island (d : Dev) (n : Nat) : Nat := d.nat (0x202000 + n)

/-- True where an island is in state 3. -/
def Dev.up (d : Dev) (n : Nat) : Bool := decide (d.island n = 3)

/-- The CAN FD port with a number. -/
def Dev.can (d : Dev) (p : Fin 2) : CanPort := if p = 0 then d.can0 else d.can1

/-- Change a CAN FD port. -/
def Dev.setCan (d : Dev) (p : Fin 2) (c : CanPort) : Dev := if p = 0 then { d with can0 := c } else { d with can1 := c }

/-- The PTP port with a number. -/
def Dev.ptp (d : Dev) (p : Fin 2) : PtpPort := if p = 0 then d.ptp0 else d.ptp1

/-- Change a PTP port. -/
def Dev.setPtp (d : Dev) (p : Fin 2) (c : PtpPort) : Dev := if p = 0 then { d with ptp0 := c } else { d with ptp1 := c }

/-- The PPS output with a number. -/
def Dev.pps (d : Dev) (p : Fin 2) : Pps := if p = 0 then d.pps0 else d.pps1

/-- Change a PPS output. -/
def Dev.setPps (d : Dev) (p : Fin 2) (c : Pps) : Dev := if p = 0 then { d with pps0 := c } else { d with pps1 := c }

end Sys2Proof.Machine
end

