-- ==== Sys2Proof/Machine/Flags.lean ====
section
/-!
DEFINITION. Flag computations: pending bits and masks of the event sources (R65, R66), the IRQ pins (R67) and the error
register 1001:00 (R73).
-/
namespace Sys2Proof.Machine

/-- The word of a routing entry that holds an event source (R66). -/
def evKey (idx src : Nat) : Key := idx * 256 + (src / 32 + 1)

/-- The bit of an event source in a routing entry (R66). -/
def Dev.evBit (d : Dev) (idx src : Nat) : Bool := d.bit (evKey idx src) (src % 32)

/-- True while a source is pending (R65). -/
def Dev.pendingEv (d : Dev) (src : Nat) : Bool := d.evBit 0x4815 src

/-- True where an emergency message is asked for a source (R72). -/
def Dev.emcyEv (d : Dev) (src : Nat) : Bool := d.evBit 0x4814 src

/-- True while some source from `lo` to `hi` is pending and set in 4814 (R73). -/
def Dev.anyEmcy (d : Dev) (lo hi : Nat) : Bool :=
  ((List.range (hi + 1 - lo)).map (fun i => i + lo)).any (fun i => d.pendingEv i && d.emcyEv i)

/-- The error register 1001:00 (R73). Bits 1, 2 and 6 are always 0. -/
def Dev.errorRegister (d : Dev) : Nat :=
  (if d.anyEmcy 320 351 then 0x80 else 0) + (if d.anyEmcy 96 319 || d.anyEmcy 352 383 then 0x20 else 0)
    + (if d.anyEmcy 384 479 then 0x10 else 0) + (if d.anyEmcy 0 7 then 0x08 else 0) + (if d.anyEmcy 0 511 then 1 else 0)

/-- R67: an IRQ pin is asserted while any source in its mask is pending. -/
def Dev.irqAsserted (d : Dev) (pin : Fin 4) : Bool :=
  (List.range 16).any (fun i => (d.nat (0x481501 + i) &&& d.nat (0x481001 + pin.val * 256 + i)) != 0)

/-- The level of an IRQ pin under its mode 4816 (R66, R67): none where the open-drain output is released. -/
def Dev.irqLevel (d : Dev) (pin : Fin 4) : Option Bool :=
  match d.nat (0x481601 + pin.val), d.irqAsserted pin with
  | 0, true => some false
  | 0, false => none
  | 1, a => some (!a)
  | _, a => some a

end Sys2Proof.Machine
end

