-- ==== Sys2Proof/Machine/Ops.lean ====
section
/-!
DEFINITION. The operations every family shares: time passing and fleet time (R76 to R81), raising an event source
(R65 to R73), offering a Moraine entry (R533 to R537), and the outcome of a command.
-/
namespace Sys2Proof.Machine

/-- 2^-16 ns in one second. -/
def secU : Int := 65536000000000

/-- Ticks of 0.8 ns in one second. -/
def secT : Nat := 1250000000

/-- Ticks in one millisecond. -/
def msT : Nat := 1250000

/-- Ticks in one microsecond. -/
def usT : Nat := 1250

/-- A number of milliseconds in ticks. -/
def msTicks (n : Nat) : Nat := n * msT

/-- π to 20 decimals: R90, R139 and R140 name the number and state no precision of its arithmetic (log 65). -/
def circle : Rat := 314159265358979323846 / 100000000000000000000

/-- Fleet time by the reading equation of R77, in 2^-16 ns, for a tick value. -/
def Clk.at (c : Clk) (t : Nat) : Int := c.off + ((t : Int) - c.base) * (281474976710656 + c.rate) / 5368709120

/-- Time state of R82. -/
def Dev.timeState (d : Dev) : Nat := d.nat 0x220001

/-- Fleet time now, in 2^-16 ns: zero in state 0 (R82). Islands 4 to 10 read a replica of the tick and add 10.0 ns (R81); what is left is the
residual of R18, anywhere within 4 ns, which the model takes as 0 (DESIGN CHOICE, log 66). -/
def Dev.fleet (d : Dev) : Int := if d.timeState = 0 then 0 else d.clk.at d.clk.tick

/-- Fleet time now, in whole ns. -/
def Dev.fleetNs (d : Dev) : Nat := (d.fleet / 65536).toNat

/-- R50, R82: fleet time is unavailable in states 0 and 1. -/
def Dev.noTime (d : Dev) : Bool := decide (d.timeState ≤ 1)

/-- The count of the 25 MHz crystal, as nominal ns. -/
def Dev.xtalNs (d : Dev) : Nat := d.clk.now * 4 / 5

/-- The holdover estimate E(t) of R98 in ns: what stood at entry, the frequency uncertainty over the time, and the aging. -/
def Dev.holdErr (d : Dev) : Nat :=
  let t : Rat := ((d.clk.now - d.servo.holdAt : Nat) : Rat) * 8 / 10000000000
  let perDay : Int := if d.cart.idValid then d.num 0x226005 else 200
  let e : Rat := d.servo.err0 + d.servo.y0 * 1000000000 * t + (perDay : Rat) / 10000 / 86400 * t * t / 2
  min e.floor.toNat 0xFFFFFFFF

/-- The estimated error 2200:05 as it stands now: in states 4 and 5 it grows (R86, R98). -/
def Dev.estError (d : Dev) : Nat := if d.timeState = 4 ∨ d.timeState = 5 then d.holdErr else d.nat 0x220005

/-- The engine scale (R85, R242), in 2^-16 ns: fleet time less the steps, run on from the crystal in state 0. -/
def Dev.eng (d : Dev) : Int :=
  if d.timeState = 0 then d.clk.engBase + ((d.clk.now : Int) - d.clk.engAt) * 262144 / 5 else d.fleet + d.clk.engOff

/-- The engine scale in whole ns. -/
def Dev.engNs (d : Dev) : Int := d.eng / 65536

/-- Time passes: `dt` ticks of 0.8 ns. The tick counter runs while the timebase island is in state 3 (R76). -/
def Dev.pass (d : Dev) (dt : Nat) : Dev :=
  { d with clk := { d.clk with
      now := d.clk.now + dt
      tick := if d.up 3 then (d.clk.tick + dt) % 2 ^ 64 else d.clk.tick } }

/-- The last instant of a recurring happening. -/
def Dev.lastOf (d : Dev) (r : Recur) : Option Nat := tabGet d.marks r.key

/-- A recurring happening takes place: its instant is kept. -/
def Dev.mark (d : Dev) (r : Recur) (v : Nat) : Dev := { d with marks := tabPut d.marks r.key v }

/-- True where a recurring happening is due: a time has passed since its last instant, or it has none. -/
def Dev.dueIn (d : Dev) (r : Recur) (ticks : Nat) : Bool := match d.lastOf r with
  | none => true
  | some t => decide (t + ticks ≤ d.clk.now)

/-- R79: reload the equation terms at the present tick, so that fleet time stays continuous. -/
def Dev.reload (d : Dev) (r : Int) : Dev :=
  { d with clk := { d.clk with
      base := d.clk.tick, off := d.clk.at d.clk.tick, rate := r, reloads := (d.clk.reloads + 1) % 2 ^ 32 } }

/-- A CAN FD port whose NMT state lets emergency messages leave (R72). -/
def emcyPort (c : CanPort) : Bool := c.nmt == .preOperational || c.nmt == .operational

/-- Send one emergency message on each CAN FD port in pre-operational or operational (R72). The error register is that of the moment of
sending, while source, DETAIL and seconds are those of the raise: R72 does not say at which instant each is taken (log 62). -/
def Dev.sendEmcy (d : Dev) (src detail secs : Nat) : Dev :=
  let go (p : Nat) (c : CanPort) (d : Dev) : Dev :=
    if emcyPort c then
      d.emit .emcy [p, c.node] [0xFF00, d.errorRegister, src, detail, secs]
    else d
  go 1 d.can1 (go 0 d.can0 d)

/-- The emergency route of a raised source (R72): sent at once, held while the inhibit time runs (at most 32), or counted
in 4818:00 as dropped. The inhibit time runs from a message that left: with no port in a state that sends, none leaves and none is held. -/
def Dev.routeEmcy (d : Dev) (src detail : Nat) : Dev :=
  let secs := d.fleetNs / 1000000000 % 65536
  if d.emcyEv src then
    if d.ev.inhibit then
      if d.ev.emcyWait.length < 32 then
        { d with ev := { d.ev with emcyWait := d.ev.emcyWait ++ [(src, detail, secs)] } }
      else d.inc32 0x481800
    else
      let d := d.sendEmcy src detail secs
      { d with ev := { d.ev with inhibit := decide (d.nat 0x101500 ≠ 0) && (emcyPort d.can0 || emcyPort d.can1), inhibitAt := d.clk.now } }
  else d

/-- Add an occurrence to the records that wait for a subscriber: occurrences not yet sent are coalesced, and the record
keeps the TIME and DETAIL of the first (R69). -/
def addRec (rs : List EvRec) (src time detail : Nat) : List EvRec :=
  if rs.any (fun r => r.src == src) then
    rs.map (fun r => if r.src = src then { r with count := min (r.count + 1) 0xFFFFFFFF } else r)
  else rs ++ [{ src := src, time := time, count := 1, detail := detail }]

/-- Raise an event source (R65): its pending bit is set, its count advances, and it goes to the subscribers that hold it
(R69) and to the emergency route (R72). The IRQ pins follow from the pending bits (R67). -/
def Dev.raise (d : Dev) (src : Nat) (detail : Nat := 0) : Dev :=
  let d := d.setBit (evKey 0x4815 src) (src % 32) true
  let d := { d with ev := { d.ev with
      counts := tabMod d.ev.counts src 0 (· + 1)
      subs := d.ev.subs.map (fun (p : Nat × Subscriber) =>
        if p.2.mask.testBit src then
          let full := p.2.recs.any (fun r => r.src == src && r.count == 0xFFFFFFFF)
          (p.1, { p.2 with recs := addRec p.2.recs src d.fleetNs (detail % 65536), lost := min (p.2.lost + (if full then 1 else 0)) 0xFFFFFFFF })
        else p) } }
  d.routeEmcy src (detail % 65536)

/-- Raise a source where a condition holds. -/
def Dev.raiseIf (d : Dev) (c : Bool) (src : Nat) (detail : Nat := 0) : Dev := if c then d.raise src detail else d

/-- A transfer into an island that is not in state 3 completes with a not-ready reply, which raises event source 10 once until
the island has returned (R17). -/
def Dev.notReady (d : Dev) (island : Nat) : Dev :=
  if d.pwr.notReady.contains island then d
  else ({ d with pwr := { d.pwr with notReady := island :: d.pwr.notReady } }).raise 10 0

/-- True where something that happens at most once a second is due. -/
def Dev.dueSec (d : Dev) (last : Option Nat) : Bool :=
  match last with
  | none => true
  | some t => decide (t + secT ≤ d.clk.now)

/-- Offer a Moraine entry to the sentry's inbox (R533, R537). -/
def Dev.offer (d : Dev) (code sev island detail data0 data1 : Nat) : Dev :=
  { d with mor := { d.mor with offers := d.mor.offers ++
      [{ time := d.fleetNs, code := code, sev := sev, island := island, detail := detail
         step := d.nat 0x220006 % 256, data0 := data0, data1 := data1 }] } }

/-- Raise a source and write the Moraine entry that accompanies it: SEVERITY 3 for sources 320 to 351, else 2 (R534). -/
def Dev.raiseM (d : Dev) (src detail island : Nat) (data0 : Nat := 0) : Dev :=
  (d.raise src detail).offer src (if 320 ≤ src ∧ src ≤ 351 then 3 else 2) island (detail % 65536) data0 0

/-- The outcome of a command. -/
abbrev Out := Host.Outcome State Fault Refusal

/-- The outcome of a command: time passes, then the effect on the device; fuses and queue stay as they are. -/
def onDev (s : State) (dt : Nat) (f : Dev → Dev) : Out :=
  .next { s with dev := f (s.dev.pass dt) }

/-- A command whose effect comes about only under a condition: else the event it names does not come about, and only
time passes (log 3). -/
def Dev.when (d : Dev) (c : Bool) (f : Dev → Dev) : Dev := if c then f d else d

end Sys2Proof.Machine
end

