-- ==== Sys2Proof/Machine/Wire.lean ====
section
/-!
DEFINITION. The bytes of the device's own protocols (R7): the frames of Ledger (R54 to R62, R70), Jenyn (R528, R529), fleet telegrams (R326 to
R346), the pair link (R477 to R479), the CAN FD messages whose content the spec gives (R72, R74, R75) and PPS messages (R108), as they
leave; and the frames of vehicles, peers and requesters as they are read. `Sent.flds` holds the fields of each in the order of its layout.
-/
namespace Sys2Proof.Machine

/-- A pair-link frame that has been read (R477). `ok` says that MAGIC, VERSION, length, CRC and reserved fields are as they must be. -/
structure PairHdr where
  ok   : Bool
  typ  : Nat
  unit : Nat
  lane : Fin 2
  seq  : Nat
  term : Nat
  payload : List Byte
deriving DecidableEq, Repr

/-- Payload of a heartbeat (R479). -/
structure Heartbeat where
  role      : Nat
  condition : Nat
  lanesSeen : Nat
  drill     : Nat
  stopSeq   : Nat
  setGen    : Nat
  cairnGen  : Nat
  cairnTerm : Nat
  fleetMs   : Nat
deriving DecidableEq, Repr

/-- The header of a received fleet telegram (R326) that has been read, and where it came from. `magicOk` covers MAGIC and CRC, `lengthOk` LENGTH
against the UDP payload, `rsvOk` the reserved fields, `sizeOk` the length that R327 gives for the TYPE. -/
structure Tele where
  magicOk : Bool
  lengthOk : Bool
  version : Nat
  rsvOk   : Bool
  fromVehicle : Bool
  typ     : Nat
  sizeOk  : Bool
  newStream : Bool
  slot    : Nat
  vehicle : Nat
  term    : Nat
  seq     : Nat
  addr    : Nat
  port    : Nat
deriving DecidableEq, Repr

/-- Body of an acknowledgement (R344). -/
structure Ack where
  missing  : Nat
  level    : Nat
  state    : Nat
  stopSeq  : Nat
  blockSeq : Nat
  grant    : Nat
  permSeq  : Nat
deriving DecidableEq, Repr

/-- Body of a task status telegram from a vehicle (R346). -/
structure TaskReport where
  node  : Nat
  grant : Nat
  event : Nat
  state : Nat
  task  : Nat
  id    : Nat
deriving DecidableEq, Repr

/-- One RTCM 3 message of an observation carrier that has been read (R186, R189, R333): number, whether its length and CRC-24Q hold, the epoch time
of week of its system in ms, the multiple message bit, and its cells. -/
structure Msm where
  num   : Nat
  ok    : Bool
  tow   : Nat
  more  : Bool
  cells : List VCell
deriving DecidableEq, Repr

/-- Fields of the given widths in bytes, least significant byte first, two's complement where negative (R7). -/
def packed : List Nat → List Int → List Byte
  | w :: ws, v :: vs => leBytes w (ofSigned (8 * w) v) ++ packed ws vs
  | _, _ => []

/-- Fields that are one byte each. -/
def rawBytes (l : List Int) : List Byte := l.map (fun v => BitVec.ofInt 8 v)

/-- Bytes as the fields of a frame. -/
def asFields (b : List Byte) : List Int := b.map (fun (x : Byte) => (x.toNat : Int))

/-- The field at a place, 0 beyond the last. -/
def fieldAt (l : List Int) (i : Nat) : Int := l.getD i 0

/-- A TIME80 field of an instant in ns (R29). -/
def timeField (l : List Int) (i : Nat) : List Byte := time80Bytes (fieldAt l i).toNat

/-- Bytes with the CRC-32C of R55 over all of them behind. -/
def sealed (b : List Byte) : List Byte := b ++ leBytes 4 (crc32c b)

/-- The bytes before the last four, where the last four are their CRC-32C (R55). -/
def unsealed (b : List Byte) : Option (List Byte) :=
  let n := b.length - 4
  if 4 ≤ b.length ∧ fieldN b n 4 = crc32c (b.take n) then some (b.take n) else none

/-! Ledger and Jenyn. -/

/-- The 16 bytes of a Ledger header (R54). `flags` is bits [39:32] and `rest` its bytes 5, 14 and 15. -/
def ledgerHeader (magic version op flags b5 len reqId status rest : Nat) : List Byte :=
  leBytes 2 magic ++ leBytes 1 version ++ leBytes 1 op ++ leBytes 1 flags ++ leBytes 1 b5 ++ leBytes 2 len ++ leBytes 4 reqId
    ++ leBytes 2 status ++ leBytes 2 rest

/-- The 16 bytes of a Jenyn header (R528). `flags` is bits [47:32]. -/
def jenynHeader (magic version op flags status reqId len : Nat) : List Byte :=
  leBytes 2 magic ++ leBytes 1 version ++ leBytes 1 op ++ leBytes 2 flags ++ leBytes 2 status ++ leBytes 4 reqId ++ leBytes 4 len

/-- The header of a request with a payload of `n` bytes. -/
def reqHeader (q : Req) (op n : Nat) : List Byte :=
  let len := ((n : Int) + q.lenOff).toNat
  let resp := if q.resp then 1 else 0
  if q.peer.kind = 4 then jenynHeader q.magic q.version op (resp + 2 * q.rsv) q.status q.reqId len
  else
    ledgerHeader q.magic q.version op (resp + (if q.more then 2 else 0) + 4 * (q.rsv % 64)) (q.rsv / 64) len q.reqId q.status (q.rsv / 2 ^ 14)

/-- The CRC field of a request holds the CRC-32C of all bytes before it (R55). A USDO request has none. -/
def reqCrcOk (q : Req) (op : Nat) (p : List Byte) : Bool :=
  match q.crc with
  | none => true
  | some c => decide (c = crc32c (reqHeader q op p.length ++ p))

/-- Read a Ledger datagram (R53 to R55): the header fields, the OP and the payload. One with fewer bytes than a header and a CRC is `short`. -/
def ledgerReq (peer : Peer) (arrPort dstUdp : Nat) (b : List Byte) : Req × Nat × List Byte :=
  let q : Req := { peer := peer, arrPort := arrPort, dstUdp := dstUdp }
  if b.length < 20 then ({ q with short := true }, 0, [])
  else
    let n := b.length - 20
    let f := fieldN b 4 1
    ({ q with reqId := fieldN b 8 4, magic := fieldN b 0 2, crc := some (fieldN b (b.length - 4) 4), lenOff := (fieldN b 6 2 : Int) - n
              status := fieldN b 12 2, more := f.testBit 1, version := fieldN b 2 1, resp := f.testBit 0
              rsv := f / 4 + 64 * fieldN b 5 1 + 2 ^ 14 * fieldN b 14 2 }, fieldN b 3 1, (b.drop 16).take n)

/-- Read a Jenyn message (R528). -/
def jenynReq (b : List Byte) : Req × Nat × List Byte :=
  let q : Req := { peer := { kind := 4 } }
  if b.length < 20 then ({ q with short := true }, 0, [])
  else
    let n := b.length - 20
    let f := fieldN b 4 2
    ({ q with reqId := fieldN b 8 4, magic := fieldN b 0 2, crc := some (fieldN b (b.length - 4) 4), lenOff := (fieldN b 12 4 : Int) - n
              status := fieldN b 6 2, version := fieldN b 2 1, resp := f.testBit 0, rsv := f / 2 }, fieldN b 3 1, (b.drop 16).take n)

/-- The payload of a response (R58): of READ, WRITE and STAGE, COMMIT, SUBSCRIBE and TABLE; the other OPs have none. A response without fields
has no payload. -/
def replyPayload (op : Nat) (l : List Int) : List Byte :=
  if l = [] then []
  else match op with
    | 1 => packed [2, 1, 1, 4, 4, 2, 2] (l.take 6 ++ [0]) ++ rawBytes (l.drop 6)
    | 2 => packed [2, 1, 1, 4] (l.take 2 ++ 0 :: l.drop 2)
    | 3 => packed [2, 1, 1, 4] (l.take 2 ++ 0 :: l.drop 2)
    | 4 => packed [2, 2, 4] [fieldAt l 0, 0, fieldAt l 1] ++ timeField l 2 ++ zeros 2
    | 6 => packed [1, 3, 4] [fieldAt l 0, 0, fieldAt l 1]
    | 7 => packed [1, 1, 2] (l.take 3) ++ rawBytes (l.drop 3)
    | _ => []

/-- A Ledger response (R54, R58): fields are REQ_ID, OP, STATUS and those of the payload. -/
def ledgerReplyBytes (l : List Int) : List Byte :=
  let op := (fieldAt l 1).toNat
  let p := replyPayload op (l.drop 3)
  sealed (ledgerHeader 0x444C 1 op 1 0 p.length (fieldAt l 0).toNat (fieldAt l 2).toNat 0 ++ p)

/-- The payload of a Jenyn response (R529). -/
def jenynPayload (op : Nat) (l : List Int) : List Byte :=
  if l = [] then []
  else match op with
    | 1 => packed [4, 4, 4, 4, 4, 1, 1, 2] (l ++ [0])
    | 2 => replyPayload 1 l
    | 3 => packed [4] l
    | _ => []

/-- A Jenyn response (R528). -/
def jenynReplyBytes (l : List Int) : List Byte :=
  let op := (fieldAt l 1).toNat
  let p := jenynPayload op (l.drop 3)
  sealed (jenynHeader 0x4E4A 1 op 1 (fieldAt l 2).toNat (fieldAt l 0).toNat p.length ++ p)

/-- The records of a NOTIFY (R70) from their fields SOURCE, COALESCED, COUNT, TIME and DETAIL. `n` bounds their number. -/
def notifyRecords : Nat → List Int → List Byte
  | 0, _ => []
  | n + 1, l =>
    if l = [] then []
    else packed [2, 1, 1, 4] [fieldAt l 0, 0, fieldAt l 1, fieldAt l 2] ++ timeField l 3 ++ packed [2] [fieldAt l 4] ++ notifyRecords n (l.drop 5)

/-- A NOTIFY (R54, R70): fields are the sequence number, MORE, the record count, the records lost, and the records. -/
def notifyBytes (l : List Int) : List Byte :=
  let p := packed [2, 2, 4] [fieldAt l 2, 0, fieldAt l 3] ++ notifyRecords 71 (l.drop 4)
  sealed (ledgerHeader 0x444C 1 8 (1 + 2 * (fieldAt l 1).toNat) 0 p.length (fieldAt l 0).toNat 0 0 ++ p)

/-! Fleet telegrams. -/

/-- A telegram (R326): header, body and CRC. `flags` is bits [39:32]. -/
def telegramBytes (typ flags vehicle term seq slot : Nat) (body : List Byte) : List Byte :=
  sealed (leBytes 2 0x5446 ++ leBytes 1 1 ++ leBytes 1 typ ++ leBytes 1 flags ++ zeros 1 ++ leBytes 2 (28 + body.length) ++ leBytes 4 vehicle
    ++ leBytes 4 term ++ leBytes 4 seq ++ leBytes 1 slot ++ zeros 3 ++ body)

/-- The body of a grant (R336, R337) from its fields GRANT_ID, BASE_GRANT, TASK, PART, PARTS, ARC_COUNT, FIRST_INDEX, START_CHAIN, END_CHAIN,
PARK_NODE, DEPARTURE and the arc entries. -/
def grantBody (l : List Int) : List Byte :=
  packed [4, 4, 2, 1, 1, 2, 2, 4, 4, 2, 2] (l.take 10 ++ [0]) ++ timeField l 10 ++ zeros 2 ++ packed (List.replicate (l.length - 11) 4) (l.drop 11)

/-- Setpoints (R340) from their fields PATH_CHAIN, ARC, REVERSE_GEAR, ARC_CHAIN, SPEED and ACCEL. `n` bounds their number. -/
def setpointBytes : Nat → List Int → List Byte
  | 0, _ => []
  | n + 1, l =>
    if l = [] then []
    else packed [4, 2, 1, 1, 4, 4, 4] (l.take 3 ++ 0 :: (l.drop 3).take 3) ++ setpointBytes n (l.drop 6)

/-- The body of a setpoint block (R339) from T, GRANT_ID, COUNT, PROFILE_STATE and the setpoints. -/
def blockBody (l : List Int) : List Byte := timeField l 0 ++ packed [4, 1, 1] ((l.drop 1).take 3) ++ setpointBytes 10 (l.drop 4)

/-- The body of a permission (R341) from its fields in the order of the layout, lowest first. -/
def permissionBody (l : List Int) : List Byte :=
  timeField l 0 ++ packed [2, 1, 1, 2, 4, 4, 4, 1, 1, 2, 4]
    [fieldAt l 1, fieldAt l 2, fieldAt l 3, fieldAt l 4, fieldAt l 5, fieldAt l 6, fieldAt l 7, fieldAt l 8, fieldAt l 9, 0, fieldAt l 10]

/-- The body of a task status telegram (R346) from TASK_ID, TASK, STATE, EVENT, GRANT_ID and NODE. -/
def taskBody (l : List Int) : List Byte := packed [4, 2, 1, 1, 4, 2, 2] (l.take 6 ++ [0])

/-- The body of a stop telegram (R343) from LEVEL, REPETITION, CAUSES, INSTANT and STEP_COUNT. -/
def stopBody (l : List Int) : List Byte :=
  packed [1, 1, 2, 2, 2] [fieldAt l 0, 0, fieldAt l 1, fieldAt l 2, 0] ++ timeField l 3 ++ packed [2, 4] [0, fieldAt l 4]

/-- A telegram to a vehicle: `whom` holds slot, address, port and vehicle ID; the fields begin with SEQ and TERM. -/
def toVehicle (typ flags : Nat) (whom : List Nat) (l : List Int) (body : List Byte) : List Byte :=
  telegramBytes typ flags (whom.getD 3 0) (fieldAt l 1).toNat (fieldAt l 0).toNat (whom.getD 0 0) body

/-- Read a received telegram (R326, R328): the header, where it came from, and what its checks of MAGIC, CRC, LENGTH and reserved fields find. -/
def teleOf (addr port : Nat) (b : List Byte) : Tele :=
  let n := b.length
  let typ := fieldN b 3 1
  let f := fieldN b 4 1
  let body := (b.drop 24).take (n - 28)
  let head := decide (f < 8) && decide (fieldN b 5 1 = 0) && decide (fieldN b 21 3 = 0)
  let rest := match typ with
    | 1 => decide (fieldN body 2 2 = 0)
    | 7 => decide (fieldN body 18 2 / 16 = 0)
    | 8 => decide (fieldN body 14 2 = 0)
    | _ => true
  { magicOk := decide (28 ≤ n) && decide (fieldN b 0 2 = 0x5446) && (unsealed b).isSome, lengthOk := decide (fieldN b 6 2 = n)
    version := fieldN b 2 1, rsvOk := head && rest, fromVehicle := f.testBit 0, typ := typ
    sizeOk := match typ with
      | 1 => decide (32 ≤ n ∧ n ≤ 1452)
      | 7 => decide (n = 48)
      | 8 => decide (n = 44)
      | _ => true
    newStream := f.testBit 1, slot := fieldN b 20 1, vehicle := fieldN b 8 4, term := fieldN b 12 4, seq := fieldN b 16 4
    addr := addr, port := port }

/-- The body of an acknowledgement (R344). The reserved nibble above MISSING_PARTS is one of the checks of `teleOf`. -/
def ackOf (b : List Byte) : Ack :=
  let x := (b.drop 24)
  { permSeq := fieldN x 0 4, grant := fieldN x 4 4, blockSeq := fieldN x 8 4, stopSeq := fieldN x 12 4, state := fieldN x 16 1
    level := fieldN x 17 1, missing := fieldN x 18 1 % 16 }

/-- The body of a task status report (R346). -/
def reportOf (b : List Byte) : TaskReport :=
  let x := (b.drop 24)
  { id := fieldN x 0 4, task := fieldN x 4 2, state := fieldN x 6 1, event := fieldN x 7 1, grant := fieldN x 8 4, node := fieldN x 12 2 }

/-- FRAMES of an observation carrier (R333). -/
def carrierFrames (b : List Byte) : Nat := fieldN b 24 2

/-- CRC-24Q over bytes, as RTCM 10403.3 puts it behind a frame: polynomial 0x1864CFB, initial value 0. PRESUMED (log 75). -/
def crc24q (b : List Byte) : Nat :=
  let rec bits : Nat → Nat → Nat
    | 0, x => x
    | n + 1, x => bits n (if x.testBit 23 then Nat.xor (x * 2) 0x1864CFB else x * 2)
  b.foldl (fun c y => bits 8 (Nat.xor c (y.toNat * 65536))) 0

/-- Read one RTCM 3 frame that begins some bytes (R333): preamble 0xD3, 10 bits of length, the message, CRC-24Q. In an MSM the number stands in bits
0 to 11 of the message, the epoch time in 24 to 53 and the multiple message bit in 54. PRESUMED: RTCM 10403.3 (log 75). `cells` is what the
masks and cells of the message say. The second result is what follows. -/
def msmOf (b : List Byte) (cells : List VCell) : Msm × List Byte :=
  let n := beNat ((b.drop 1).take 2) % 1024
  let p := (b.drop 3).take n
  let x := beNat ((p.drop 3).take 4)
  ({ num := beNat (p.take 2) / 16
     ok := decide (b.headD 0 = 0xD3) && decide (n + 6 ≤ b.length) && decide (7 ≤ n)
       && decide (beNat ((b.drop (n + 3)).take 3) = crc24q (b.take (n + 3)))
     tow := x / 4, more := x.testBit 1, cells := cells }, b.drop (n + 6))

/-- The messages of an observation carrier (R333): FRAMES of them, with the cells of each. -/
def msmsOf : Nat → List Byte → List (List VCell) → List Msm
  | 0, _, _ => []
  | n + 1, b, cs =>
    let r := msmOf b (cs.headD [])
    r.1 :: msmsOf n r.2 cs.tail

/-- The messages of a carrier telegram (R333). -/
def carrierMsms (b : List Byte) (cells : List (List VCell)) : List Msm :=
  msmsOf (carrierFrames b) ((b.drop 28).take (b.length - 32)) cells

/-! The pair link. -/

/-- A pair-link frame (R477). -/
def pairBytes (typ unit lane term seq : Nat) (payload : List Byte) : List Byte :=
  sealed (leBytes 2 0x4C50 ++ leBytes 1 1 ++ leBytes 1 typ ++ leBytes 1 unit ++ leBytes 1 lane ++ leBytes 2 payload.length ++ leBytes 4 seq
    ++ leBytes 4 term ++ payload)

/-- The payload of a pair-link frame (R478, R479) by its TYPE. Fields stand in the order of the layout, lowest first. -/
def pairPayload (typ : Nat) (l : List Int) : List Byte :=
  match typ with
  | 1 => packed [8, 1, 1, 1, 1, 4, 4, 4, 4, 4]
      [fieldAt l 8, fieldAt l 0, fieldAt l 1, fieldAt l 2, fieldAt l 3, 0, fieldAt l 4, fieldAt l 5, fieldAt l 6, fieldAt l 7]
  | 2 => packed [4, 4] (l.take 2) ++ rawBytes (l.drop 2)
  | 3 => packed [4, 4] l
  | 4 => packed [4, 1, 1, 2] (l.take 4) ++ timeField l 4 ++ zeros 6
  | 5 => packed [4, 4, 4] (l.take 3) ++ rawBytes (l.drop 3)
  | 6 => packed [4, 4] l
  | _ => packed [1, 3] (l ++ [0])

/-- A pair-link frame as sent: the fields begin with UNIT, SEQ and TERM, and `whom` holds the lane. -/
def pairSent (typ : Nat) (whom : List Nat) (l : List Int) : List Byte :=
  pairBytes typ (fieldAt l 0).toNat (whom.getD 0 0) (fieldAt l 2).toNat (fieldAt l 1).toNat (pairPayload typ (l.drop 3))

/-- The length and the reserved bytes of a payload are those of its TYPE (R8, R477, R478). -/
def pairFits (typ : Nat) (p : List Byte) : Bool :=
  match typ with
  | 1 => decide (p.length = 32) && decide (fieldN p 12 4 = 0)
  | 2 => decide (8 ≤ p.length)
  | 3 => decide (p.length = 8)
  | 4 => decide (p.length = 24) && decide (fieldN p 18 6 = 0)
  | 5 => decide (12 ≤ p.length)
  | 6 => decide (p.length = 8)
  | 7 => decide (p.length = 4) && decide (fieldN p 1 3 = 0)
  | _ => false

/-- Read a pair-link frame that arrives on a lane (R477): `ok` says that MAGIC, VERSION, length, CRC and reserved fields are as they must be. -/
def pairOf (lane : Fin 2) (b : List Byte) : PairHdr :=
  let n := b.length - 20
  let p := (b.drop 16).take n
  let f := fieldN b 5 1
  { ok := decide (20 ≤ b.length) && decide (b.length ≤ 4116) && decide (fieldN b 0 2 = 0x4C50) && decide (fieldN b 2 1 = 1)
      && decide (fieldN b 6 2 = n) && decide (f < 2) && (unsealed b).isSome && pairFits (fieldN b 3 1) p
    typ := fieldN b 3 1, unit := fieldN b 4 1, lane := lane, seq := fieldN b 8 4, term := fieldN b 12 4, payload := p }

/-- The payload of a heartbeat (R479). -/
def heartbeatOf (p : List Byte) : Heartbeat :=
  { fleetMs := fieldN p 0 8, role := fieldN p 8 1, condition := fieldN p 9 1, lanesSeen := fieldN p 10 1, drill := fieldN p 11 1
    stopSeq := fieldN p 16 4, setGen := fieldN p 20 4, cairnGen := fieldN p 24 4, cairnTerm := fieldN p 28 4 }

/-! What leaves. -/

/-- The bytes of what leaves the device by one of its own protocols; none for a pin, a register interface, or a message whose layout a standard
outside the spec gives (USDO, PTP, RTCM 3, USB DFU, PAUSE). -/
def Sent.wire (s : Sent) : Option (List Byte) :=
  let l := s.flds
  let body := l.drop 2
  match s.kind with
  | .ledgerReply => some (ledgerReplyBytes l)
  | .jenynReply => some (jenynReplyBytes l)
  | .notify => some (notifyBytes l)
  | .emcy => some (packed [2, 1, 2, 2, 2] l)
  | .canHeartbeat => some (packed [1] l)
  | .tpdo1 => some (packed [1, 1, 2, 4] l)
  | .tpdo2 => some (timeField l 0 ++ packed [1] (l.drop 1))
  | .ppsMessage => some (rawBytes l)
  | .fix => some (toVehicle 2 0 s.whom l (rawBytes body))
  | .grant => some (toVehicle 3 (4 * (fieldAt l 2).toNat) s.whom l (grantBody (l.drop 3)))
  | .setpoints => some (toVehicle 4 0 s.whom l (blockBody body))
  | .permission => some (toVehicle 5 0 s.whom l (permissionBody body))
  | .taskStatus => some (toVehicle 8 0 s.whom l (taskBody body))
  | .stopTelegram =>
    some (telegramBytes 6 0 0xFFFFFFFF (fieldAt l 6).toNat (fieldAt l 5).toNat 0xFF (stopBody (l.take 5)))
  | .heartbeat => some (pairSent 1 s.whom l)
  | .cairnPart => some (pairSent 2 s.whom l)
  | .cairnAck => some (pairSent 3 s.whom l)
  | .stopNotice => some (pairSent 4 s.whom l)
  | .settingsPart => some (pairSent 5 s.whom l)
  | .settingsAck => some (pairSent 6 s.whom l)
  | .pairWake => some (pairSent 7 s.whom l)
  | _ => none

end Sys2Proof.Machine
end

