-- ==== Sys2Proof/Machine/Access.lean ====
section
/-!
DEFINITION. Dictionary requests: the frame checks of R55, the response cache of R57, the order of checks of R572, staging
(R34, R38, R39) and the wrapper that a write of a command entry goes through.
-/
namespace Sys2Proof.Machine

/-- Ledger operation codes used in replies (R58). -/
def opRead : Nat := 1
/-- WRITE (R58). -/
def opWrite : Nat := 2
/-- STAGE (R58). -/
def opStage : Nat := 3
/-- COMMIT (R58). -/
def opCommit : Nat := 4
/-- ABORT (R58). -/
def opAbort : Nat := 5
/-- SUBSCRIBE (R58). -/
def opSubscribe : Nat := 6
/-- TABLE (R58). -/
def opTable : Nat := 7

/-- The CiA 301 abort code of a status (R64). -/
def abortCode : Nat → Nat
  | 0x01 => 0x05040001 | 0x02 => 0x05040001 | 0x03 => 0x06020000 | 0x04 => 0x06090011 | 0x05 => 0x06010002
  | 0x06 => 0x06010001 | 0x07 => 0x06070010 | 0x08 => 0x06090030 | 0x09 => 0x08000020 | 0x0A => 0x08000022
  | 0x0B => 0x06010000 | 0x0C => 0x06010000 | 0x0D => 0x08000021 | 0x0E => 0x08000021 | 0x0F => 0x08000024
  | 0x10 => 0x08000000 | 0x11 => 0x08000022 | 0x12 => 0x08000022 | 0x13 => 0x05040001 | 0x14 => 0x08000022
  | 0x15 => 0x08000000 | 0x16 => 0x08000000 | _ => 0

/-- A reply to a request: a Ledger response with its status and payload fields, a USDO answer with its abort code, or a Jenyn
response, whose OP is 2 above the sub-index of 4602 that the message writes (R529). -/
def replyOf (q : Req) (op status : Nat) (flds : List Int) : Sent :=
  if q.peer.kind = 3 then
    { kind := .usdoReply, whom := [q.peer.can, q.peer.port], flds := (abortCode status : Int) :: flds }
  else if q.peer.kind = 4 then
    match flds with
    | [_, sub, acc] => { kind := .jenynReply, flds := [(q.reqId : Int), 2 + sub, status] ++ (if sub = 1 then [acc] else []) }
    | flds => { kind := .jenynReply, flds := (q.reqId : Int) :: op :: status :: flds }
  else
    { kind := .ledgerReply, whom := [q.peer.addr, q.peer.port, q.peer.kind], flds := (q.reqId : Int) :: op :: status :: flds }

/-- Send a reply and keep it for R57, at most 16 for each peer, newest first. -/
def Dev.answer (d : Dev) (q : Req) (op status : Nat) (flds : List Int) : Dev :=
  let r := replyOf q op status flds
  let mine := d.led.cache.filter (fun c => c.peer == q.peer)
  let rest := d.led.cache.filter (fun c => c.peer != q.peer)
  { d with
    out := r :: d.out
    led := { d.led with cache := ({ peer := q.peer, reqId := q.reqId, reply := r, at_ := d.clk.now } :: mine).take 16 ++ rest } }

/-- What the device does with a request frame before executing it. -/
inductive Intake where
  /-- Not listened to on that port, or the service is not running: nothing happens. -/
  | ignored
  /-- Dropped without reply and counted (R55). -/
  | dropped
  /-- Answered with MALFORMED (R55). -/
  | malformed
  /-- The USDO server of the port serves another client (R74). -/
  | busy
  /-- Answered again from the cache (R57). -/
  | again (r : Sent)
  /-- A request with this number is accepted and not yet answered: dropped (R57). -/
  | running
  /-- To be executed. -/
  | execute
deriving DecidableEq, Repr

/-- The checks of a header that Ledger and Jenyn share (R54, R55, R528): VERSION, the lengths, the reserved fields, and the fields that are 0
in a request. A STATUS or MORE that is not 0 counts as a malformed frame (log 60). -/
def headerOk (q : Req) : Bool :=
  q.version == 1 && q.lenOff == 0 && q.rsv == 0 && !q.resp && q.status == 0 && !q.more

/-- A client of a USDO server is in the middle of a segmented transfer, and it is not this one (R74). -/
def Dev.usdoTaken (d : Dev) (p : Peer) : Bool := d.led.parts.any (fun b => b.peer.kind == 3 && b.peer.can == p.can && b.peer != p)

/-- R53, R55, R57, R74: the intake of a request with its OP and payload. The core island executes requests (R56). USDO is served in
pre-operational and operational (R74); a malformed Jenyn message is answered with MALFORMED (R528, R529), and in ROM recovery the port speaks DFU
only (R531). The checks of R55 come before the look for a kept response (R57): the spec does not order the two (log 60). -/
def Dev.intake (d : Dev) (q : Req) (op : Nat) (p : List Byte) : Intake :=
  if !d.up 8 then .ignored
  else if q.peer.kind = 3 then
    let c := if q.peer.can = 0 then d.can0 else d.can1
    if c.nmt = .preOperational ∨ c.nmt = .operational then (if d.usdoTaken q.peer then .busy else .execute) else .ignored
  else if q.peer.kind = 4 then
    if d.upd.recovery then .ignored
    else if q.short ∨ q.magic ≠ 0x4E4A ∨ !reqCrcOk q op p ∨ !headerOk q ∨ 65544 < p.length then .malformed
    else .execute
  else if q.dstUdp ≠ d.led.port ∨ !d.led.enable.testBit q.arrPort ∨ !d.up 7 then .ignored
  else if q.short ∨ q.magic ≠ 0x444C ∨ !reqCrcOk q op p ∨ 1432 < p.length then .dropped
  else if !headerOk q then .malformed
  else match d.led.cache.find? (fun c => c.peer == q.peer && c.reqId == q.reqId) with
    | some c => .again c.reply
    | none => if d.led.waiting.any (fun w => w == (q.peer, q.reqId)) then .running else .execute

/-- Count a dropped frame; event source 15 is raised at most once a second, with the frames of the past second (R55). -/
def Dev.dropFrame (d : Dev) : Dev :=
  let l := (d.clk.now :: d.ev.dropped).filter (fun t => decide (d.clk.now < t + secT))
  let due := match d.ev.dropAt with
    | none => true
    | some t => decide (t + secT ≤ d.clk.now)
  if due then
    ({ d with ev := { d.ev with dropped := l, dropAt := some d.clk.now } }).raise 15 (min l.length 65535)
  else { d with ev := { d.ev with dropped := l } }

/-- The owner of the change set has sent a request (R40). -/
def Dev.touch (d : Dev) (p : Peer) : Dev :=
  if d.cs.owner = some p then { d with cs := { d.cs with lastReq := d.clk.now } } else d

/-- The operations of R58 that a peer's protocol has: Ledger all, USDO reads and writes (R74). Jenyn numbers its own (R529). -/
def hasOp (q : Req) (op : Nat) : Bool := if q.peer.kind = 3 then decide (op = opRead ∨ op = opWrite) else true

/-- A request through intake: executed where it is to be, else what R55, R57 and R74 say. The body answers for
itself. -/
def Dev.serve (d : Dev) (q : Req) (op : Nat) (p : List Byte) (body : Dev → Dev) : Dev :=
  if !hasOp q op then d else
  match d.intake q op p with
  | .ignored => d
  | .dropped => d.dropFrame
  | .malformed => d.answer q op 1 []
  | .busy => d.answer q op 0x12 []
  | .again r => { d with out := r :: d.out }
  | .running => d
  | .execute => body (d.touch q.peer)

/-- A request of an operation that the Ledger protocol alone has (R58); USDO and Jenyn have none of them (R74, R529), so that from there only
time passes (log 3). -/
def Dev.serveLedger (d : Dev) (q : Req) (op : Nat) (p : List Byte) (body : Dev → Dev) : Dev :=
  d.when (decide (q.peer.kind = 1 ∨ q.peer.kind = 2)) (fun d => d.serve q op p body)

/-- The island that owns an entry (R17, check 8 of R572): the spec gives no list, so this one is read from the chapters
(log 8). Status and settings that the firmware holds belong to the core island. -/
def ownerIsland (k : Key) : Nat :=
  let idx := k / 256
  if idx = 0x2E10 ∨ idx = 0x2E14 ∨ idx = 0x2E12 ∨ idx = 0x3001 then 6
  else if 0x3A80 ≤ idx ∧ idx ≤ 0x3A81 then 7
  else if 0x3E00 ≤ idx ∧ idx < 0x3F00 ∧ k % 256 = 5 then 9
  else if (0x3620 ≤ idx ∧ idx < 0x3640) ∨ k = 0x380001 ∨ k = 0x380002 ∨ k = 0x380003 ∨ k = 0x209002 then 10
  else if k = 0x243004 ∨ k = 0x249201 then 4
  else if 0x5000 ≤ idx ∧ idx < 0x6000 ∧ idx % 32 = 3 then 5
  else if 0x5000 ≤ idx ∧ idx < 0x6000 ∧ idx % 32 = 0x13 then 6
  else 8

/-- True where an entry stands in the range that has twins (R33). -/
def inTwinRange (idx : Nat) : Bool := decide (0x2000 ≤ idx ∧ idx ≤ 0x5FFF)

/-- True where an index lies among the staged twins (R28). -/
def isTwin (rawIdx : Nat) : Bool := decide (0xA000 ≤ rawIdx ∧ rawIdx ≤ 0xDFFF)

/-- The index whose entries an index names: a twin names those 0x8000 below it (R28, R33). -/
def baseIdx (rawIdx : Nat) : Nat := if isTwin rawIdx then rawIdx - 0x8000 else rawIdx

/-- Where a write goes: the live index, and whether it is staged. A WRITE of an index from A000 to DFFF is a write of the twin 0x8000 below
(R28, R61). -/
def writeTarget (stage : Bool) (idx : Nat) : Nat × Bool := (baseIdx idx, stage || isTwin idx)

/-- Checks 1 to 8 of R572 for a write: the status of the first that fails, 0 where none does. -/
def Dev.writeCheck (d : Dev) (p : Peer) (stage : Bool) (rawIdx sub : Nat) : Nat :=
  let idx := baseIdx rawIdx
  let twin := isTwin rawIdx
  let staged := stage || twin
  let rows := rowsAt idx
  if rows = [] ∨ (twin ∧ !rows.any (fun r => r.dir != .ro)) then 3
  else match rows.find? (fun r => decide (r.s0 ≤ sub) && decide (sub ≤ r.s1)) with
    | none => if sub = 0 then 5 else 4
    | some r =>
      if twin ∧ r.dir = .ro ∧ sub ≠ 0 then 4
      else if r.dir = .ro ∨ r.cls = .factory then 5
      else if (staged ∧ (idx = 0x2010 ∨ idx = 0x2030 ∨ idx = 0x4602)) ∨ (stage ∧ !inTwinRange rawIdx) then 0x0B
      else if !staged ∧ inTwinRange idx ∧ !r.cmd ∧ idx ≠ 0x2010 ∧ idx ≠ 0x2030 then 0x0C
      else if staged ∧ d.cs.owner ≠ none ∧ d.cs.owner ≠ some p then 0x0D
      else if staged ∧ (d.nat 0x201003 = 2 ∨ d.nat 0x201003 = 3) then 0x0E
      else if r.cls = .guarded ∧ !d.flag 0x461001 then 9
      else if !d.up (ownerIsland (keyOf idx sub)) then 0x0A
      else 0

/-- A request refused as UNAVAILABLE is a not-ready reply of the entry's island (R17). A part refused as GUARDED, of a write that began while the
window was open, discards the peer's part buffer of the entry (R509). -/
def Dev.refusedBy (d : Dev) (p : Peer) (status : Nat) (k : Key) : Dev :=
  if status = 0x0A then d.notReady (ownerIsland k)
  else if status = 9 then { d with led := { d.led with parts := d.led.parts.filter (fun b => !(b.peer == p && b.key == k)) } }
  else d

/-- Checks 9 and 10 of R572 on an entry. -/
def valueOf (idx sub : Nat) (data : List Byte) : Except Nat DVal :=
  match rowOf idx sub with
  | some r => checkValue r (keyOf idx sub) data
  | none => .error 4

/-- Size of a staged value in bytes (R39). -/
def stagedSize (k : Key) (v : DVal) : Nat :=
  match rowOf (k / 256) (k % 256) with
  | some r => (encodeVal r.ty v).length
  | none => 0

/-- The bytes of 2010:08 for an owner (R51). -/
def ownerBytes : Option Peer → List Byte
  | none => zeros 20
  | some p =>
    leBytes 1 p.kind ++ leBytes 1 p.can ++ leBytes 2 p.port
      ++ (if p.kind = 1 then leBytes 4 p.addr ++ zeros 12 else leBytes 16 p.addr)

/-- Bring 2010:03, :07, :08 and :0A into line with the change set. -/
def Dev.csStatus (d : Dev) (state : Nat) : Dev :=
  (((d.setN 0x201003 state).setN 0x201007 d.cs.staged.length).setO 0x201008 (ownerBytes d.cs.owner)).setN 0x20100A
    ((d.cs.staged.map (fun e => stagedSize e.1 e.2)).sum : Nat)

/-- The generation of a twin advances (R59): its value has changed and that of the live entry has not. -/
def Dev.twinChanged (d : Dev) (k : Key) : Dev := { d with gen := tabMod d.gen (k + 0x800000) 0 (fun n => (n + 1) % 65536) }

/-- Stage a value (R34, R38): the first staged write opens the set. R39 limits it to 4,096 entries and 16 MiB; beyond
either it is refused with RANGE and the set is as it was. -/
def Dev.stage (d : Dev) (p : Peer) (k : Key) (v : DVal) : Dev × Nat :=
  let staged := tabPut d.cs.staged k v
  let d0 := d
  let d := if (tabGet d.cs.staged k).getD (d.get k) = v then d else d.twinChanged k
  if 4096 < staged.length ∨ 16777216 < (staged.map (fun e => stagedSize e.1 e.2)).sum then (d0, 8)
  else
    (({ d with cs := { d.cs with staged := staged, owner := some p, lastReq := d.clk.now } }).csStatus 1, 0)

/-- The empty change set. -/
def noSet : ChangeSet := { staged := [], owner := none, lastReq := 0, req := none, instant := none }

/-- Close the change set: nothing staged, no owner (R47, R48). -/
def Dev.closeSet (d : Dev) : Dev :=
  let d := d.cs.staged.foldl (fun (d : Dev) e => if d.get e.1 = e.2 then d else d.twinChanged e.1) d
  ({ d with cs := noSet }).csStatus 0

/-- The part buffer of a peer is discarded (R60). -/
def Dev.dropParts (d : Dev) (p : Peer) : Dev := { d with led := { d.led with parts := d.led.parts.filter (fun b => b.peer != p) } }

/-- One part of a write (R60): the status, and the whole value once it is held. A part for another entry than the parts held discards them
and begins its own value; every other part must stand where the parts held end. -/
def Dev.takePart (d : Dev) (p : Peer) (k : Key) (staged : Bool) (off total : Nat) (b : List Byte) : Dev × Nat × Option (List Byte) :=
  let clear := d.dropParts p
  let hold (x : PartBuf) : Dev := { clear with led := { clear.led with parts := x :: clear.led.parts } }
  let first : Dev × Nat × Option (List Byte) :=
    if total < off + b.length then (clear, 7, none)
    else if off ≠ 0 then (clear, 0x13, none)
    else if b.length = total then (clear, 0, some b)
    else (hold { peer := p, key := k, staged := staged, total := total, data := b, at_ := d.clk.now }, 0, none)
  match d.led.parts.find? (fun x => x.peer == p) with
  | none => first
  | some x =>
    if x.key ≠ k ∨ x.staged ≠ staged then first
    else if total < off + b.length ∨ total ≠ x.total then (clear, 7, none)
    else if off ≠ x.data.length then (clear, 0x13, none)
    else if off + b.length = total then (clear, 0, some (x.data ++ b))
    else (hold { x with data := x.data ++ b, at_ := d.clk.now }, 0, none)

/-- The payload of a write of a part of a value at an offset: that of a Ledger WRITE (R58), or of a Jenyn IMAGE_WRITE; the other Jenyn
operations that write have none (R529). -/
def writePayload (q : Req) (idx sub off total : Nat) (data : List Byte) : List Byte :=
  let part := leBytes 4 off ++ leBytes 4 total ++ data
  if q.peer.kind = 4 then (if sub = 1 then part else []) else leBytes 2 idx ++ leBytes 1 sub ++ zeros 1 ++ part

/-- A write through intake. Jenyn writes entries of 4602 alone (R529). -/
def Dev.serveWrite (d : Dev) (q : Req) (op idx sub off total : Nat) (data : List Byte) (body : Dev → Dev) : Dev :=
  d.serve q (if q.peer.kind = 4 then 2 + sub else op) (writePayload q idx sub off total data) (fun d => if q.peer.kind = 4 ∧ idx ≠ 0x4602 then d.answer q op 2 [] else body d)

/-- The live write of a command entry through Ledger, CANopen FD or Jenyn, its value in one frame: intake, the checks of R572, the parts of
R60, then the command's own effect, which answers its status; then the reply. (A value that comes in parts is one of REGISTER_WRITE.) -/
def Dev.command (d : Dev) (q : Req) (idx sub : Nat) (data : List Byte) (f : DVal → Dev → Dev × Nat) : Dev :=
  d.serveWrite q opWrite idx sub 0 data.length data (fun d =>
    let hdr : List Int := [idx, sub]
    match d.writeCheck q.peer false idx sub with
    | 0 =>
      let w := d.takePart q.peer (keyOf idx sub) false 0 data.length data
      if w.2.1 ≠ 0 then w.1.answer q opWrite w.2.1 (hdr ++ [0])
      else match valueOf idx sub data with
        | .error e => w.1.answer q opWrite e (hdr ++ [0])
        | .ok v =>
          let r := f v w.1
          r.1.answer q opWrite r.2 (hdr ++ [if r.2 = 0 then (data.length : Int) else 0])
    | e => (d.refusedBy q.peer e (keyOf idx sub)).answer q opWrite e (hdr ++ [0]))

end Sys2Proof.Machine
end

