-- ==== Sys2Proof/Machine/CaptureCore.lean ====
section
/-!
DEFINITION. The core of the capture engine (R434 to R445): the sample grid, the conditions of the trigger sources, the placing of the
trigger instant, and what a trigger does in each state. Ticks are those of the tick counter. What the inputs, the probe balls and the
internal signals read at each sample comes with the commands, one `CapSample` every 5 ticks.
-/
namespace Sys2Proof.Machine

/-- Capture state, 4210:01 (R450). -/
def Dev.capState (d : Dev) : Nat := d.nat 0x421001

/-- Frame size F in bytes (R436). -/
def Dev.frameSize (d : Dev) : Nat :=
  let a := ((List.range 4).filter (fun i => d.bit 0x420001 i)).length
  let p := if d.flag 0x420002 then 1 else 0
  if d.nat 0x420003 = 1 then 2 * a + 4 * p else 4 * a + 8 * p

/-- Frames that a segment can hold: D (R438). -/
def Dev.segFrames (d : Dev) : Nat := (2097152 / d.nat 0x420004 - 64) / d.frameSize

/-- Ticks of one frame: 5 × M (R436). -/
def Dev.frameTicks (d : Dev) : Nat := 5 * d.nat 0x420003

/-- The first frame boundary after the present tick (R436, R443). -/
def Dev.nextBoundary (d : Dev) : Nat := (d.clk.tick / d.frameTicks + 1) * d.frameTicks

/-- The lowest-numbered segment that holds no record. -/
def Dev.freeSeg (d : Dev) : Option Nat :=
  (List.range (d.nat 0x420004)).find? (fun s => (tabGet d.cap.records s).isNone)

/-- Bring 4210:06 to :08 into line (R450). -/
def Dev.capStatus (d : Dev) : Dev :=
  let d := (d.setN 0x421006 d.frameSize).setN 0x421007 d.segFrames
  d.setN 0x421008 ((d.cap.records.map (fun r => 2 ^ r.1)).sum : Nat)

/-- A capture command refused (R446). -/
def Dev.capRefuse (d : Dev) (reason : Nat) : Dev := d.raise 482 reason

/-- Start filling a segment from a frame boundary (R443). The hysteresis condition is cleared at every arm and every re-arm (R441). -/
def Dev.capFill (d : Dev) (seg start : Nat) : Dev :=
  let c := d.cap
  let c := { c with seg := seg, start := start, extra := 0, forced := false, short := false, rearm := none
                    primedLow := false, primedHigh := false, last := none }
  (({ d with cap := c }).setN 0x421001 (if d.nat 0x420007 = 1 then 2 else 1)).capStatus

/-- The first sample at or after an instant (R434, R442). -/
def sampleAt (tick frac : Nat) : Nat := (tick + (if frac = 0 then 0 else 1) + 4) / 5 * 5

/-- The first sample after the present tick: the one that a force command and the effect instant of a Whiteout are placed at (R442). -/
def Dev.nextSample (d : Dev) : Nat := (d.clk.tick / 5 + 1) * 5

/-- Whole frames that precede the frame of a sample. -/
def Dev.framesBefore (d : Dev) (sample : Nat) : Nat := (sample - d.cap.start) / d.frameTicks

/-- The frame that holds the trigger sample, counted from the first frame stored (R442). -/
def Dev.trigFrame (d : Dev) : Nat := d.framesBefore (sampleAt d.cap.tick d.cap.frac)

/-- The trigger (R442, R443): the instant is placed, what the header states of it is taken, and the state becomes POST. TRIG_TIME is taken down to
the whole nanosecond (log 43). -/
def Dev.capTrigger (d : Dev) (tick frac place source : Nat) (forced : Bool) : Dev :=
  let n := d.framesBefore (sampleAt tick frac)
  let c := d.cap
  let time : Int := (d.clk.at tick + frac * 5 * 65536 / 1000) / 65536
  let c := { c with tick := tick, frac := frac, place := place, source := source, forced := forced, extra := 0
                    short := decide (n < d.nat 0x420005), time := time.toNat, timeSt := d.timeState, steps := d.nat 0x220006 }
  ({ d with cap := c }).setN 0x421001 3

/-- A trigger condition is seen, its instant placed (R441 to R445). In state 1 it is accepted where the fill is complete in the sample of
the trigger (R447); before the first frame is stored it is ignored as in the fill (log 43). In state 3 it takes the place of a force
command on the same sample (R447), else it is an extra trigger. -/
def Dev.triggerSeen (d : Dev) (tick frac place : Nat) : Dev :=
  let src := d.nat 0x420101
  let sample := sampleAt tick frac
  match d.capState with
  | 1 =>
    if sample < d.cap.start ∨ d.framesBefore sample < d.nat 0x420005 then d.inc32 0x421003 else d.capTrigger tick frac place src false
  | 2 => if sample < d.cap.start then d.inc32 0x421003 else d.capTrigger tick frac place src false
  | 3 =>
    if d.cap.forced ∧ sampleAt d.cap.tick d.cap.frac = sample then d.capTrigger tick frac place src false
    else
      let c := d.cap
      ({ d with cap := { c with extra := min (c.extra + 1) 0xFFFFFFFF } }).inc32 0x421004
  | 4 =>
    let d := d.inc32 0x421005
    let c := d.cap
    if d.dueSec c.missedAt then ({ d with cap := { c with missedAt := some d.clk.now } }).raise 481 0 else d
  | 0 => if d.cap.rearm.isSome then d.inc32 0x421004 else d
  | _ => d

/-- The effect instant of a Whiteout started from CLEAR triggers with source 7, placed at the first sample after it (R441, R442). -/
def Dev.capWhiteout (d : Dev) : Dev := if d.nat 0x420101 = 7 then d.triggerSeen d.nextSample 0 2 else d

/-- The level of a probe line at a sample (R435): a ball, or the internal signal that 4202 selects, where code 0 is constant low. -/
def Dev.probeLine (d : Dev) (s : CapSample) (n : Nat) : Bool :=
  if n < 16 then s.pins.testBit n
  else
    let code := d.nat (0x420201 + (n - 16))
    decide (code ≠ 0) && s.signals.testBit code

/-- All 32 probe lines at a sample: bit n is line n (R437). -/
def Dev.probeWord (d : Dev) (s : CapSample) : Nat :=
  ((List.range 32).map (fun n => if d.probeLine s n then 2 ^ n else 0)).sum

/-- An instant in units of 5 ps, as tick and TDC_FRAC. -/
def instantOf (u : Nat) : Nat × Nat := (u / 160, u % 160)

/-- The last edge in a direction that the TDC measured in an interval of units of 5 ps (R442). -/
def lastEdge (edges : List TdcEdge) (rising : Bool) (low high : Nat) : Option Nat :=
  ((edges.filter (fun e => e.rising == rising)).map (fun e => e.tick * 160 + e.frac)).foldl (fun (best : Option Nat) u =>
    if low ≤ u ∧ u ≤ high ∧ best.getD 0 ≤ u then some u else best) none

/-- The place of an analog trigger in units of 5 ps (R442): the comparator's edge within the 8 ns that end at the deciding sample, else
interpolated between the samples that straddle the level, rounded half up; a free value within the 4 ns where no sample stands before it. -/
def Dev.placeLevel (d : Dev) (t level x : Nat) (before : Option Nat) (rising : Bool) (edges : List TdcEdge) : Nat × Nat :=
  match lastEdge edges rising (t * 160 - 1600) (t * 160), before with
  | some u, _ => (u, 0)
  | none, some w =>
    let step : Rat := 800 * ((level : Int) - w : Rat) / ((x : Int) - w : Rat)
    (t * 160 - 800 + (step + 1 / 2).floor.toNat, 1)
  | none, none => (t * 160 - d.freeN % 800, 1)

/-- Sources 1 to 4 at one sample (R441), decided on raw samples: code `x` of the input and the code before it. -/
def Dev.seeLevel (d : Dev) (t x : Nat) (before : Option Nat) (edges : List TdcEdge) : Dev :=
  let level := d.nat 0x420104
  let hyst := d.nat 0x420105
  let edge := d.nat 0x420103
  let up := decide (edge ≠ 1) && d.cap.primedLow && decide (level ≤ x)
  let down := decide (edge ≠ 0) && d.cap.primedHigh && decide (x ≤ level)
  let low := (d.cap.primedLow && !up) || decide (x + hyst ≤ level)
  let high := (d.cap.primedHigh && !down) || decide (level + hyst ≤ x)
  let c := d.cap
  let d : Dev := { d with cap := { c with primedLow := low, primedHigh := high } }
  if up || down then
    let p := d.placeLevel t level x before up edges
    let d := if p.2 = 1 ∧ before.isNone then d.used else d
    d.triggerSeen (instantOf p.1).1 (instantOf p.1).2 p.2
  else d

/-- Source 5 at one sample (R441): the line differs from the sample before. Lines 0 to 15 are placed by the TDC edge of the ball between the two
samples, a free value where none was delivered; the internal lines by the sample (R442). -/
def Dev.seeProbe (d : Dev) (t : Nat) (s : CapSample) (before : Option CapSample) (edges : List TdcEdge) : Dev :=
  let n := d.nat 0x420102
  let edge := d.nat 0x420103
  match before with
  | none => d
  | some b =>
    let now := d.probeLine s n
    if now = d.probeLine b n ∨ (edge = 0 ∧ !now) ∨ (edge = 1 ∧ now) then d
    else if 16 ≤ n then d.triggerSeen t 0 2
    else match lastEdge edges now (t * 160 - 799) (t * 160) with
      | some u => d.triggerSeen (instantOf u).1 (instantOf u).2 0
      | none =>
        let u := instantOf (t * 160 - d.freeN % 800)
        d.used.triggerSeen u.1 u.2 0

/-- One sample, taken at tick `t` (R434, R441): the source set sees it. The sample before counts where it is the one 5 ticks earlier. -/
def Dev.seeSample (d : Dev) (edges : List TdcEdge) (t : Nat) (s : CapSample) : Dev :=
  let before : Option CapSample := d.cap.last.bind (fun b => if b.1 + 5 = t then some b.2 else none)
  let src := d.nat 0x420101
  let d :=
    if 1 ≤ src ∧ src ≤ 4 then
      d.seeLevel t (s.codes.getD (src - 1) 0) (before.map (fun b => b.codes.getD (src - 1) 0)) edges
    else if src = 5 then d.seeProbe t s before edges
    else d
  let c := d.cap
  { d with cap := { c with last := some (t, s) } }

/-- Samples in order, the first at tick `t`. -/
def Dev.seeSamples (edges : List TdcEdge) : Nat → List CapSample → Dev → Dev
  | _, [], d => d
  | t, s :: ss, d => Dev.seeSamples edges (t + 5) ss (d.seeSample edges t s)

end Sys2Proof.Machine
end

