-- ==== Sys2Proof/Machine/StopCore.lean ====
section
/-!
DEFINITION. What other families set off: the position of an axis becoming uncertain and the halt of all axes (R312, R369,
R370), and a Whiteout source acting (R296, R297, R302).
-/
namespace Sys2Proof.Machine

/-- The status entry `sub` of axis `n` (R358). -/
def axKey (n sub : Nat) : Key := (0x3610 + n) * 256 + sub

/-- The setting `sub` of axis `n` (R355). -/
def axSet (n sub : Nat) : Key := (0x3600 + n) * 256 + sub

/-- The phase 3610 + n:05: steps modulo the phase cycle, 0 where that is 0 (R358). -/
def Dev.axPhase (d : Dev) (n : Nat) : Nat :=
  let c := d.nat (axSet n 0x13)
  if c = 0 then 0 else d.nat (axKey n 5) % c

/-- The axis with a number. -/
def Dev.axis (d : Dev) (n : Nat) : Axis := tabGetD d.axes n axis0

/-- Change an axis. -/
def Dev.setAxis (d : Dev) (n : Nat) (a : Axis) : Dev := { d with axes := tabPut d.axes n a }

/-- The position of an axis becomes uncertain, which raises event source 357 (R370). -/
def Dev.uncertain (d : Dev) (n : Nat) : Dev :=
  if d.bit (axKey n 4) 0 then d else (d.setBit (axKey n 4) 0 true).raise 357 n

/-- Pulses cease on an axis: the plan ends, the speed is 0, and an axis that was in motion is at rest. The position
issued is the planned position rounded to the nearest whole step (R362). -/
def Dev.cease (d : Dev) (n : Nat) : Dev :=
  let a := d.axis n
  let st := d.nat (axKey n 1)
  let d := d.setAxis n { a with plan := .none, vel := 0, acc := 0, pos := (d.num (axKey n 2) : Rat)
                                restAt := if a.vel = 0 then a.restAt else d.clk.now }
  let d := d.setN (axKey n 3) 0
  if st = 2 ∨ st = 3 ∨ st = 4 ∨ st = 5 then d.setN (axKey n 1) 1 else d

/-- R312: on any Whiteout the step generators of all eight axes stop, and every axis that was moving or enabled is
flagged position-uncertain. -/
def Dev.haltAxis (d : Dev) (n : Nat) : Dev :=
  if d.bit (axKey n 4) 6 ∨ 2 ≤ d.nat (axKey n 1) then (d.cease n).uncertain n else d

/-- The halt of all eight axes (R312). -/
def Dev.haltAxes (d : Dev) : Dev := (List.range 8).foldl Dev.haltAxis d

/-- Whiteout state 3801:01 (R295). -/
def Dev.woState (d : Dev) : Nat := d.nat 0x380101

/-- Whiteout level 3801:02 (R295). -/
def Dev.woLevel (d : Dev) : Nat := d.nat 0x380102

/-- True while a stop is in force: ACTIVE or ARMED (R295). -/
def Dev.stopped (d : Dev) : Bool := decide (d.woState ≠ 0)

/-- A thawed unit that does not serve: in a drill, or woken for a switch-over and not yet ACTIVE. Its ports are held down, its CAN
FD ports silent and its outputs low (R500, R501). -/
def Dev.quiet (d : Dev) : Bool := decide (d.nat 0x440201 = 4) || (decide (d.nat 0x440201 = 5) && decide (d.pair.waking = 1))

/-- R310: an output is energised only while the state is CLEAR or the level is below its trip level, no output fault is
latched, and the peripheral island is in state 3. Through a reset and in Hibernate the pad holds it low. In a drill it is
held low (R501). -/
def Dev.stopOut (d : Dev) (n : Nat) : Bool :=
  d.up 10 && (decide (d.woState = 0) || decide (d.woLevel < (if n = 0 then d.wo.trip0 else d.wo.trip1)))
    && !d.bit 0x380108 4 && !d.bit 0x380108 5 && d.pwr.vmainPg && !d.quiet

/-- R499: PAIR_ACT is energised while the unit is ACTIVE and its peripheral island is in state 3. In a takeover it is energised
as soon as that island runs (R491 step 3). -/
def Dev.pairAct (d : Dev) : Bool :=
  d.up 10 && (decide (d.nat 0x440201 = 2) || (decide (d.nat 0x440201 = 5) && decide (d.pair.waking ≠ 1)))

/-- Change the pair state. -/
def Dev.setPair (d : Dev) (f : Pair → Pair) : Dev := { d with pair := f d.pair }

/-- The lane with a number. -/
def Pair.lane (p : Pair) (n : Nat) : Lane := if n = 0 then p.lane0 else p.lane1

/-- Change a lane. -/
def Pair.setLane (p : Pair) (n : Nat) (x : Lane) : Pair := if n = 0 then { p with lane0 := x } else { p with lane1 := x }

/-- True while a lane is up (R480). -/
def Dev.laneUp (d : Dev) (n : Nat) : Bool := d.bit 0x440205 n

/-- Send a pair-link frame on an enabled lane: its SEQ advances (R477, R503). -/
def Dev.sendLane (d : Dev) (n : Nat) (k : SentKind) (flds : List Int) : Dev :=
  if !d.bit 0x440002 n then d else
  let x := d.pair.lane n
  let d := d.setPair (fun p => p.setLane n { x with txSeq := (x.txSeq + 1) % 2 ^ 32 })
  d.emit k [n] ([d.num 0x440001, (x.txSeq : Int), d.num 0x440203] ++ flds)

/-- Send on every lane that is up. -/
def Dev.sendLanes (d : Dev) (k : SentKind) (flds : List Int) : Dev :=
  [0, 1].foldl (fun (d : Dev) n => if d.laneUp n then d.sendLane n k flds else d) d

/-- R488: an ACTIVE unit sends every change of Whiteout state or level as a STOP_NOTICE on every lane that is up. -/
def Dev.stopNotice (d : Dev) : Dev :=
  let flds : List Int := [d.num 0x380103, d.num 0x380101, d.num 0x380102, d.num 0x380104, d.fleetNs]
  if d.nat 0x440201 = 2 then d.sendLanes .stopNotice flds else d

/-- The flood starts a new schedule at levels W1 and W2 (R302, R308); the old schedule and any clear waves end (R317). -/
def Dev.startFlood (d : Dev) (level : Nat) : Dev :=
  { d with wo := { d.wo with
      flood := if 2 ≤ level then some (d.clk.now, 0) else none
      clearing := none, portsOut := 0, slotsOut := [], reported := 0 } }

/-- R324: a source takes the trip levels that it finds. -/
def Dev.takeTrips (d : Dev) : Dev := { d with wo := { d.wo with trip0 := d.nat 0x381006, trip1 := d.nat 0x381007 } }

/-- R297: a source acts at its effect instant. From CLEAR it starts a stop; during a stop it sets its cause bit and, where
its level is higher, raises the level. The stop sequence advances only on leaving CLEAR and is written to the settings
store. -/
def Dev.woAct (d : Dev) (cause level : Nat) : Dev :=
  let d := d.takeTrips
  if d.woState = 0 then
    let seq : Nat := (d.nat 0x380103 + 1) % 2 ^ 32
    let d := { d with nv := tabPut d.nv 0x380103 (.num (seq : Int)) }
    let d := ((((d.setN 0x380101 1).setN 0x380102 level).setN 0x380103 (seq : Int)).setN 0x380104 (2 ^ (cause - 1) : Nat)).setN
      0x380105 d.fleetNs
    (((d.startFlood level).haltAxes).raise 320 (level * 256 + cause)).capWhiteout.stopNotice
  else
    let d := d.setBit 0x380104 (cause - 1) true
    if d.woLevel < level then
      let d := (d.setN 0x380102 level).setN 0x380101 1
      (((d.startFlood level).haltAxes).raise 321 (level * 256 + cause)).stopNotice
    else d

end Sys2Proof.Machine
end

