-- ==== Sys2Proof/Machine/TimeBase.lean ====
section
/-!
DEFINITION. Fleet time as other families use it: changes of the time state with what state 0 brings (R82 to R85), Closure
instants (R44, R50), and the choice of the active source (R88, R89, R93, R98).
-/
namespace Sys2Proof.Machine

/-- Nearest integer of a rational, halves upward. -/
def roundRat (x : Rat) : Int := (x + 1 / 2).floor

/-- Clamp an integer to ± `m`. -/
def clampI (m x : Int) : Int := max (-m) (min m x)

/-- The greatest magnitude of r (R78). -/
def rLimit : Int := 140737488355

/-- The first Closure instant at or after a time in ns (R44). -/
def closureInstant (ns : Nat) : Nat := (ns + 19999999) / 20000000 * 20000000

/-- Place both PTP ports in state FAULTY (R84): the portState codes of IEEE 1588-2019, FAULTY being 2. -/
def Dev.setPortState (d : Dev) (p : Nat) (st : Nat) : Dev :=
  if d.nat (0x222202 + p) = st then d else (d.setN (0x222202 + p) st).raiseIf (d.up 8) 40 (p * 256 + st)

/-- Disarm every comparator: bit 0 of its status is cleared (R84). -/
def Dev.disarmAll (d : Dev) : Dev := (List.range 15).foldl (fun d n => d.setBit ((0x2280 + n) * 256 + 7) 0 false) d

/-- The slew in progress ends: the slew term leaves r, bit 0 of 2200:0A clears and event source 36 is raised (R93). -/
def Dev.endSlew (d : Dev) (detail : Nat) : Dev :=
  if d.bit 0x22000A 0 then
    let d := d.reload (clampI rLimit (d.num 0x221102))
    let d := { d with servo := { d.servo with slewTerm := 0, slew0 := 0, slewReturn := false } }
    ((d.setBit 0x22000A 0 false).setN 0x221103 0).raise 36 detail
  else d

/-- What entering state 0 does beside the change of code (R84, R85): the scales run on from the crystal, the PTP ports go
FAULTY, the comparators disarm, the error estimate is unknown, and nothing of the servo is pending. No source is active or valid then; source 38
is not raised for it, since the state change 32 tells it (DESIGN CHOICE, log 67: R89 speaks of sources that miss updates). -/
def Dev.loseTime (d : Dev) : Dev :=
  let e := d.eng
  let d := { d with
    clk := { d.clk with engBase := e, engAt := d.clk.now }
    servo := { d.servo with cands := [], stepAt := none, stepSize := 0, slew0 := 0, slewTerm := 0, due := [], runs := [] }
    pps0 := { d.pps0 with nextSec := none }, pps1 := { d.pps1 with nextSec := none } }
  let d := (((d.setN 0x220005 0xFFFFFFFF).setN 0x220004 0).setN 0x22000A 0).setN 0x22000B 0
  let d := (d.setN 0x221103 0).setN 0x221104 0
  ((d.disarmAll).setPortState 0 2).setPortState 1 2

/-- The offload period starts afresh (R91). -/
def Dev.offloadAfresh (d : Dev) : Dev := { d with servo := { d.servo with rSum := 0, rAt := d.clk.now, rFrom := d.clk.now } }

/-- Fleet time changes state: event source 32 with the new code in DETAIL[7:0] and the old in DETAIL[15:8], while the core
island is in state 3 (R83). Entering state 0 from another state starts a Whiteout with cause 11 (R85). -/
def Dev.setTimeState (d : Dev) (st : Nat) : Dev :=
  let old := d.timeState
  if old = st then d
  else
    let d := if old = 4 ∨ old = 5 then d.setN 0x220005 (d.holdErr : Nat) else d
    let d := if st = 0 then d.loseTime else d
    let d := if (st = 2 ∨ st = 3) ∧ old ≠ 2 ∧ old ≠ 3 then d.offloadAfresh else d
    let d := (d.setN 0x220001 st).raiseIf (d.up 8) 32 (old * 256 + st)
    if st = 0 ∧ d.up 10 then d.woAct 11 (d.nat 0x38100A) else d

/-- Slew remaining now, in 2^-16 ns: the error taken at the start less what the slew term has absorbed (R93). -/
def Dev.slewLeft (d : Dev) : Int :=
  let done := ((d.clk.now : Int) - d.servo.slewAt) * d.servo.slewTerm / 5368709120
  if 0 < d.servo.slew0 then max 0 (d.servo.slew0 + done) else min 0 (d.servo.slew0 + done)

/-- The ns still to be absorbed by the slew term (2211:03). -/
def Dev.slewNs (d : Dev) : Int := if d.bit 0x22000A 0 then d.slewLeft.tdiv 65536 else d.num 0x221103

/-- A slew starts: the whole phase error is the slew remaining, the slew term has the sign that reduces it, and event
source 35 is raised (R93). The rate is 2210:06 on a return or a change of source, else 2210:05. -/
def Dev.startSlew (d : Dev) (e : Int) (ret : Bool) : Dev :=
  let mag : Int := if ret then d.num 0x221006 * 281474976710656 / 1000000000 else d.num 0x221005 * 281474976710656 / 1000000
  let term := if 0 < e then -mag else mag
  let d := { d with servo := { d.servo with slew0 := e, slewTerm := term, slewAt := d.clk.now, slewReturn := ret } }
  let d := d.reload (clampI rLimit (d.num 0x221102 + term))
  ((d.setBit 0x22000A 0 true).setN 0x221103 (e / 65536)).raise 35 0

/-- The first valid source in the priority list 2210:01; a code after 00 is ignored (R89, R92). -/
def Dev.bestSource (d : Dev) : Nat :=
  (((d.oct 0x221001).takeWhile (fun c => c != 0)).map BitVec.toNat).find? (fun c => d.bit 0x221104 c) |>.getD 0

/-- The y0 of R98: the larger of the loop's fractional-frequency uncertainty, of which the spec states no value (a free one, in 10^-18), and
the class figure 5 × 10^-12, doubled where the identity record is invalid (R114, R115). -/
def Dev.holdoverY0 (d : Dev) : Rat :=
  max ((d.freeN : Rat) / 1000000000000000000) ((if d.cart.idValid then 5 else 10) / 1000000000000)

/-- Holdover begins: HOLDOVER from LOCKED, else HOLDOVER_DEGRADED; r keeps its last loop value (R98). -/
def Dev.enterHoldover (d : Dev) : Dev :=
  let y0 := d.holdoverY0
  let d := d.used
  let d := { d with servo := { d.servo with
    err0 := d.nat 0x220005, holdAt := d.clk.now, y0 := y0, cands := [], lockRun := 0, looseRun := 0 } }
  d.setTimeState (if d.timeState = 3 then 4 else 5)

/-- The active source follows the priority list (R89). A slew in progress is abandoned (R93); a source taken over raises
37, a lost one 38; with none left in states 2 and 3 holdover begins (R98); a source found in holdover ends it (R100). -/
def Dev.chooseSource (d : Dev) : Dev :=
  let old := d.nat 0x220004
  let new := d.bestSource
  if new = old then d
  else
    let d := d.endSlew 1
    let d := { d with servo := { d.servo with first := true, returning := d.servo.everSet } }
    let d := d.setN 0x220004 new
    let d := d.raiseIf (decide (old ≠ 0) && !d.bit 0x221104 old) 38 old
    if new = 0 then (if d.timeState = 2 ∨ d.timeState = 3 then d.enterHoldover else d)
    else
      let d := d.raise 37 new
      if d.timeState = 4 ∨ d.timeState = 5 then d.setTimeState 2 else d

/-- A source becomes invalid (R89). -/
def Dev.invalidate (d : Dev) (src : Nat) : Dev :=
  if d.bit 0x221104 src then (d.setBit 0x221104 src false).chooseSource else d

/-- A source becomes valid (R89). -/
def Dev.validate (d : Dev) (src : Nat) : Dev :=
  let d := { d with servo := { d.servo with everValid := d.servo.everValid ||| 2 ^ src } }
  (d.setBit 0x221104 src true).chooseSource

/-- A PTP port forgets what it has heard. -/
def PtpPort.deaf (x : PtpPort) : PtpPort := { x with best := none, syncOpen := false, delayOpen := false, pOpen := false }

/-- Add a number of ns to the target of each armed timed action. -/
def Dev.shiftActions (d : Dev) (ns : Int) : Dev :=
  (List.range 256).foldl (fun (d : Dev) a =>
    if d.bit ((0x4100 + a) * 256 + 7) 0 then d.setN ((0x4100 + a) * 256 + 2) (max 0 (d.num ((0x4100 + a) * 256 + 2) + ns)) else d) d

/-- The timebase island reaches state 3: the tick counter and the terms start at 0, the step count at 0, fleet time is
UNSET, and the scales run on without a break: the targets of armed timed actions keep their place on them (R76, R82, R85, R471). -/
def Dev.startTime (d : Dev) : Dev :=
  let e := d.eng
  let d := d.shiftActions ((d.clk.engOff - e) / 65536)
  let clk : Clk := { d.clk with tick := 0, base := 0, off := 0, rate := 0, reloads := 0, engOff := e }
  let servo : Servo := { servo0 with codes := d.servo.codes, utcSeen := d.servo.utcSeen }
  let rx : Receiver := { d.rx with msmSteps := 0 }
  let d : Dev := { d with clk := clk, servo := servo, ptp0 := d.ptp0.deaf, ptp1 := d.ptp1.deaf, rx := rx }
  let d := ((d.setN 0x220006 0).setN 0x221102 0).setN 0x221104 0
  let d := if d.timeState = 0 then d.setTimeState 1 else d
  -- the PTP ports of an enabled profile listen again
  (List.range 2).foldl (fun d p => d.setPortState p (if d.nat ((0x2220 + p) * 256 + 1) = 0 then 3 else 4)) d

end Sys2Proof.Machine
end

