-- ==== Sys2Proof/Machine/Motion.lean ====
section
/-!
DEFINITION. Jerk-limited motion in one dimension (R281 to R283), as vehicles and local axes share it. Distances, speeds and
accelerations are taken along the direction of travel. A plan is a list of phases of constant jerk (R282): up to the greatest speed from
which every bound of R281 can still be met, a cruise, and down. It is made afresh at every setpoint (R283, log 12).
-/
namespace Sys2Proof.Machine

/-- Limits of a motion: speed, acceleration, deceleration, jerk. -/
structure MotionLim where
  vmax  : Rat
  accel : Rat
  decel : Rat
  jerk  : Rat

/-- Integer square root by bits, from bit `k` down. -/
def sqrtBits : Nat → Nat → Nat → Nat
  | 0, _, r => r
  | k + 1, n, r => sqrtBits k n (if (r + 2 ^ k) * (r + 2 ^ k) ≤ n then r + 2 ^ k else r)

/-- Square root of a rational that is not negative, to 2^-20. -/
def sqrtRat (x : Rat) : Rat := (sqrtBits 64 (x * 1099511627776).floor.toNat 0 : Nat) / 1048576

/-- A rational to the nearest 2^-20: the precision in which a plan is kept. -/
def fine (x : Rat) : Rat := (roundRat (x * 1048576) : Rat) / 1048576

/-- A phase of a plan: its duration in s and its jerk. -/
abbrev Phase := Rat × Rat

/-- Position, speed and acceleration after a time with a constant jerk. -/
def glide (h j s v a : Rat) : Rat × Rat × Rat :=
  (s + v * h + a * h * h / 2 + j * h * h * h / 6, v + a * h + j * h * h / 2, a + j * h)

/-- The state of motion after a time along phases; after the last one the speed stays. -/
def runPhases : List Phase → Rat → Rat → Rat → Rat → Rat × Rat × Rat
  | [], h, s, v, _ => (s + v * h, v, 0)
  | p :: ps, h, s, v, a =>
    if h ≤ p.1 then glide h p.2 s v a
    else
      let r := glide p.1 p.2 s v a
      runPhases ps (h - p.1) r.1 r.2.1 r.2.2

/-- The duration of phases. -/
def spanOf (l : List Phase) : Rat := (l.map (·.1)).sum

/-- The distance covered by phases. -/
def distOf (l : List Phase) (v a : Rat) : Rat := (runPhases l (spanOf l) 0 v a).1

/-- The phases that add `w` to the speed and end without acceleration (R282): acceleration to a greatest value at JERK, a constant phase,
and back to 0. From an acceleration above the limit it is first brought down to it (R283). -/
def gain (lim j w a : Rat) : List Phase :=
  if j ≤ 0 ∨ lim ≤ 0 then []
  else if lim ≤ a then [((a - lim) / j, -j), (max 0 ((w - a * a / (2 * j)) / lim), 0), (lim / j, -j)]
  else
    let full := (2 * lim * lim - a * a) / (2 * j)
    if full ≤ w then [((lim - a) / j, j), ((w - full) / lim, 0), (lim / j, -j)]
    else
      let top := sqrtRat (max 0 (j * w + a * a / 2))
      [(max 0 ((top - a) / j), j), (top / j, -j)]

/-- The phases that change the speed by `w`, gaining at ACCEL and losing at DECEL (R281). -/
def ramp (acc dec j w a : Rat) : List Phase :=
  if (if a < 0 then -(a * a) else a * a) ≤ 2 * j * w then gain acc j w a else (gain dec j (-w) (-a)).map (fun p => (p.1, -p.2))

/-- The phases that slow from `v` and `a` to the speed `u`. Where the speed is gone before the acceleration is back at 0, it only comes
back towards 0. -/
def slowing (dec j v a u : Rat) : List Phase :=
  if j ≤ 0 ∨ dec ≤ 0 ∨ (v ≤ u ∧ 0 ≤ a) then []
  else if u = 0 ∧ a < 0 ∧ 2 * j * v ≤ a * a then [((-a - sqrtRat (a * a - 2 * j * v)) / j, j)]
  else ramp dec dec j (u - v) a

/-- The distance needed to reach rest from speed `v` and acceleration `a` at DECEL and JERK (R281, R283). -/
def stopDist (dec j v a : Rat) : Rat := distOf (slowing dec j v a 0) v a

/-- The distance needed to slow from `v` and `a` to a lower speed `u` (R281). -/
def slowDist (dec j v a u : Rat) : Rat := distOf (slowing dec j v a u) v a

/-- True where a plan by way of the speed `w` meets every bound: `bounds` lists places and the greatest speeds there (R281). -/
def viaOk (l : MotionLim) (bounds : List (Rat × Rat)) (s v a w : Rat) : Bool :=
  let d := s + distOf (ramp l.accel l.decel l.jerk (w - v) a) v a
  bounds.all (fun x => decide (w ≤ x.2) || decide (d + slowDist l.decel l.jerk w 0 x.2 ≤ x.1))

/-- The greatest speed by way of which every bound is met, by bisection to 1 (R282). -/
def peakOf (ok : Rat → Bool) : Nat → Rat → Rat → Rat
  | 0, lo, _ => lo
  | k + 1, lo, hi => if hi - lo ≤ 1 then lo else if ok ((lo + hi) / 2) then peakOf ok k ((lo + hi) / 2) hi else peakOf ok k lo ((lo + hi) / 2)

/-- The least of a list by a measure. -/
def leastRoom (f : Rat × Rat → Rat) : List (Rat × Rat) → Option (Rat × Rat)
  | [] => none
  | x :: xs => match leastRoom f xs with
    | some y => if f x ≤ f y then some x else some y
    | none => some x

/-- The speed at which the acceleration is back at 0 when it goes there at once. -/
def settled (j v a : Rat) : Rat := v + (if a < 0 then -(a * a) else a * a) / (2 * j)

/-- The phases of a plan (R281 to R283): by way of the greatest speed allowed, a cruise, and the slowing that must begin first. Where not
even the speed at which it settles can be held, or that is below the grain of the bisection, the slowing that has the least room begins at once. -/
def planPhases (l : MotionLim) (bounds : List (Rat × Rat)) (s v a : Rat) : List Phase :=
  let low := settled l.jerk v a
  let ok := viaOk l bounds s v a
  let top := if ok l.vmax then l.vmax else peakOf (fun w => decide (w ≤ low) || ok w) 40 0 l.vmax
  if max top low < 1 ∨ top ≤ low ∧ !ok low then
    match leastRoom (fun x => x.1 - s - slowDist l.decel l.jerk v a x.2) (bounds.filter (fun x => decide (x.2 < v ∨ x.2 = 0))) with
    | some x => slowing l.decel l.jerk v a x.2
    | none => ramp l.accel l.decel l.jerk (l.vmax - v) a
  else
    let top := if l.vmax < low then l.vmax else max top low
    let up := ramp l.accel l.decel l.jerk (top - v) a
    let d := s + distOf up v a
    let room (x : Rat × Rat) : Rat := x.1 - d - slowDist l.decel l.jerk top 0 x.2
    match leastRoom room (bounds.filter (fun x => decide (x.2 < top))) with
    | some x => up ++ [(max 0 (room x) / top, 0)] ++ slowing l.decel l.jerk top 0 x.2
    | none => up

/-- A state after a step, in the precision of a plan. -/
def kept (r : Rat × Rat × Rat) : Rat × Rat × Rat := (fine r.1, fine r.2.1, fine r.2.2)

/-- Brake for one step at DECEL and JERK: rest when the slowing ends (R283). -/
def brakeStep (l : MotionLim) (h s v a : Rat) : Rat × Rat × Rat :=
  let ps := slowing l.decel l.jerk v a 0
  if spanOf ps ≤ h then (fine (s + distOf ps v a), 0, 0) else kept (runPhases ps h s v a)

/-- One step towards a rest target ahead (R281, R283). A motion that would pass the target, or that comes within 1 mm and 1 mm/s of
rest on it, ends exactly on it (log 12). `ahead` lists the lower speed limits ahead with the places where they begin. -/
def motionStep (l : MotionLim) (ahead : List (Rat × Rat)) (target h s v a : Rat) : Rat × Rat × Rat :=
  let r := runPhases (planPhases l ((target, 0) :: ahead) s v a) h s v a
  if target ≤ r.1 ∨ (target - r.1 < 1 ∧ r.2.1 < 1 ∧ r.2.2 ≤ 0) then (target, 0, 0)
  else if r.2.1 < 0 then (fine r.1, 0, 0) else kept r

end Sys2Proof.Machine
end

