-- ==== Sys2Proof/Machine/Time.lean ====
section
/-!
DEFINITION. Fleet time: the servo (R88 to R100), the reference cartridge (R113 to R118), the PPS outputs (R108 to R111) and
the timebase comparators (R119, R120).
-/
namespace Sys2Proof.Machine

/-- One millisecond in 2^-16 ns. -/
def msU : Int := 65536000000

/-- One microsecond in 2^-16 ns. -/
def usU : Int := 65536000

/-- The time since the previous update, in s (R90). Of the very first update, which has none before it, it is taken as 0, so that I does not
move (DESIGN CHOICE, log 68). -/
def Dev.tau (d : Dev) : Rat :=
  match d.servo.lastAt with
  | some t => ((d.clk.now : Int) - (t : Int) : Int) * (8 / 10000000000)
  | none => 0

/-- The loop of R90 on a fed error, `tau` seconds after the previous update: the new I and r_loop. I does not advance where the clamp of r
applies. -/
def Dev.loop (d : Dev) (tau : Rat) (fed : Int) : Rat × Int :=
  let e : Rat := (fed : Rat) / 65536
  let bw : Rat := if d.nat 0x220004 = 1 then d.num 0x221002 else d.num 0x221003
  let w : Rat := 2 * circle * bw / 1000
  let zeta : Rat := (d.num 0x221004 : Rat) / 1000
  let i : Rat := d.servo.integ + w * w * tau * e
  let rOf (i : Rat) : Int := roundRat (-(2 * zeta * w * e + i) / 1000000000 * 281474976710656)
  let r := rOf i
  if r + d.servo.slewTerm < -rLimit ∨ rLimit < r + d.servo.slewTerm then (d.servo.integ, r) else (i, r)

/-- Feed the loop: r is reloaded with r_loop and the slew term, clamped (R79, R90). -/
def Dev.feed (d : Dev) (tau : Rat) (fed : Int) : Dev :=
  let res := d.loop tau fed
  let d := { d with servo := { d.servo with
    integ := res.1, rSum := d.servo.rSum + d.num 0x221102 * ((d.clk.now - d.servo.rAt : Nat) : Int)
    rAt := d.clk.now } }
  (d.setN 0x221102 res.2).reload (clampI rLimit (res.2 + d.servo.slewTerm))

/-- Three updates in a row above 1 µs lead from LOCKED back to ACQUIRING (R83). -/
def Dev.judgeLoose (d : Dev) (e : Int) : Dev :=
  let loose := if usU < e.natAbs then d.servo.looseRun + 1 else 0
  let d := { d with servo := { d.servo with looseRun := loose } }
  if d.timeState = 3 ∧ 3 ≤ loose then d.setTimeState 2 else d

/-- The lock condition of R83 after an update with phase error `e`: 30 updates below 100 ns with no slew or step pending, as chapter 04 counts
them in its example (step 13), lead from ACQUIRING to LOCKED, unless the cartridge identity is invalid or WARMUP runs (R115), or there is no
Benchmark (R160). -/
def Dev.judgeLock (d : Dev) (e : Int) : Dev :=
  let quiet := !d.bit 0x22000A 0 && !d.bit 0x22000A 1
  let lock := if e.natAbs < 6553600 ∧ quiet then d.servo.lockRun + 1 else 0
  let d := { d with servo := { d.servo with lockRun := lock } }
  if d.timeState = 2 ∧ 30 ≤ lock ∧ d.cart.idValid ∧ d.cart.heldTo ≤ d.clk.now ∧ d.nat 0x249003 ≠ 0 then d.setTimeState 3
  else d.judgeLoose e

/-- A step is confirmed (R94): the slew is abandoned, the step is the mean of the errors with the sign reversed, and its
instant is the first Closure instant at least 2 ms on with a nanosecond field of at most 480,000,000, of the crystal count in state 1 (R95). -/
def Dev.confirmStep (d : Dev) (errs : List Int) : Dev :=
  let d := d.endSlew 1
  let step : Int := -(errs.sum / errs.length)
  let t := closureInstant ((if d.timeState = 1 then d.xtalNs else d.fleetNs) + 2000000)
  let inst := (decide (d.timeState = 1), if t % 1000000000 ≤ 480000000 then t else (t / 1000000000 + 1) * 1000000000)
  let d := { d with servo := { d.servo with cands := [], stepAt := some inst, stepSize := step } }
  let ms := max (-32768) (min 32767 (step.tdiv msU))
  ((d.setBit 0x22000A 1 true).setN 0x22000B (step / 65536)).raise 33 (ofSigned 16 ms)

/-- An update of 1 ms or more: not fed, r held; a candidate for a step, which the last 2210:08 of them confirm where they agree
(R94). -/
def Dev.candidate (d : Dev) (e : Int) : Dev :=
  let n := d.nat 0x221008
  let c := (e :: d.servo.cands).take n
  let agree := c.all (fun a => c.all (fun b => decide ((a - b).natAbs ≤ usU)))
  let d := ({ d with servo := { d.servo with cands := c, lockRun := 0 } } : Dev).judgeLoose e
  if c.length = n ∧ agree then d.confirmStep c else d

/-- An update below 1 ms, `tau` seconds after the previous one: it starts a slew or is fed to the loop (R93), then the lock condition is judged
(R83). `wasFirst` says that it is the first of its source or after a return, `ret` which of the two rates then holds. -/
def Dev.smallError (d : Dev) (tau : Rat) (wasFirst ret : Bool) (e : Int) : Dev :=
  let d := { d with servo := { d.servo with cands := [], everSet := true } }
  let d := if d.timeState = 1 then d.setTimeState 2 else d
  if d.bit 0x22000A 0 then (d.feed tau (e - d.slewLeft)).judgeLock e
  else if wasFirst ∨ usU ≤ e.natAbs then
    let r := wasFirst && ret
    let d := if r ∧ d.timeState = 3 then d.setTimeState 2 else d
    ((d.startSlew e r).feed tau 0).judgeLock e
  else (d.feed tau e).judgeLock e

/-- The UTC offset of the active source (R86, R104, R105): a change raises event source 42. -/
def Dev.setUtc (d : Dev) (utc : Int) : Dev :=
  let d := { d with servo := { d.servo with utcSeen := true } }
  if d.num 0x220009 = utc then d else (d.setN 0x220009 utc).raise 42 0

/-- A source delivers an update with its phase error in 2^-16 ns, and TAI − UTC where it comes with it (R88): the servo takes it at the SERVO_UPDATE
that follows. -/
def Dev.offerTime (d : Dev) (src : Nat) (e : Int) (utc : Option Int) : Dev :=
  { d with servo := { d.servo with due := tabPut d.servo.due src (e, utc) } }

/-- The time in ticks after which a source without updates is invalid (R89): 2 s for GNSS, 4 Sync intervals for PTP. -/
def Dev.sourceGap (d : Dev) (src : Nat) : Nat :=
  if src = 1 then 2 * secT
  else
    let l := (d.ptp (if src = 2 then 0 else 1)).syncLog
    4 * (if 0 ≤ l then secT * 2 ^ l.toNat else secT / 2 ^ l.natAbs)

/-- The unbroken run of a source's usable updates goes on, or a new one begins (R89): a gap that makes a source invalid breaks it. -/
def Dev.keepRun (d : Dev) (src : Nat) : Dev :=
  let r : Nat × Nat := match tabGet d.servo.runs src with
    | some (a, b) => if d.clk.now < b + d.sourceGap src then (a, d.clk.now) else (d.clk.now, d.clk.now)
    | none => (d.clk.now, d.clk.now)
  { d with servo := { d.servo with runs := tabPut d.servo.runs src r, gnssAt := if src = 1 then d.clk.now else d.servo.gnssAt } }

/-- The run of a source's usable updates breaks off (R89, R165). -/
def Dev.breakRun (d : Dev) (src : Nat) : Dev := { d with servo := { d.servo with runs := tabDel d.servo.runs src } }

/-- A source may deliver updates: GNSS, or a PTP port in state SLAVE (R88). -/
def Dev.delivers (d : Dev) (src : Nat) : Bool :=
  decide (src = 1) || (decide (src = 2 ∨ src = 3) && decide (d.nat (0x222200 + src) = 9))

/-- The update that a time source has delivered is taken (R88 to R95). A source not valid since the island started becomes valid at its first
usable update (R89); only the active source steers. Updates between a confirmed step and its instant are neither fed nor counted (R95). -/
def servoUpdate (src : Nat) (d : Dev) : Dev :=
  match tabGet d.servo.due src with
  | none => d
  | some (e, utc) =>
    let d : Dev := { d with servo := { d.servo with due := tabDel d.servo.due src } }
    if d.timeState = 0 ∨ !d.delivers src then d
    else
      let d := d.keepRun src
      let d := if d.bit 0x221104 src ∨ d.servo.everValid.testBit src then d else d.validate src
      if d.nat 0x220004 ≠ src then d
      else
        let ps := e * 1000 / 65536
        let d := d.setN 0x22000C (max (-2147483648) (min 2147483647 ps))
        let d := match utc with
          | some u => d.setUtc u
          | none => d
        let d := d.used.setN 0x220005 (if d.timeState ≤ 1 then 0xFFFFFFFF else (d.freeN % 0xFFFFFFFF : Nat))
        let tau := d.tau
        let first := d.servo.first
        let ret := d.servo.returning
        let d : Dev := { d with servo := { d.servo with lastAt := some d.clk.now, first := false, returning := false } }
        if d.servo.stepAt ≠ none then d
        else if msU ≤ e.natAbs then d.candidate e
        else d.smallError tau first ret e

def execServoUpdate (dt : Nat) (src : Nat) (s : State) : Out := onDev s dt (servoUpdate src)

/-- The slew remaining is absorbed (R93). -/
def slewEnd (d : Dev) : Dev := d.when (decide (d.slewLeft = 0)) (fun d => d.endSlew 0)

def execSlewEnd (dt : Nat) (s : State) : Out := onDev s dt slewEnd

/-- Re-base every pending time by a step in ns (R96): targets of armed comparators and timed actions, EARLIEST and
DEADLINE of tasks, the departures of grants, and the instant of a commit that waits for one of fleet time. Holds, timers and deadlines stand on the engine scale, which the step leaves alone. -/
def Dev.rebase (d : Dev) (ns : Int) : Dev :=
  let d := (List.range 15).foldl (fun (d : Dev) n =>
    if d.bit ((0x2280 + n) * 256 + 7) 0 then d.setN ((0x2280 + n) * 256 + 2) (max 0 (d.num ((0x2280 + n) * 256 + 2) + ns)) else d) d
  let d := d.shiftActions ns
  let move (t : Nat) : Nat := if t = 0 then 0 else ((t : Int) + ns).toNat
  let task (t : Task) : Task := { t with earliest := move t.earliest, deadline := move t.deadline }
  let grant (g : GrantRec) : GrantRec := { g with depart := move g.depart }
  let path (p : Path) : Path := { p with grants := p.grants.map grant }
  let car (c : Vehicle) : Vehicle := { c with path := c.path.map path }
  let d : Dev := { d with tasks := d.tasks.map (fun x => (x.1, task x.2)), cars := d.cars.map (fun x => (x.1, car x.2)) }
  { d with cs := { d.cs with instant := d.cs.instant.map (fun t => if t.1 then t else (false, ((t.2 : Int) + ns).toNat)) } }

/-- A pending step is applied at its instant (R95, R96): O takes the step, B and r stay, the count and the records of the
step are written, the scales keep running by a change of their offset, the receiver's offset c moves with TIME (R190), and event source 34 is
raised. -/
def stepApply (d : Dev) : Dev :=
  match d.servo.stepAt with
  | none => d
  | some _ =>
    let st := d.servo.stepSize
    let count := (d.nat 0x220006 + 1) % 2 ^ 32
    let d := { d with
      clk := { d.clk with off := d.clk.off + st, engOff := d.clk.engOff - st, reloads := (d.clk.reloads + 1) % 2 ^ 32 }
      servo := { d.servo with stepAt := none, stepSize := 0, everSet := true, due := [], stepTick := d.clk.tick }
      eng_ := { d.eng_ with gnssC := d.eng_.gnssC + st / 65536 } }
    let d := (d.setN 0x220006 (count : Nat)).setN 0x220008 (st / 65536)
    let d := ((d.setBit 0x22000A 1 false).setN 0x22000B 0).rebase (st / 65536)
    let d := if d.timeState = 1 then d.setTimeState 2 else d
    let d := d.setN 0x220007 (d.fleetNs : Nat)
    let note (p : Pps) : Pps := { p with stepped := true, nextSec := none, stepNote := some d.fleet }
    ({ d with pps0 := note d.pps0, pps1 := note d.pps1 }).raise 34 (count % 65536)

def execStepApply (dt : Nat) (s : State) : Out := onDev s dt stepApply

/-- The EFC offload period 2210:0D ends in state 2 or 3 (R91): the mean loop rate moves into the EFC code, within 10^-9 a period
and within 0 to 1,048,575; what moved leaves r_loop and enters I. -/
def efcOffload (d : Dev) : Dev :=
  d.when (decide (d.timeState = 2 ∨ d.timeState = 3) && decide (d.servo.rFrom + d.nat 0x22100D * secT ≤ d.clk.now)) (fun d =>
    let sum : Int := d.servo.rSum + d.num 0x221102 * ((d.clk.now - d.servo.rAt : Nat) : Int)
    let mean : Rat := (sum : Rat) / ((d.clk.now - d.servo.rFrom : Nat) : Rat) / 281474976710656
    let delta : Rat := max (-1 / 1000000000) (min (1 / 1000000000) mean)
    let gain : Rat := (d.cart.efcGain : Rat) / 1000000000000000000
    let code := d.num 0x221101
    let want := if gain = 0 then code else code + roundRat (delta / gain)
    let got := max 0 (min 1048575 want)
    let moved : Rat := ((got - code : Int) : Rat) * gain
    let rl := d.num 0x221102 - roundRat (moved * 281474976710656)
    let week := d.clk.now - 7 * 86400 * secT
    let codes := if d.timeState = 3 then (d.servo.codes ++ [(d.clk.now, got)]).filter (fun c => decide (week ≤ c.1)) else d.servo.codes
    let d := { d with servo := { d.servo with integ := d.servo.integ + moved * 1000000000, codes := codes } }
    let d := d.offloadAfresh
    let d := ((d.setN 0x221101 got).setN 0x221102 rl).reload (clampI rLimit (rl + d.servo.slewTerm))
    (d.emit .efcCode [] [got]).raiseIf (decide (got ≠ want)) 43 0)

def execEfcOffload (dt : Nat) (s : State) : Out := onDev s dt efcOffload

/-- The instant from which a source's silence counts: its last usable update for GNSS, the last Sync from the parent for PTP (R89). -/
def Dev.lastHeard (d : Dev) (src : Nat) : Nat :=
  if src = 1 then d.servo.gnssAt else (d.ptp (if src = 2 then 0 else 1)).syncAt

/-- A source misses its updates (R89): 2 s without a usable one for GNSS, 4 Syncs in a row for PTP. -/
def sourceTimeout (src : Nat) (d : Dev) : Dev :=
  d.when (decide (1 ≤ src ∧ src ≤ 3) && decide (d.lastHeard src + d.sourceGap src ≤ d.clk.now)) (fun d => (d.breakRun src).invalidate src)

def execSourceTimeout (dt : Nat) (src : Nat) (s : State) : Out := onDev s dt (sourceTimeout src)

/-- The unbroken run of a source's usable updates has lasted the holdoff 2210:07 (R89, R165), and the source has not fallen silent. -/
def Dev.ranHoldoff (d : Dev) (src : Nat) : Bool :=
  match tabGet d.servo.runs src with
  | some (a, b) => decide (a + d.nat 0x221007 * secT ≤ d.clk.now) && decide (d.clk.now < b + d.sourceGap src)
  | none => false

/-- A formerly valid source has delivered updates for the holdoff 2210:07 (R89). -/
def sourceHoldoffExpiry (src : Nat) (d : Dev) : Dev :=
  d.when (decide (1 ≤ src ∧ src ≤ 3 ∧ d.timeState ≠ 0) && d.servo.everValid.testBit src && !d.bit 0x221104 src && d.ranHoldoff src)
    (fun d => d.validate src)

def execSourceHoldoffExpiry (dt : Nat) (src : Nat) (s : State) : Out := onDev s dt (sourceHoldoffExpiry src)

/-- The holdover error estimate exceeds 2210:0C, as it stands now (R98). -/
def holdoverDegrade (d : Dev) : Dev :=
  d.when (decide (d.timeState = 4) && decide (d.nat 0x22100C < d.estError)) (fun d => (d.setTimeState 5).raise 39 0)

def execHoldoverDegrade (dt : Nat) (s : State) : Out := onDev s dt holdoverDegrade

/-- True for a valid identity record of R114: MAGIC, FORMAT, CLASS and CRC (R115). -/
def identityOk (b : List Byte) : Bool :=
  decide (fieldN b 0 2 = 0x4B43 ∧ fieldN b 2 1 = 1 ∧ fieldN b 3 1 = 1 ∧ fieldN b 28 4 = crc32c (b.take 28) ∧ 32 ≤ b.length)

/-- The current life record of R116 in an EEPROM image: slot, SEQ, OP_MINUTES, AGING, POWER_CYCLES. -/
def lifeRecord (img : List Byte) : Option (Nat × Nat × Nat × Int × Nat) :=
  let one (slot : Nat) : Option (Nat × Nat × Nat × Int × Nat) :=
    let b := (img.drop (0x20 + 16 * slot)).take 16
    if b.length = 16 ∧ fieldN b 12 4 = crc32c (b.take 12) then
      some (slot, fieldN b 0 4, fieldN b 4 4, fieldI b 8 2, fieldN b 10 2)
    else none
  match one 0, one 1 with
  | some a, some b => if a.2.1 < b.2.1 then some b else some a
  | some a, none => some a
  | none, b => b

/-- Put the life figures into 2260:03 to 2260:06 (R118). -/
def Dev.showLife (d : Dev) (aging : Int) (cycles : Nat) : Dev :=
  let rated := fieldN (d.oct 0x226002) 16 4 * 60
  let used := if rated = 0 then 0 else min 65535 (d.cart.opMinutes * 1000 / rated)
  (((d.setN 0x226003 (d.cart.opMinutes / 60 : Nat)).setN 0x226004 (used : Nat)).setN 0x226005 aging).setN 0x226006 (cycles : Nat)

/-- The state of the cartridge once nothing holds it: 2 running, 4 on default identity (R118). -/
def Dev.cartRunning (d : Dev) : Nat := if d.cart.idValid then 2 else 4

/-- A failure condition of R113 holds: CART_PRES_N is high, the 10 MHz input has been missing for 10 µs or more, or the last window of 10 ms
counted more than 100 ppm from its nominal 100,000 cycles. -/
def cartFails (seated : Bool) (missingNs count : Nat) : Bool :=
  !seated || decide (10000 ≤ missingNs) || decide (10 < ((count : Int) - 100000).natAbs)

/-- What the cartridge's pins show (R113, R118). A failure raises event source 45, sends fleet time to state 0 and stops the clock of islands 3
and 4 (R11, R84). The end of every failure condition begins the second after which the cartridge is valid. -/
def cartridgeFail (seated : Bool) (missingNs count : Nat) (d : Dev) : Dev :=
  if cartFails seated missingNs count then
    let was := d.cart.clockOk || d.cart.goodAt.isSome
    let d : Dev := { d with cart := { d.cart with
      present := seated, clockOk := false, goodAt := none, warming := false
      inserted := d.cart.inserted || !seated, counted := d.cart.counted && seated } }
    let d := d.setN 0x226001 (if seated then 3 else 0)
    if was then
      let d := if d.up 3 then d.setN 0x202003 0 else d
      let d := if d.up 4 then d.setN 0x202004 0 else d
      (d.setTimeState 0).raise 45 0
    else d
  else if d.cart.goodAt.isSome then d
  else
    let d : Dev := { d with cart := { d.cart with present := true, goodAt := some d.clk.now } }
    d.setN 0x226001 1

/-- The cartridge has met no failure condition for 1 s (R84, R113 to R118): event source 44 after an insertion; the identity and the life log
are read from the EEPROM image; an invalid one raises 46. WARMUP counts from the first instant without a failure condition, and its hold in
ACQUIRING begins with an insertion or a power-on alone; with an invalid identity, for which R115 names none, it is 0 (DESIGN CHOICE, log 69).
The timebase island may then start. -/
def cartridgeValid (image : List Byte) (d : Dev) : Dev :=
  let from_ := d.cart.goodAt.getD (d.clk.now - secT)
  if d.cart.clockOk ∨ d.clk.now < from_ + secT then d
  else
    let ok := identityOk image
    let life := lifeRecord image
    let warm := if ok then fieldN image 14 2 else 0
    let lf := life.getD (1, 0, 0, 0, 0)
    let c := d.cart
    let cycles := if c.counted then d.nat 0x226006 else min 65535 (lf.2.2.2.2 + 1)
    let minutes := if c.counted then c.opMinutes else lf.2.2.1
    let aging := if c.counted then d.num 0x226005 else lf.2.2.2.1
    let d := { d with cart :=
      { present := true, clockOk := true, goodAt := some from_, inserted := false, counted := true, idValid := ok
        warming := decide (d.clk.now < from_ + warm * secT), warmup := warm, heldTo := if c.counted then c.heldTo else from_ + warm * secT
        lifeAt := d.clk.now, efcGain := if ok then fieldN image 20 4 else 190000
        image := image, lifeSeq := lf.2.1, opMinutes := minutes, lifeSlot := lf.1 } }
    let d := d.setO 0x226002 ((image ++ zeros 32).take 32)
    let d := d.showLife aging cycles
    let d := d.setN 0x221101 (if ok then (fieldN image 24 3 % 1048576 : Nat) else 524288)
    let d := d.setN 0x226001 (if d.cart.warming then 1 else d.cartRunning)
    (d.raiseIf c.inserted 44 0).raiseIf (!ok || life.isNone) 46 0

/-- WARMUP seconds have passed (R115, R118). -/
def warmupEnd (d : Dev) : Dev :=
  d.when (d.cart.clockOk && d.cart.warming && decide (d.cart.goodAt.getD 0 + d.cart.warmup * secT ≤ d.clk.now)) (fun d =>
    let d := { d with cart := { d.cart with warming := false } }
    d.setN 0x226001 d.cartRunning)

/-- Warm-up remaining in s (2260:07). -/
def Dev.warmLeft (d : Dev) : Nat :=
  if d.cart.warming then (d.cart.goodAt.getD 0 + d.cart.warmup * secT - d.clk.now) / secT else 0

/-- The aging that the EFC trend of the last 7 days in state 3 gives, in 10^-13 per day (R116, R117): against the slope of a least-squares line
through the codes, times the gain; none with fewer than two codes. R117 names no method (DESIGN CHOICE, log 70). -/
def Dev.efcTrend (d : Dev) : Option Int :=
  let l := d.servo.codes
  let t0 : Int := ((l.head?).map (fun c => (c.1 : Int))).getD 0
  let n : Int := l.length
  let sum (f : Nat × Int → Int) : Int := (l.map f).sum
  let st := sum (fun c => (c.1 : Int) - t0)
  let sc := sum (fun c => c.2)
  let den := n * sum (fun c => ((c.1 : Int) - t0) * ((c.1 : Int) - t0)) - st * st
  let top := n * sum (fun c => ((c.1 : Int) - t0) * c.2) - st * sc
  if den = 0 then none
  else some (max (-32768) (min 32767 (roundRat (-((top : Rat) / den) * d.cart.efcGain * 86400 * secT / 100000))))

/-- The older life record slot is written with SEQ plus 1 (R116, R117). A failed write raises 49; 47 and 48 mark 90 % and 100 % of the rated life
when first reached. RATED_LIFE is that of the identity as read, valid or not (DESIGN CHOICE, log 69). -/
def Dev.writeLife (d : Dev) (written : Bool) (minutes : Nat) : Dev :=
  d.when d.cart.clockOk (fun d =>
    let aging := d.efcTrend.getD (d.num 0x226005)
    let before := d.cart.opMinutes
    let after := before + minutes
    let rated := fieldN (d.oct 0x226002) 16 4 * 60
    let cycles := d.nat 0x226006
    let seq := (d.cart.lifeSeq + 1) % 2 ^ 32
    let body := leBytes 4 seq ++ leBytes 4 after ++ leBytes 2 (ofSigned 16 aging) ++ leBytes 2 cycles
    let rec_ := body ++ leBytes 4 (crc32c body)
    let slot := 1 - d.cart.lifeSlot
    let d := { d with cart := { d.cart with opMinutes := after, lifeAt := d.clk.now } }
    let d := if written then
        ({ d with cart := { d.cart with lifeSeq := seq, lifeSlot := slot } }).emit .eepromWrite [0x20 + 16 * slot]
          (rec_.map (fun (x : Byte) => (x.toNat : Int)))
      else d.raise 49 0
    let d := d.showLife aging cycles
    let d := d.raiseIf (decide (0 < rated ∧ before * 10 < rated * 9 ∧ rated * 9 ≤ after * 10)) 47 0
    d.raiseIf (decide (0 < rated ∧ before < rated ∧ rated ≤ after)) 48 0)

/-- 60 operating minutes have passed since the last record (R117). -/
def lifeRecordWrite (written : Bool) (d : Dev) : Dev :=
  d.when (decide (d.cart.lifeAt + 3600 * secT ≤ d.clk.now)) (fun d => d.writeLife written 60)

/-- The life record on entry to Hibernate, with the whole minutes since the last (R117). Whether the EEPROM takes it is a free value. -/
def Dev.lastLife (d : Dev) : Dev := (d.used).writeLife d.freeB ((d.clk.now - d.cart.lifeAt) / (60 * secT))

def execCartridgeValid (dt : Nat) (image : List Byte) (s : State) : Out := onDev s dt (cartridgeValid image)
def execWarmupEnd (dt : Nat) (s : State) : Out := onDev s dt warmupEnd
def execLifeRecordWrite (dt : Nat) (written : Bool) (s : State) : Out := onDev s dt (lifeRecordWrite written)

/-- A setting of PPS output `p` (R109). -/
def ppsSet (p : Fin 2) (sub : Nat) : Key := (0x2240 + p.val) * 256 + sub

/-- True where an output gives pulses now (R82, R84, R109): enabled, not held low by a drill (R501), and in state 1 only where 2240:05 asks for it. -/
def Dev.ppsOn (d : Dev) (p : Fin 2) : Bool :=
  d.flag (ppsSet p 1) && !d.quiet && decide (d.timeState ≠ 0) && (decide (d.timeState ≠ 1) || d.flag (ppsSet p 5))

/-- The intended instant of a pulse in 2^-16 ns: the whole second plus the output delay (R108). -/
def Dev.ppsTarget (d : Dev) (p : Fin 2) (sec : Nat) : Int := (sec : Int) * secU + d.num (ppsSet p 4) * 65536 / 10

/-- The quantisation error in ps of a pulse placed at the tick nearest its intended instant under the terms in force (R108). -/
def Dev.qerr (d : Dev) (target : Int) : Int :=
  let gap := target - d.fleet
  let n := (gap * 10737418240 + (281474976710656 + d.clk.rate)) / (2 * (281474976710656 + d.clk.rate))
  (d.clk.at ((d.clk.tick + n).toNat) - target) * 1000 / 65536

/-- The pulse message of R110 as bytes, its CRC over bytes 0 to 27. -/
def Dev.ppsBytes (d : Dev) (p : Fin 2) (target qerr : Int) (stepped : Bool) : List Byte :=
  let st := d.timeState
  let fl := (if st = 3 then 1 else 0) + (if st = 4 ∨ st = 5 then 2 else 0) + (if st = 5 then 4 else 0)
    + (if stepped then 8 else 0) + (if d.bit 0x22000A 0 then 16 else 0) + (if st = 1 then 32 else 0)
  let b := leBytes 2 0x5450 ++ leBytes 1 1 ++ leBytes 1 p.val ++ time80Bytes ((target / 65536).toNat)
    ++ leBytes 2 (ofSigned 16 qerr) ++ leBytes 1 st ++ leBytes 1 fl ++ leBytes 2 0
    ++ leBytes 4 d.estError ++ leBytes 4 (d.nat 0x220006)
  b ++ leBytes 4 (crc32c b)

/-- 500 ms before a pulse its message is completed, stored in 2242 and sent from UDP port 30,513 (R110). -/
def ppsMessage (p : Fin 2) (d : Dev) : Dev :=
  d.when (d.ppsOn p) (fun d =>
    let u := d.fleet + secU / 2 - d.num (ppsSet p 4) * 65536 / 10
    let sec := ((u + secU / 2) / secU).toNat
    let target := d.ppsTarget p sec
    let q := d.qerr target
    let b := d.ppsBytes p target q (d.pps p).stepped
    let d := d.setPps p { d.pps p with nextSec := some sec, qerr := q }
    let d := d.setO (0x224201 + p.val) b
    if d.nat (ppsSet p 7) = 0 then d
    else d.emit .ppsMessage [leNat (d.oct (ppsSet p 6)), d.nat (ppsSet p 7), 30513] (b.map (fun x => (x.toNat : Int))))

/-- The pulse message of 2242 with the actual error of its pulse (R108): QERR, RELOADED where that error is another than the one sent, and the
CRC change; the rest stands as completed. -/
def actualError (b : List Byte) (sent actual : Int) : List Byte :=
  let flags := (b[17]?).getD 0 ||| (if actual = sent then 0 else 64)
  let body := b.take 14 ++ leBytes 2 (ofSigned 16 actual) ++ (b.drop 16).take 1 ++ [flags] ++ (b.drop 18).take 10
  body ++ leBytes 4 (crc32c body)

/-- A whole second of an output (R108, R111): the pulse is given where its message is complete, and 2242 takes its actual
error; a second after a step for which no pulse is due is skipped and raises event source 50. -/
def ppsPulse (p : Fin 2) (d : Dev) : Dev :=
  d.when (d.ppsOn p) (fun d =>
    let x := d.pps p
    match x.nextSec with
    | none => d.raiseIf x.stepped 50 p.val
    | some sec =>
      let target := d.ppsTarget p sec
      let q := d.qerr target
      let d := d.setPps p { x with lastEdge := some target, nextSec := none, stepped := false, stepNote := none }
      (d.setO (0x224201 + p.val) (actualError (d.oct (0x224201 + p.val)) x.qerr q)).emit .ppsPulse [p.val]
        [sec, d.num (ppsSet p 2), d.num (ppsSet p 3), q])

def execPpsMessage (dt : Nat) (out : Fin 2) (s : State) : Out := onDev s dt (ppsMessage out)
def execPpsPulse (dt : Nat) (out : Fin 2) (s : State) : Out := onDev s dt (ppsPulse out)

/-- Entry `sub` of comparator `n` (R119). -/
def cmpKey (n sub : Nat) : Key := (0x2280 + n) * 256 + sub

/-- Set or clear the late mark of a comparator (R120). -/
def Dev.setLate (d : Dev) (n : Nat) (on : Bool) : Dev :=
  let c := d.cmpLate
  { d with cmpLate := if on then c ||| 2 ^ n else if c.testBit n then c - 2 ^ n else c }

/-- A write of 2280:02 sets the target and arms the comparator (R119, R120). With mode 0, in state 0, or for a target
already passed under late policy 1, the arm is rejected: the comparator stays disarmed, status bit 2 sets and event source
66 is raised. A passed target under policy 0 fires at the next tick, flagged late. An Arm rejected while the comparator is armed disarms it, and the
target written stands in 2280:02: R120 speaks only of one that stays disarmed (DESIGN CHOICE, log 71). -/
def armComparator (n : Nat) (v : DVal) (d : Dev) : Dev × Nat :=
  let t := v.int
  let passed := decide (t * 65536 < d.fleet)
  let d := d.setN (cmpKey n 2) t
  if d.nat (cmpKey n 1) = 0 ∨ d.timeState = 0 ∨ (passed ∧ d.nat (cmpKey n 6) = 1) then
    (((d.setBit (cmpKey n 7) 0 false).setBit (cmpKey n 7) 2 true).raise 66 n, 0)
  else (((d.setBit (cmpKey n 7) 0 true).setBit (cmpKey n 7) 2 false).setLate n passed, 0)

/-- The next target of a periodic comparator: target plus period, moved on by whole periods to the first future instant (R120). -/
def nextTarget (target period now : Nat) : Nat :=
  if period = 0 then target
  else if now < target + period then target + period
  else target + ((now - target) / period + 1) * period

def execComparatorArm (dt : Nat) (q : Req) (n : Fin 15) (data : List Byte) (s : State) : Out :=
  onDev s dt (fun d => d.command q (0x2280 + n.val) 2 data (armComparator n.val))

end Sys2Proof.Machine
end

