-- ==== Sys2Proof/Machine/Whiteout.lean ====
section
/-!
DEFINITION. Whiteout: stop inputs and outputs, the stop, clear and keep-alive commands, the supervisor watchdog and the
resume input (R295 to R324). The telegram flood is in Machine/Frames.lean.
-/
namespace Sys2Proof.Machine

/-- An auction round is asked for (R272, R317). -/
def Dev.askRound (d : Dev) : Dev := { d with rounds := { d.rounds with due := true } }

/-- The level at which a channel is taken: while it is masked, the level it had before its pulse (R301). -/
def Dev.channel (d : Dev) (ch : Nat) : Bool :=
  let end_ := if ch % 2 = 0 then d.wo.maskA else d.wo.maskB
  if d.bit 0x381005 (ch / 2) ∧ d.clk.now < end_ then d.wo.before.testBit ch else d.bit 0x380107 ch

/-- The pins of 3801:07 are sampled: channels, RESUME_N and read-back inputs. -/
def Dev.samplePins (d : Dev) (levels : Nat) : Dev :=
  let d := d.setN 0x380107 (levels % 128 : Nat)
  if (List.range 4).all (fun c => d.channel c) then d else { d with wo := { d.wo with highAt := d.clk.now } }

/-- The pins are sampled, and every channel has been high for a time that the device measures. -/
def Dev.sampleHigh (d : Dev) (levels highUs : Nat) : Dev :=
  let d := d.samplePins levels
  if (List.range 4).all (fun c => d.channel c) then { d with wo := { d.wo with highAt := d.clk.now - highUs * usT } } else d

/-- A stop source of the peripheral island at a level set by an entry. -/
def Dev.source (d : Dev) (cause : Nat) (k : Key) : Dev := d.woAct cause (d.nat k)

/-- A channel of a stop input has been low without a break for a time; at the filter time 3810:03 the input acts (R299). The measurement of R305
starts from the edge; `fbTenths` is what it finds for the read-back inputs, in 0.1 µs. -/
def stopInputAct (n : Nat) (levels us : Nat) (fb : Option Nat) (d : Dev) : Dev :=
  d.when (d.up 10) (fun d =>
    let d := d.samplePins levels
    if d.channel (2 * n) && d.channel (2 * n + 1) || decide (us < d.nat 0x381003) then d
    else
      let fresh := !d.stopped
      let d := d.source (n + 1) (0x381001 + n)
      if fresh then
        let d := { d with wo := { d.wo with refAt := some (d.clk.now - us * usT), refP := d.nat 0x341001 } }
        match fb with
        | some t =>
          if !d.stopOut 0 && !d.stopOut 1 then
            let d := (d.setN 0x380109 (min t 65535 : Nat)).raiseIf (decide (1000 < t)) 330 1
            if 1000 < t then { d with wo := { d.wo with reported := d.wo.reported ||| 1 } } else d
          else d
        | none => d
      else d)

def execStopInputAct (dt : Nat) (input : Fin 2) (levels us : Nat) (fbTenths : Option Nat) (s : State) : Out :=
  onDev s dt (stopInputAct input.val levels us fbTenths)

/-- The channels of an input have differed for a time, longer than 3810:04 for a discrepancy (R300). -/
def stopInputDiscrepancy (n levels ms : Nat) (d : Dev) : Dev :=
  d.when (d.up 10) (fun d =>
    let d := d.samplePins levels
    if d.channel (2 * n) = d.channel (2 * n + 1) ∨ d.bit 0x380108 n ∨ ms ≤ d.nat 0x381004 then d
    else ((d.setBit 0x380108 n true).raise 325 n).source 5 0x38100A)

def execStopInputDiscrepancy (dt : Nat) (input : Fin 2) (levels ms : Nat) (s : State) : Out :=
  onDev s dt (stopInputDiscrepancy input.val levels ms)

/-- Both channels of a faulted input have been seen low together and then high together (R300, R301). -/
def stopInputFaultClear (n levels : Nat) (d : Dev) : Dev :=
  d.when (d.up 10) (fun d =>
    let d := d.samplePins levels
    if (d.bit 0x380108 n || d.bit 0x380108 (n + 2)) && d.channel (2 * n) && d.channel (2 * n + 1) then
      (((d.setBit 0x380108 n false).setBit 0x380108 (n + 2) false).raise 329 n)
    else d)

def execStopInputFaultClear (dt : Nat) (input : Fin 2) (levels : Nat) (s : State) : Out :=
  onDev s dt (stopInputFaultClear input.val levels)

/-- True where a test line is due its pulse (R301): 50 ms after its own last one, and 25 ms after that of the other line. A mask ends
150 µs after the start of its pulse. -/
def Dev.pulseDue (d : Dev) (line : Nat) : Bool :=
  let after (mask ms : Nat) : Bool := decide (mask = 0 ∨ mask + ms * msT ≤ d.clk.now + 150 * usT)
  if line = 0 then after d.wo.maskA 50 && after d.wo.maskB 25 else after d.wo.maskB 50 && after d.wo.maskA 25

/-- A test pulse begins on a test line (R301): its channels are masked for 100 µs and for 50 µs after. -/
def inputTestPulse (line : Nat) (d : Dev) : Dev :=
  d.when (d.up 10 && decide (d.nat 0x381005 % 4 ≠ 0) && d.pulseDue line) (fun d =>
    let end_ := d.clk.now + 150 * usT
    let before := (List.range 4).foldl (fun m c => if d.channel c then m ||| 2 ^ c else m) 0
    let d := { d with wo := { d.wo with before := before } }
    let d := if line = 0 then { d with wo := { d.wo with maskA := end_ } } else { d with wo := { d.wo with maskB := end_ } }
    d.emit .testLine [line] [100])

def execInputTestPulse (dt : Nat) (line : Fin 2) (s : State) : Out := onDev s dt (inputTestPulse line.val)

/-- 30 µs into a pulse, a channel under test that is not low latches a test pulse fault (R301). -/
def testPulseCheck (line levels : Nat) (d : Dev) : Dev :=
  let one (d : Dev) (n : Nat) : Dev :=
    if d.bit 0x381005 n && levels.testBit (2 * n + line) && !d.bit 0x380108 (n + 2) then
      ((d.setBit 0x380108 (n + 2) true).raise 326 (n * 2 + line)).source 5 0x38100A
    else d
  d.when (d.up 10 && decide (d.clk.now < (if line = 0 then d.wo.maskA else d.wo.maskB))) (fun d => one (one d 0) 1)

def execTestPulseCheck (dt : Nat) (line : Fin 2) (levels : Nat) (s : State) : Out :=
  onDev s dt (testPulseCheck line.val levels)

/-- True while an output fault is latched. -/
def Dev.outFault (d : Dev) : Bool := d.bit 0x380108 4 || d.bit 0x380108 5

/-- An output fault is found (R311): it is latched, de-energises both outputs, raises 327 and acts with cause 6. While it is latched a
read-back that does not follow starts the count of its good test instants anew. -/
def Dev.outFaultFound (d : Dev) (n : Nat) : Dev :=
  if d.bit 0x380108 (n + 4) then
    if n = 0 then { d with wo := { d.wo with good0 := 0 } } else { d with wo := { d.wo with good1 := 0 } }
  else
    let d := { d with wo := { d.wo with tests0 := 0, tests1 := 0, good0 := 0, good1 := 0 } }
    ((d.setBit 0x380108 (n + 4) true).raise 327 n).source 6 0x38100A

/-- True where an output is due a test instant (R311): once every test period, which is 1 s where 3810:08 is 0, and output 1 half a
period after output 0. -/
def Dev.testDue (d : Dev) (n : Nat) : Bool :=
  let period := (if d.nat 0x381008 = 0 then 1000 else d.nat 0x381008) * msT
  let after (t : Option Nat) (x : Nat) (first : Bool) : Bool := match t with
    | some t => decide (t + x ≤ d.clk.now)
    | none => first
  if n = 0 then after d.wo.testAt0 period true else after d.wo.testAt1 period true && after d.wo.testAt0 (period / 2) false

/-- A test instant of an output (R311): an energised output is driven low for the test width, a de-energised one only read
back. Instants since a fault, and how many of the last followed, are counted for its clearing; a read-back that did not follow is
an output fault. -/
def outputTest (n : Nat) (ok : Bool) (d : Dev) : Dev :=
  d.when (d.up 10 && (decide (d.nat 0x381008 ≠ 0) || d.outFault) && d.testDue n) (fun d =>
    let d := if d.stopOut n then d.emit .outputTest [n] [d.num 0x381009] else d
    let w := d.wo
    let now := some d.clk.now
    let d : Dev := { d with wo :=
      if n = 0 then { w with tests0 := w.tests0 + 1, good0 := w.good0 + 1, testAt0 := now }
      else { w with tests1 := w.tests1 + 1, good1 := w.good1 + 1, testAt1 := now } }
    if ok then d else d.outFaultFound n)

def execOutputTest (dt : Nat) (out : Fin 2) (followed : Bool) (s : State) : Out := onDev s dt (outputTest out.val followed)

/-- The level to which an output is driven now: high while it is energised, outside its test pulses (R310, R311). -/
def Dev.driven (d : Dev) (n : Nat) : Bool :=
  d.stopOut n && (match if n = 0 then d.wo.testAt0 else d.wo.testAt1 with
    | some t => decide (t + d.nat 0x381009 * usT ≤ d.clk.now)
    | none => true)

/-- The read-backs show a level for a time: one that differs from its drive for more than 20 µs is an output fault (R311). -/
def outputReadbackFault (n levels us : Nat) (d : Dev) : Dev :=
  d.when (d.up 10) (fun d =>
    let d := d.samplePins levels
    if d.bit 0x380107 (5 + n) = d.driven n ∨ us ≤ 20 then d else d.outFaultFound n)

def execOutputReadbackFault (dt : Nat) (out : Fin 2) (levels us : Nat) (s : State) : Out :=
  onDev s dt (outputReadbackFault out.val levels us)

/-- 3800:01: a stop with cause 3 at the level written (R314). -/
def stopCommand (v : DVal) (d : Dev) : Dev × Nat := (d.woAct 3 v.int.toNat, 0)

def execStopCommand (dt : Nat) (q : Req) (data : List Byte) (s : State) : Out :=
  onDev s dt (fun d => d.command q 0x3800 1 data stopCommand)

/-- Output faults that clear with the stop: at least five test instants of each output since the fault, and the last five of
each followed (R311). -/
def Dev.outFaultClears (d : Dev) : Bool :=
  decide (5 ≤ d.wo.tests0 ∧ 5 ≤ d.wo.tests1 ∧ 5 ≤ d.wo.good0 ∧ 5 ≤ d.wo.good1)

/-- Condition 2 of R315: every channel is high and has been for the filter time. -/
def Dev.channelsHigh (d : Dev) : Bool :=
  (List.range 4).all (fun c => d.channel c) && decide (d.wo.highAt + d.nat 0x381003 * usT ≤ d.clk.now)

/-- Condition 3 of R315: no fault is latched, after the clearing of output faults. -/
def Dev.noStopFault (d : Dev) : Bool :=
  decide (d.nat 0x380108 % 16 = 0) && (!d.outFault || d.outFaultClears)

/-- The instant at which a stop is cleared (R317). The profiles that have come to rest resume from rest (Machine/Drive.lean). -/
def Dev.clearStop (d : Dev) : Dev :=
  let seq := d.nat 0x380103
  let d := { d with wo := { d.wo with flood := none, clearing := some (0, seq), clearAt := d.clk.now, refAt := none, reported := 0 } }
  let d := (((d.setN 0x380101 0).setN 0x380102 0).setN 0x380106 d.fleetNs).setN 0x380108 0
  ((d.raise 322 (seq % 65536)).stopNotice).askRound

/-- The reason for which a clear command is refused (R315), 0 where none. -/
def Dev.clearReason (d : Dev) (v : Nat) : Nat :=
  if v ≠ d.nat 0x380103 then 1
  else if !d.channelsHigh then 2
  else if !d.noStopFault then 3
  else if d.nat 0x38100D ≠ 0 ∧ d.nat 0x38100D ≠ 2 then 4
  else if d.woState ≠ 1 then 5
  else if d.wo.expiry then 6
  else if d.timeState = 0 then 7
  else 0

/-- 3800:02 (R315, R316): the clear is refused with source 323, arms the resume, or clears the stop. -/
def clearCommand (v : DVal) (d : Dev) : Dev × Nat :=
  match d.clearReason v.int.toNat with
  | 0 =>
    if d.nat 0x38100D = 2 then
      (((({ d with wo := { d.wo with armedAt := d.clk.now } } : Dev).setN 0x380101 2).raise 324 0).stopNotice, 0)
    else (d.clearStop, 0)
  | r => (d.raise 323 r, 0)

def execClearCommand (dt : Nat) (q : Req) (data : List Byte) (levels highUs : Nat) (s : State) : Out :=
  onDev s dt (fun d => (if d.up 10 then d.sampleHigh levels highUs else d).command q 0x3800 2 data clearCommand)

/-- 3800:03 restarts the watchdog and ends a pending expiry (R318). -/
def keepAlive (_ : DVal) (d : Dev) : Dev × Nat := ({ d with wo := { d.wo with expiry := false, wdAt := d.clk.now } }, 0)

def execKeepAlive (dt : Nat) (q : Req) (data : List Byte) (s : State) : Out :=
  onDev s dt (fun d => d.command q 0x3800 3 data keepAlive)

/-- 3810:0B passes without a keep-alive (R318). -/
def supervisorWatchdogExpiry (d : Dev) : Dev :=
  d.when (d.up 10 && decide (d.nat 0x38100B ≠ 0) && d.wo.wdRun && !d.wo.expiry
      && decide (d.wo.wdAt + d.nat 0x38100B * msT ≤ d.clk.now)) (fun d =>
    let d := { d with wo := { d.wo with expiry := true } }
    (d.source 4 0x38100C).raise 328 0)

def execSupervisorWatchdogExpiry (dt : Nat) (s : State) : Out := onDev s dt supervisorWatchdogExpiry

/-- A rising edge of RESUME_N after a low of 50 ms to 5 s (R316). -/
def resumePress (lowMs levels highUs : Nat) (d : Dev) : Dev :=
  d.when (d.up 10) (fun d =>
    let d := d.sampleHigh levels highUs
    let src := d.nat 0x38100D
    let common := d.channelsHigh && d.noStopFault && !d.wo.expiry && decide (d.timeState ≠ 0)
    if 50 ≤ lowMs ∧ lowMs ≤ 5000 ∧ common ∧ ((src = 2 ∧ d.woState = 2 ∧ d.clk.now ≤ d.wo.armedAt + 30 * secT) ∨ (src = 1 ∧ d.woState = 1)) then d.clearStop else d)

def execResumePress (dt : Nat) (lowMs levels highUs : Nat) (s : State) : Out := onDev s dt (resumePress lowMs levels highUs)

/-- No qualifying edge within 30 s of arming (R316). -/
def resumeArmTimeout (d : Dev) : Dev :=
  d.when (d.up 10 && decide (d.woState = 2) && decide (d.wo.armedAt + 30 * secT ≤ d.clk.now)) (fun d => (d.setN 0x380101 1).stopNotice)

def execResumeArmTimeout (dt : Nat) (s : State) : Out := onDev s dt resumeArmTimeout

end Sys2Proof.Machine
end

