-- ==== Sys2Proof/Machine/Axes.lean ====
section
/-!
DEFINITION. The eight local step axes (R352 to R371): commands, profile segments, inputs, homing and parking.
-/
namespace Sys2Proof.Machine

/-- The limits that the settings of an axis give now (R355). -/
def Dev.axLimNow (d : Dev) (n : Nat) : AxLim :=
  { vmax := d.nat (axSet n 5), accel := d.nat (axSet n 6), decel := d.nat (axSet n 7), jerk := d.nat (axSet n 8) }

/-- State 3610 + n:01 of an axis. -/
def Dev.axState (d : Dev) (n : Nat) : Nat := d.nat (axKey n 1)

/-- Position issued (R362). -/
def Dev.axPos (d : Dev) (n : Nat) : Int := d.num (axKey n 2)

/-- A setting as an axis uses it (R357): a moving axis keeps those its move began with. DECEL, JERK and a lowered VMAX go by `Dev.axDefer`.
A new target given in motion goes on with the same move. -/
def Dev.axUse (d : Dev) (n sub : Nat) : Int :=
  let a := d.axis n
  if a.plan = .none then d.num (axSet n sub) else a.set.getD (sub - 1) (d.num (axSet n sub))

/-- The step of the search direction of R366: negative in modes 1 and 3. -/
def Dev.searchDir (d : Dev) (n : Nat) : Int := if d.axUse n 0x14 % 2 = 1 then -1 else 1

/-- The flag bit of the homing edge: the home input in modes 1 and 2, the negative limit in 3, the positive in 4 (R366). -/
def Dev.edgeBit (d : Dev) (n : Nat) : Nat :=
  match d.axUse n 0x14 with
  | 3 => 2
  | 4 => 1
  | _ => 3

/-- The filtered inputs are sampled into bits 1 to 4 of the flags (R358). -/
def Dev.axInputs (d : Dev) (n inputs : Nat) : Dev :=
  let f := d.nat (axKey n 4)
  d.setN (axKey n 4) ((f / 32 * 32 + inputs % 16 * 2 + f % 2 : Nat) : Int)

/-- AXHOLD_n is released; the first step waits for the hold release (R361). -/
def Dev.releaseHold (d : Dev) (n : Nat) : Dev :=
  if d.bit (axKey n 4) 5 then
    let a := d.axis n
    let d := d.setAxis n { a with readyAt := max a.readyAt (d.clk.now + d.nat (axSet n 0x0F) * msT) }
    (d.setBit (axKey n 4) 5 false).emit .axisHold [n] [0]
  else d

/-- Ticks of 0.8 ns in a number of 5 ns periods of the peripheral clock, rounded up (R353). -/
def clockTicks (n : Nat) : Nat := (n * 25 + 3) / 4

/-- The leading edges of the steps from one planned position to another over `h` seconds, in whole 5 ns periods from its start: each where the
rate of the segment brings the position to the next step (R353). -/
def axEdges (p q h : Rat) : List Int :=
  let old := roundRat p
  let new := roundRat q
  let way : Rat := if old < new then 1 else -1
  (List.range (new - old).natAbs).map (fun (i : Nat) => ((((old : Rat) + way * ((i : Rat) + 1 / 2) - p) / (q - p)) * h * 200000000).floor)

/-- Step pulses leave: how many and which way, their width in 5 ns and their leading edges (R352, R353). -/
def Dev.emitSteps (d : Dev) (n : Nat) (p q h : Rat) : Dev :=
  d.emit .axisSteps [n] ((roundRat q - roundRat p) :: d.axUse n 2 :: axEdges p q h)

/-- A motion towards a target starts from rest. A change of direction waits for the reversal dwell after the last rest; AXDIR_n follows
3600 + n:01, changes no sooner than the direction hold after the last step, and precedes the first by the direction setup (R353). What leaves with
AXDIR_n is its level and the model time of its change. The first segment ends 100 µs after the motion may begin (R362). -/
def Dev.axTurn (d : Dev) (n : Nat) (target : Int) : Dev :=
  let a := d.axis n
  let fwd := if target = d.axPos n then a.forward else decide (d.axPos n < target)
  let pin := fwd != decide (d.axUse n 1 ≠ 0)
  let change := max d.clk.now (a.restAt + clockTicks (d.axUse n 4).toNat)
  let dwelt := if fwd = a.forward then a.readyAt else max a.readyAt (a.restAt + (d.axUse n 0x11).toNat * msT)
  let ready := if pin = a.dirPin then dwelt else max dwelt (change + clockTicks (d.axUse n 3).toNat)
  let d := d.setAxis n { a with forward := fwd, dirPin := pin, readyAt := ready, segAt := max d.clk.now ready + 100 * usT }
  if pin = a.dirPin then d else d.emit .axisDir [n] [if pin then 1 else 0, change]

/-- A motion begins from rest: the settings are taken (R357), the hold is released and the direction is set. -/
def Dev.beginMotion (d : Dev) (n : Nat) (state : Nat) (plan : AxisPlan) (target : Int) : Dev :=
  let d := d.releaseHold n
  let a := d.axis n
  let d := d.setAxis n { a with plan := plan, pos := (d.axPos n : Rat), vel := 0, acc := 0, lim := d.axLimNow n
                                set := (List.range 25).map (fun i => d.num (axSet n (i + 1))) }
  ((d.axTurn n target).setN (axKey n 1) state).setN (axKey n 6) target

/-- A refused command (R360): the reason, event source 358, nothing else. -/
def Dev.axRefuse (d : Dev) (n reason : Nat) : Dev := (d.setN (axKey n 8) reason).raise 358 (n * 256 + reason)

/-- The sign of the motion that codes 1 to 3 ask for. -/
def Dev.axWay (d : Dev) (n code : Nat) (arg : Int) : Int := if code = 1 then arg - d.axPos n else arg

/-- The target that codes 1 and 2 name. -/
def Dev.axTarget (d : Dev) (n code : Nat) (arg : Int) : Int := if code = 1 then arg else d.axPos n + arg

/-- The reason for which a command is refused: the first of R360 that applies, 0 for none. -/
def Dev.axReason (d : Dev) (n code rsv : Nat) (arg : Int) : Nat :=
  let motion := decide (1 ≤ code ∧ code ≤ 3)
  let way := d.axWay n code arg
  let target := d.axTarget n code arg
  if code = 0 ∨ 8 < code ∨ rsv ≠ 0 then 1
  else if (motion ∨ code = 5) ∧ d.stopped then 2
  else if motion ∧ d.bit (axKey n 4) 0 then 3
  else if code ≤ 2 ∧ (target < d.num (axSet n 9) ∨ d.num (axSet n 0x0A) < target) then 4
  else if motion ∧ ((0 < way ∧ d.bit (axKey n 4) 1) ∨ (way < 0 ∧ d.bit (axKey n 4) 2)) then 5
  else if code ≠ 7 ∧ code ≠ 8 ∧ d.axState n = 6 then 6
  else if (motion ∨ code = 5) ∧ d.axState n = 0 then 7
  else if code = 5 ∧ d.nat (axSet n 0x14) = 0 then 8
  else if code = 8 ∧ d.bit (axKey n 4) 4 then 9
  else 0

/-- The distance an axis needs to rest at its limits in force (R363). -/
def Dev.axStop (d : Dev) (n : Nat) : Rat :=
  let a := d.axis n
  let sg : Rat := if a.vel < 0 then -1 else 1
  stopDist a.lim.decel a.lim.jerk (sg * a.vel) (sg * a.acc)

/-- A move to a target at most at a rate (R362, R363): from rest it begins; in motion the target is replaced where it lies
ahead at or beyond the stopping point, and else the axis brakes, dwells and comes back. A target given in the dwell takes the place of
the one before. A move command ends a homing sequence, with no event: R363 and R367 do not name the case (log 13). -/
def Dev.axGoTo (d : Dev) (n : Nat) (target : Int) (rate : Nat) : Dev :=
  let a := d.axis n
  if a.vel = 0 then
    match a.plan with
    | .dwell _ _ => (d.setAxis n { a with plan := .dwell target rate }).setN (axKey n 6) target
    | _ => d.beginMotion n 2 (.move target rate) target
  else
    let sg : Rat := if a.vel < 0 then -1 else 1
    let d := d.setN (axKey n 6) target
    if d.axStop n ≤ sg * ((target : Rat) - a.pos) then
      (d.setAxis n { a with plan := .move target rate }).setN (axKey n 1) 2
    else (d.setAxis n { a with plan := .brake (some (target, rate)) }).setN (axKey n 1) 3

/-- A homing sequence fails (R367): the axis brakes to rest, 356 with the cause, the position stays uncertain. -/
def Dev.homeFail (d : Dev) (n cause : Nat) : Dev :=
  let a := d.axis n
  let d := d.setAxis n { a with plan := .brake none }
  ((d.setN (axKey n 1) 3).uncertain n).raise 356 (n * 256 + cause)

/-- Command 5 (R366): the sequence starts at stage 0 where the edge input is active, else at the search. An axis in motion first brakes to rest:
R366 does not name the case (log 13). -/
def Dev.homeStart (d : Dev) (n : Nat) : Dev :=
  let a := d.axis n
  let far : Int := d.searchDir n * 4294967296
  if a.vel ≠ 0 then (d.setAxis n { a with plan := .home 10 0 0 }).setN (axKey n 1) 4
  else if d.bit (axKey n 4) (d.edgeBit n) then d.beginMotion n 4 (.home 0 0 (d.axPos n)) (d.axPos n - far)
  else d.beginMotion n 4 (.home 3 0 (d.axPos n)) (d.axPos n + far)

/-- AXEN_n is asserted (R361); it is held low in a drill (R501). The rest of the axis counts from then (log 13). -/
def Dev.axEnable (d : Dev) (n : Nat) : Dev :=
  if d.bit (axKey n 4) 6 || d.quiet then d
  else
    let a := d.axis n
    let d := d.setAxis n { a with readyAt := max a.readyAt (d.clk.now + d.nat (axSet n 0x10) * msT), restAt := d.clk.now }
    let d := ((d.setBit (axKey n 4) 6 true).setN (axKey n 5) 0).emit .axisEnable [n] [1]
    if d.axState n = 0 then d.setN (axKey n 1) 1 else d

/-- AXEN_n falls. `valid` says that R369 keeps the position. -/
def Dev.axRelease (d : Dev) (n : Nat) (valid : Bool) : Dev :=
  let a := d.axis n
  let d := d.setAxis n { a with plan := .none, vel := 0, acc := 0, pos := (d.axPos n : Rat) }
  let d := ((d.setBit (axKey n 4) 6 false).setN (axKey n 3) 0).emit .axisEnable [n] [0]
  let d := if d.axState n = 6 then d else d.setN (axKey n 1) 0
  if valid then d else d.uncertain n

/-- The nearer position at which the phase is 0, the positive one on a tie (R369). -/
def Dev.parkTarget (d : Dev) (n : Nat) : Int :=
  let c := d.nat (axSet n 0x13)
  let p := d.axPhase n
  if p = 0 then d.axPos n else if c - p ≤ p then d.axPos n + (c - p : Nat) else d.axPos n - p

/-- Command 7 (R369): parking where a phase is tracked, else the enable falls at once. No pulse leaves in a fault: there the position stays valid
only with a phase of 0. -/
def Dev.axDisable (d : Dev) (n : Nat) : Dev :=
  let a := d.axis n
  let zero := decide (d.nat (axSet n 0x13) ≠ 0) && decide (d.axPhase n = 0)
  if !d.bit (axKey n 4) 6 then d
  else if d.stopped then d.axRelease n false
  else if d.axState n = 6 then d.axRelease n zero
  else if a.vel ≠ 0 then (d.setAxis n { a with plan := .toPark }).setN (axKey n 1) 5
  else if d.nat (axSet n 0x13) = 0 then d.axRelease n false
  else if zero then d.axRelease n true
  else d.beginMotion n 5 (.park (d.parkTarget n)) (d.parkTarget n)

/-- The effect of an accepted command (R359). -/
def Dev.axRun (d : Dev) (n code : Nat) (arg : Int) : Dev :=
  let a := d.axis n
  let vmax := d.nat (axSet n 5)
  match code with
  | 1 => d.axGoTo n arg vmax
  | 2 => d.axGoTo n (d.axPos n + arg) vmax
  | 3 =>
    if arg = 0 then d
    else d.axGoTo n (if 0 < arg then d.num (axSet n 0x0A) else d.num (axSet n 9)) (min arg.natAbs vmax)
  | 4 =>
    match a.plan with
    | .home _ _ _ => d.homeFail n 3
    | .none => d
    | .limit _ => d
    | _ =>
      if a.vel = 0 then (d.setAxis n { a with plan := .none }).setN (axKey n 1) 1
      else (d.setAxis n { a with plan := .brake none }).setN (axKey n 1) 3
  | 5 => d.homeStart n
  | 6 => d.axEnable n
  | 7 => d.axDisable n
  | _ =>
    if d.axState n = 6 ∧ !(d.bit (axKey n 4) 1 && d.bit (axKey n 4) 2) then
      (d.setN (axKey n 1) (if d.bit (axKey n 4) 6 then 1 else 0)).raise 354 n
    else d

/-- A write of 3620 + n (R359, R360). -/
def axCommand (n : Nat) (v : DVal) (d : Dev) : Dev × Nat :=
  let b := v.bytes
  let code := fieldN b 0 1
  let arg := fieldI b 4 4
  match d.axReason n code (fieldN b 1 3) arg with
  | 0 => (d.axRun n code arg, 0)
  | r => (d.axRefuse n r, 0)

/-- The eight bytes of an axis command. -/
def axBytes (code rsv : Nat) (arg : Int) : List Byte := leBytes 1 code ++ leBytes 3 rsv ++ leBytes 4 (ofSigned 32 arg)

/-- An axis command as a live write. -/
def Dev.axWrite (d : Dev) (q : Req) (n code rsv : Nat) (arg : Int) : Dev :=
  d.command q (0x3620 + n) 0 (axBytes code rsv arg) (axCommand n)

def execAxisMoveAbsolute (dt : Nat) (q : Req) (n : Fin 8) (rsv : Nat) (arg : Int) (s : State) : Out :=
  onDev s dt (fun d => d.axWrite q n.val 1 rsv arg)
def execAxisMoveRelative (dt : Nat) (q : Req) (n : Fin 8) (rsv : Nat) (arg : Int) (s : State) : Out :=
  onDev s dt (fun d => d.axWrite q n.val 2 rsv arg)
def execAxisJog (dt : Nat) (q : Req) (n : Fin 8) (rsv : Nat) (arg : Int) (s : State) : Out :=
  onDev s dt (fun d => d.axWrite q n.val 3 rsv arg)
def execAxisStop (dt : Nat) (q : Req) (n : Fin 8) (rsv : Nat) (arg : Int) (s : State) : Out :=
  onDev s dt (fun d => d.axWrite q n.val 4 rsv arg)
def execAxisHome (dt : Nat) (q : Req) (n : Fin 8) (rsv : Nat) (arg : Int) (s : State) : Out :=
  onDev s dt (fun d => d.axWrite q n.val 5 rsv arg)
def execAxisEnable (dt : Nat) (q : Req) (n : Fin 8) (rsv : Nat) (arg : Int) (s : State) : Out :=
  onDev s dt (fun d => d.axWrite q n.val 6 rsv arg)
def execAxisDisable (dt : Nat) (q : Req) (n : Fin 8) (rsv : Nat) (arg : Int) (s : State) : Out :=
  onDev s dt (fun d => d.axWrite q n.val 7 rsv arg)
def execAxisClearFault (dt : Nat) (q : Req) (n : Fin 8) (rsv : Nat) (arg : Int) (s : State) : Out :=
  onDev s dt (fun d => d.axWrite q n.val 8 rsv arg)

/-- 3630 + n sets the position at rest and clears the uncertain flag, with Moraine entry 518 (R359, R534). Elsewhere it is
refused with RANGE (log 13). -/
def axSetPosition (n : Nat) (v : DVal) (d : Dev) : Dev × Nat :=
  let st := d.axState n
  let a := d.axis n
  if (st = 0 ∨ st = 1 ∨ st = 6) ∧ a.vel = 0 then
    let d := d.setAxis n { a with pos := (v.int : Rat) }
    let d := (d.setN (axKey n 2) v.int).setBit (axKey n 4) 0 false
    (d.offer 518 2 10 0 ((0x3630 + n) * 65536) (ofSigned 32 v.int), 0)
  else (d, 8)

def execAxisSetPosition (dt : Nat) (q : Req) (n : Fin 8) (data : List Byte) (s : State) : Out :=
  onDev s dt (fun d => d.command q (0x3630 + n.val) 0 data (axSetPosition n.val))

/-- The plan moves for one segment: position, speed and phase are issued (R362, R368). -/
def Dev.axIssue (d : Dev) (n : Nat) (r : Rat × Rat × Rat) : Dev :=
  let a := d.axis n
  let old := d.axPos n
  let new := roundRat r.1
  let c := d.axUse n 0x13
  let d := d.setAxis n { a with pos := r.1, vel := r.2.1, acc := r.2.2, restAt := d.clk.now }
  let d := (d.setN (axKey n 2) new).setN (axKey n 3) (roundRat r.2.1)
  let d := d.setN (axKey n 5) (if c = 0 then 0 else (d.num (axKey n 5) + (new - old)) % c)
  if new = old then d else d.emitSteps n a.pos r.1 (1 / 10000)

/-- One segment towards a rest target at most at a rate: the end of the motion where the target is reached. -/
def Dev.axToward (d : Dev) (n : Nat) (target : Int) (rate : Rat) : Dev × Bool :=
  let a := d.axis n
  let sg : Rat := if (target : Rat) < a.pos then -1 else 1
  let l : MotionLim := { vmax := rate, accel := a.lim.accel, decel := a.lim.decel, jerk := a.lim.jerk }
  let r := motionStep l [] (sg * target) (1 / 10000) (sg * a.pos) (sg * a.vel) (sg * a.acc)
  let d := d.axIssue n (sg * r.1, sg * r.2.1, sg * r.2.2)
  (d, decide (r.1 = sg * target ∧ r.2.1 = 0))

/-- One segment of braking: true at rest. -/
def Dev.axBrake (d : Dev) (n : Nat) : Dev × Bool :=
  let a := d.axis n
  let sg : Rat := if a.vel < 0 then -1 else 1
  let l : MotionLim := { vmax := a.lim.vmax, accel := a.lim.accel, decel := a.lim.decel, jerk := a.lim.jerk }
  if a.vel = 0 then (d, true)
  else
    let r := brakeStep l (1 / 10000) (sg * a.pos) (sg * a.vel) (sg * a.acc)
    (d.axIssue n (sg * r.1, sg * r.2.1, sg * r.2.2), decide (r.2.1 = 0))

/-- The rest target of R357: the move target or the soft limit that a jog goes to, the limit that stops it with response 1 (R371), and in a homing
sequence the place that its step goes to, or where the axis comes to rest. -/
def Dev.axRest (d : Dev) (n : Nat) : Rat :=
  let a := d.axis n
  match a.plan with
  | .limit p => p
  | .park t => t
  | .home 1 _ start => start
  | .home 6 latch _ => latch - d.searchDir n * d.axUse n 0x17
  | .home 4 _ _ => a.pos + (if a.vel < 0 then -1 else 1) * d.axStop n
  | .home 9 _ _ => a.pos + (if a.vel < 0 then -1 else 1) * d.axStop n
  | .home 0 _ start => start - d.searchDir n * 4294967296
  | .home 3 _ start => start + d.searchDir n * 4294967296
  | .home 8 _ start => start + d.searchDir n * 4294967296
  | _ => d.num (axKey n 6)

/-- R357 in each segment: a lowered VMAX acts at once; a changed DECEL or JERK acts when the stop it gives fits, and until
then the old ones stay, with bit 7 of the flags and source 359 when they are first kept. -/
def Dev.axDefer (d : Dev) (n : Nat) : Dev :=
  let a := d.axis n
  let new := d.axLimNow n
  let l := { a.lim with vmax := min a.lim.vmax new.vmax }
  let sg : Rat := if a.vel < 0 then -1 else 1
  if l.decel = new.decel ∧ l.jerk = new.jerk then (d.setAxis n { a with lim := l }).setBit (axKey n 4) 7 false
  else if a.vel = 0 ∨ stopDist new.decel new.jerk (sg * a.vel) (sg * a.acc) ≤ sg * (d.axRest n - a.pos) then
    (d.setAxis n { a with lim := { l with decel := new.decel, jerk := new.jerk } }).setBit (axKey n 4) 7 false
  else
    let d := d.setAxis n { a with lim := l }
    if d.bit (axKey n 4) 7 then d else (d.setBit (axKey n 4) 7 true).raise 359 n

/-- Motion of the homing sequence in one segment (R366): stage 0 away until the edge input is inactive, 1 the back-off,
3 the search, 6 to the latch plus the back-off, 8 the approach; stages 4 and 9 brake; 2, 5 and 7 are dwells; in stage 10 an
axis commanded in motion first comes to rest. The homing travel bounds the two searches, stages 3 and 8 (R355, R367). -/
def Dev.homeSegment (d : Dev) (n stage : Nat) (latch start : Int) : Dev :=
  let a := d.axis n
  let sd := d.searchDir n
  let far : Int := sd * 4294967296
  let fast : Rat := min (d.axUse n 0x15) a.lim.vmax
  let slow : Rat := min (d.axUse n 0x16) a.lim.vmax
  let set (d : Dev) (st : Nat) (start : Int) : Dev := d.setAxis n { d.axis n with plan := .home st latch start }
  let travel (d : Dev) : Dev := if d.axUse n 0x19 < (d.axPos n - start).natAbs then d.homeFail n 1 else d
  match stage with
  | 0 => (d.axToward n (start - far) fast).1
  | 1 => let r := d.axToward n start fast; if r.2 then set r.1 2 start else r.1
  | 3 => travel (d.axToward n (start + far) fast).1
  | 4 => let r := d.axBrake n; if r.2 then set r.1 5 start else r.1
  | 6 => let r := d.axToward n (latch - sd * d.axUse n 0x17) fast; if r.2 then set r.1 7 start else r.1
  | 8 => travel (d.axToward n (start + far) slow).1
  | 9 =>
    let r := d.axBrake n
    if r.2 then
      let d := r.1
      let shift := d.axUse n 0x18 - latch
      let pos := d.axPos n + shift
      let d := d.setAxis n { d.axis n with plan := .none, pos := (pos : Rat) }
      let d := ((d.setN (axKey n 2) pos).setN (axKey n 7) shift).setBit (axKey n 4) 0 false
      (d.setN (axKey n 1) 1).raise 355 n
    else r.1
  | 10 =>
    let r := d.axBrake n
    if r.2 then (r.1.setAxis n { r.1.axis n with plan := .none }).homeStart n else r.1
  | _ => d

/-- An axis is at rest with no plan. -/
def Dev.axRested (d : Dev) (n : Nat) : Dev := (d.setAxis n { d.axis n with plan := .none }).setN (axKey n 1) 1

/-- One segment of the plan of an axis. The parking move runs at the start-stop speed, without a ramp (R369). -/
def Dev.axSegment (d : Dev) (n : Nat) : Dev :=
  match (d.axis n).plan with
  | .none => d
  | .dwell _ _ => d
  | .move t rate =>
    let r := d.axToward n t (min rate (d.axis n).lim.vmax : Nat)
    if r.2 then (r.1.axRested n).raise 361 n else r.1
  | .brake next =>
    let r := d.axBrake n
    if r.2 then
      match next with
      | some (t, rate) => r.1.setAxis n { r.1.axis n with plan := .dwell t rate }
      | none => r.1.axRested n
    else r.1
  | .limit _ =>
    let r := d.axBrake n
    if r.2 then r.1.axRested n else r.1
  | .home st latch start => d.homeSegment n st latch start
  | .toPark =>
    let r := d.axBrake n
    if r.2 then (r.1.axRested n).axDisable n else r.1
  | .park t =>
    let a := d.axis n
    let v : Rat := d.axUse n 0x12
    let gap : Rat := (t : Rat) - a.pos
    let step := v / 10000
    if gap ≤ step ∧ -step ≤ gap then (d.axIssue n (t, 0, 0)).axRelease n true
    else d.axIssue n (if 0 < gap then (a.pos + step, v, 0) else (a.pos - step, -v, 0))

/-- A profile segment of 100 µs ends (R362). Both islands that share the work are in state 3. -/
def axisSegment (n : Nat) (d : Dev) : Dev :=
  d.when (d.up 10 && d.up 6 && decide ((d.axis n).segAt ≤ d.clk.now)) (fun d =>
    let a := d.axis n
    ((d.setAxis n { a with segAt := a.segAt + 100 * usT }).axDefer n).axSegment n)

def execAxisSegment (dt : Nat) (n : Fin 8) (s : State) : Out := onDev s dt (axisSegment n.val)

/-- The edge input changes during homing (R366): the step count is latched in that cycle. -/
def Dev.homeEdge (d : Dev) (n : Nat) : Dev :=
  let a := d.axis n
  let active := d.bit (axKey n 4) (d.edgeBit n)
  match a.plan with
  | .home stage latch start =>
    match stage, active with
    | 0, false => d.setAxis n { a with plan := .home 1 latch (d.axPos n - d.searchDir n * d.axUse n 0x17) }
    | 3, true => d.setAxis n { a with plan := .home 4 (d.axPos n) start }
    | 8, true => d.setAxis n { a with plan := .home 9 (d.axPos n) start }
    | _, _ => d
  | _ => d

/-- The axis goes into fault: pulses cease (R364, R365). -/
def Dev.axFault (d : Dev) (n : Nat) : Dev := (d.cease n).setN (axKey n 1) 6

/-- True while an axis runs its homing sequence. -/
def Dev.axHoming (d : Dev) (n : Nat) : Bool :=
  match (d.axis n).plan with
  | .home _ _ _ => true
  | _ => false

/-- True where an axis brakes at a homing edge, or before its sequence: what a limit does to it then leaves the sequence as it is. -/
def Dev.axEdgeBrake (d : Dev) (n : Nat) : Bool :=
  match (d.axis n).plan with
  | .home st _ _ => decide (st = 4 ∨ st = 9 ∨ st = 10)
  | _ => false

/-- True where an axis already brakes for a stop or a limit. -/
def Dev.axStopping (d : Dev) (n : Nat) : Bool :=
  match (d.axis n).plan with
  | .brake none => true
  | .limit _ => true
  | _ => d.axEdgeBrake n

/-- A stop of the pulses from above the start-stop speed loses steps: the position becomes uncertain (R364). -/
def Dev.hardStop (d : Dev) (n : Nat) : Dev :=
  let v := (d.axis n).vel
  let fast := decide ((d.axUse n 0x12 : Rat) < (if v < 0 then -v else v))
  let d := d.cease n
  if fast then d.uncertain n else d

/-- Motion towards an active limit stops by 3600 + n:0B (R364): a hard stop or a ramp. A homing sequence that brakes at its edge goes on from the
rest. -/
def Dev.limitStop (d : Dev) (n detail : Nat) : Dev :=
  let a := d.axis n
  let keep := d.axEdgeBrake n
  let d :=
    if d.axUse n 0x0B = 0 then
      let d := d.hardStop n
      if keep then (d.setAxis n { d.axis n with plan := a.plan }).setN (axKey n 1) 4 else d
    else if keep then d
    else (d.setAxis n { a with plan := .limit (d.axPos n) }).setN (axKey n 1) 3
  d.raise 352 (n * 256 + detail)

/-- The limit opposite to the search direction, as bit 1 or 2 of the flags (R367). -/
def Dev.oppBit (d : Dev) (n : Nat) : Nat := if d.searchDir n < 0 then 1 else 2

/-- The limit that an axis moves towards while it is active, as bit 1 or 2 of the flags, 0 for none. The limit that is the homing edge is none
(R364). -/
def Dev.axHit (d : Dev) (n : Nat) : Nat :=
  let v := (d.axis n).vel
  let edge := if d.axHoming n then d.edgeBit n else 0
  if d.bit (axKey n 4) 1 && decide (0 < v) && decide (edge ≠ 1) then 1
  else if d.bit (axKey n 4) 2 && decide (v < 0) && decide (edge ≠ 2) then 2
  else 0

/-- What the limit inputs do (R364, R367). `fresh` lists the flags that have just been set. Both limits put the axis in fault. A limit of the search
direction that is not the edge stops a homing sequence for good, with no event of its own: R367 names no cause for it (log 13). -/
def Dev.axLimits (d : Dev) (n : Nat) (fresh : List Nat) : Dev :=
  let homing := d.axHoming n
  let opp := d.oppBit n
  let hit := d.axHit n
  if d.bit (axKey n 4) 1 && d.bit (axKey n 4) 2 && (fresh.contains 1 || fresh.contains 2) then
    let d := ((d.hardStop n).setN (axKey n 1) 6).raise 352 (n * 256 + 3)
    if homing then (d.uncertain n).raise 356 (n * 256 + 2) else d
  else if hit = 0 ∨ d.axStopping n ∧ !fresh.contains hit then d
  else if homing ∧ hit = opp then
    let d := d.setAxis n { d.axis n with plan := .brake none }
    ((d.limitStop n hit).uncertain n).raise 356 (n * 256 + 2)
  else d.limitStop n hit

/-- The four inputs of an axis, as levels that have stood for `us` µs (R355): after the input filter they are active by the polarity of 3600 + n:0C.
The homing edge is latched first (R371); a fault input that becomes active acts before the limits. -/
def Dev.axSense (d : Dev) (n levels us : Nat) : Dev :=
  if (us : Int) < d.axUse n 0x0D then d
  else
    let f := d.nat (axKey n 4)
    let d := d.axInputs n ((levels ^^^ 15 ^^^ (d.axUse n 0x0C).toNat) % 16)
    let fresh := [1, 2, 3, 4].filter (fun b => d.bit (axKey n 4) b && !f.testBit b)
    let d := if d.bit (axKey n 4) (d.edgeBit n) = f.testBit (d.edgeBit n) then d else d.homeEdge n
    if fresh.contains 4 then
      let homing := d.axHoming n
      ((((d.axFault n).uncertain n).raise 353 n).raiseIf homing 356 (n * 256 + 4)).axLimits n fresh
    else d.axLimits n fresh

/-- The edge input changes during homing (R366). -/
def axisHomeEdge (n levels us : Nat) (d : Dev) : Dev := d.when (d.up 10) (fun d => d.axSense n levels us)

def execAxisHomeEdge (dt : Nat) (n : Fin 8) (levels us : Nat) (s : State) : Out := onDev s dt (axisHomeEdge n.val levels us)

/-- A filtered limit input changes (R364, R366, R367, R371). -/
def axisLimitInput (n levels us : Nat) (d : Dev) : Dev := d.when (d.up 10) (fun d => d.axSense n levels us)

def execAxisLimitInput (dt : Nat) (n : Fin 8) (levels us : Nat) (s : State) : Out := onDev s dt (axisLimitInput n.val levels us)

/-- AXFLT_n becomes active (R365, R367). -/
def axisFaultInput (n levels us : Nat) (d : Dev) : Dev := d.when (d.up 10) (fun d => d.axSense n levels us)

def execAxisFaultInput (dt : Nat) (n : Fin 8) (levels us : Nat) (s : State) : Out := onDev s dt (axisFaultInput n.val levels us)

/-- The hold delay has passed at rest (R361). -/
def axisHoldDelay (n : Nat) (d : Dev) : Dev :=
  let delay := d.nat (axSet n 0x0E)
  d.when (d.up 10 && decide (delay ≠ 0) && decide (d.axState n = 1) && !d.bit (axKey n 4) 5
      && decide ((d.axis n).restAt + msTicks delay ≤ d.clk.now)) (fun d =>
    (d.setBit (axKey n 4) 5 true).emit .axisHold [n] [1])

def execAxisHoldDelay (dt : Nat) (n : Fin 8) (s : State) : Out := onDev s dt (axisHoldDelay n.val)

/-- A homing dwell ends: the next stage starts towards a target (R366). -/
def Dev.homeNext (d : Dev) (n stage : Nat) (latch start target : Int) : Dev :=
  (d.setAxis n { d.axis n with plan := .home stage latch start }).axTurn n target

/-- The reversal dwell ends, and the reversal raises 360 (R363); or a dwell of the homing sequence ends (R366). -/
def axisDwellEnd (n : Nat) (d : Dev) : Dev :=
  let a := d.axis n
  d.when (d.up 10 && d.up 6 && decide (a.restAt + msTicks (d.axUse n 0x11).toNat ≤ d.clk.now)) (fun d =>
    let far := d.searchDir n * 4294967296
    match a.plan with
    | .dwell t rate =>
      let d := d.beginMotion n 2 (.move t rate) t
      d.raiseIf ((d.axis n).forward != a.forward) 360 n
    | .home 2 latch _ => d.homeNext n 3 latch (d.axPos n) (d.axPos n + far)
    | .home 5 latch start => d.homeNext n 6 latch start (latch - d.searchDir n * d.axUse n 0x17)
    | .home 7 latch _ => d.homeNext n 8 latch (d.axPos n) (d.axPos n + far)
    | _ => d)

def execAxisDwellEnd (dt : Nat) (n : Fin 8) (s : State) : Out := onDev s dt (axisDwellEnd n.val)

end Sys2Proof.Machine
end

