-- ==== Sys2Proof/Machine/Board.lean ====
section
/-!
DEFINITION. General I/O (R554) and the junction temperature (R540, R570, R571).
-/
namespace Sys2Proof.Machine

/-- The level driven on a GPIO pin: none while it is an input (R554). -/
def Dev.gpioDriven (d : Dev) (n : Nat) : Option Bool := if d.up 10 ∧ d.bit 0x209001 n then some (d.bit 0x209002 n) else none

/-- 2090:03 shows every pin (R554): the outputs at the levels driven, the inputs at the levels sampled. -/
def Dev.gpioSample (d : Dev) (levels : Nat) : Dev :=
  let dir := d.nat 0x209001
  d.setN 0x209003 (((0xFFFF ^^^ dir) &&& levels) ||| (d.nat 0x209002 &&& dir) : Nat)

/-- 2090:02 drives the pins that are outputs (R554). -/
def gpioOutput (levels : Nat) (v : DVal) (d : Dev) : Dev × Nat := ((d.setN 0x209002 v.int).gpioSample levels, 0)

/-- EFC_OUT gives the code in force, and is high-impedance in Hibernate and in reset (R563). -/
def Dev.efcPin (d : Dev) : Option Nat := if d.up 3 then some (d.nat 0x221101) else none

def execGpioOutput (dt : Nat) (q : Req) (data : List Byte) (levels : Nat) (s : State) : Out :=
  onDev s dt (fun d => d.command q 0x2090 2 data (gpioOutput levels))

/-- A reading inside the range of a sensor, −50 °C to 160 °C (R571). -/
def inSpan (x : Int) : Bool := decide (-500 ≤ x ∧ x ≤ 1600)

/-- Insert in ascending order. -/
def insertInt (x : Int) : List Int → List Int
  | [] => [x]
  | y :: ys => if x ≤ y then x :: y :: ys else y :: insertInt x ys

/-- Twice the median of some readings. -/
def midTwice (l : List Int) : Int :=
  let s := l.foldr insertInt []
  let n := s.length
  if n % 2 = 1 then 2 * s.getD (n / 2) 0 else s.getD (n / 2 - 1) 0 + s.getD (n / 2) 0

/-- True where sensor `i` is valid: in range, and within 15 K of the median of the others (R571). -/
def sensorOk (l : List Int) (i : Nat) : Bool :=
  let x := l.getD i 0
  let others := (l.eraseIdx i).filter inSpan
  inSpan x && (others.isEmpty || decide (2 * x - midTwice others ≤ 300 ∧ midTwice others - 2 * x ≤ 300))

/-- The range of 4861:01 that a temperature falls in (R540). -/
def tempBin (t : Int) : Nat :=
  if t < 0 then 0 else if t < 400 then 1 else if t < 700 then 2 else if t < 850 then 3 else if t < 1000 then 4
  else if t < 1100 then 5 else if t ≤ 1250 then 6 else 7

/-- The hours of 4861:01 from readings of 10 ms. -/
def tempHours (t : Tab Nat) : List Byte := (List.range 8).flatMap (fun i => leBytes 4 (min (tabGetD t i 0 / 360000) 0xFFFFFFFF))

/-- The events of R571 on the highest valid temperature, in 0.1 °C (log 94). -/
def Dev.tempEvents (d : Dev) (t : Int) : Dev :=
  let lim := d.num 0x208003
  let deg := ofSigned 16 (t / 10)
  let d : Dev := if !d.pwr.warm && decide (lim ≤ t) then ({ d with pwr := { d.pwr with warm := true } } : Dev).raise 0 deg
    else if d.pwr.warm && decide (t ≤ lim - 50) then ({ d with pwr := { d.pwr with warm := false } } : Dev).raise 1 deg
    else d
  if !d.pwr.hot && decide (1250 < t) then ({ d with pwr := { d.pwr with hot := true } } : Dev).raise 2 deg
  else if d.pwr.hot && decide (t < 1200) then ({ d with pwr := { d.pwr with hot := false } } : Dev).raise 3 deg
  else d

/-- Every 10 ms the eight junction sensors of islands 3 to 10 are read, in 0.1 °C (R570): the readings, the highest valid one, the peak since
power-on reset, the hours of R540 and the events of R571. A sensor that becomes invalid raises 4 with its island. -/
def temperatureRead (readings : List Int) (d : Dev) : Dev :=
  d.when (d.up 8 && d.dueIn .temperature (10 * msT)) (fun d =>
    let d := d.mark .temperature d.clk.now
    let l := (readings ++ List.replicate 8 (-32768)).take 8
    let before := d.oct 0x208004
    let d := (List.range 8).foldl (fun (d : Dev) i =>
      d.raiseIf (!sensorOk l i && decide (fieldN before (2 * i) 2 ≠ 0x8000)) 4 (i + 3)) d
    let d := d.setO 0x208004 ((List.range 8).flatMap (fun i => leBytes 2 (if sensorOk l i then ofSigned 16 (l.getD i 0) else 0x8000)))
    match ((List.range 8).filter (sensorOk l)).map (fun i => l.getD i 0) with
    | [] => d
    | x :: xs =>
      let t := xs.foldl max x
      let d := d.setN 0x208001 t
      let d := if (tabGet d.od 0x208002).isNone then d.setN 0x208002 t else d.setN 0x208002 (max (d.num 0x208002) t)
      let runs := tabMod d.res.tempRuns (tempBin t) 0 (· + 1)
      let d : Dev := { d with res := { d.res with tempRuns := runs } }
      (d.setO 0x486101 (tempHours runs)).tempEvents t)

def execTemperatureRead (dt : Nat) (readings : List Int) (s : State) : Out := onDev s dt (temperatureRead readings)

end Sys2Proof.Machine
end

