-- ==== Sys2Proof/Machine/Moraine.lean ====
section
/-!
DEFINITION. The Moraine log (R533 to R539), the retirement of a unit as every class shares it (R547), the flash block map
(R546) and the wear measurement and background tests (R540, R541).
-/
namespace Sys2Proof.Machine

/-- True where an entry is to be copied to the flash ring (R535). -/
def Dev.toFlash (d : Dev) (e : MorEntry) : Bool := decide (d.nat 0x480001 ≤ e.sev)

/-- Entries lost: entries due for copying were overwritten before their copy (R535). The loss is counted; at most once a
second entry 513 is offered and event source 509 raised with what was lost since. -/
def Dev.loseEntries (d : Dev) (seq n : Nat) : Dev :=
  let d := d.addSat 0x482005 n 0xFFFFFFFF
  let first := if d.mor.lostNow = 0 then seq else d.mor.lostSeq
  let total := d.mor.lostNow + n
  let due := match d.mor.lostAt with
    | none => true
    | some t => decide (t + secT ≤ d.clk.now)
  if due then
    let d := { d with mor := { d.mor with lostNow := 0, lostAt := some d.clk.now } }
    (d.offer 513 2 2 (min total 65535) total first).raise 509 (min total 65535)
  else { d with mor := { d.mor with lostNow := total, lostSeq := first } }

/-- Entries lost within a second of the last report are reported once it has passed (R535). -/
def Dev.tellLost (d : Dev) : Dev :=
  if d.mor.lostNow ≠ 0 ∧ d.dueSec d.mor.lostAt then
    let n := d.mor.lostNow
    let first := d.mor.lostSeq
    let d : Dev := { d with mor := { d.mor with lostNow := 0, lostAt := some d.clk.now } }
    (d.offer 513 2 2 (min n 65535) n first).raise 509 (min n 65535)
  else d

/-- The sentry takes the oldest offered entry: SEQ is assigned in order of arrival, after a new ceiling 4,096 higher is
recorded where the SEQ would reach the ceiling in force, and the entry goes to the retention ring of 4,096 (R535 to R537). -/
def Dev.storeEntry (d : Dev) : Dev :=
  match d.mor.offers with
  | [] => d
  | e :: rest =>
    let seq := d.mor.next
    let e := { e with seq := seq, flash := d.toFlash e }
    let ring := e :: d.mor.ring
    let gone := ring.drop 4096
    let ceiling := if seq = d.mor.ceiling then d.mor.ceiling + 4096 else d.mor.ceiling
    let lost := gone.filter (fun g => g.flash && decide (d.mor.copied < g.seq))
    let d := { d with mor := { d.mor with offers := rest, next := seq + 1, ceiling := ceiling, ring := ring.take 4096 } }
    match lost with
    | [] => d
    | g :: _ => d.loseEntries g.seq lost.length

def moraineEntry (d : Dev) : Dev := d.when (d.up 2) (fun d => d.storeEntry.tellLost)
def execMoraineEntry (dt : Nat) (s : State) : Out := onDev s dt moraineEntry

/-- One retirement (R547): the count of units retired, the reserve where the unit is replaced, entry 514 and event source
504; and 505 when the last reserve unit of the class is brought in. `repl` is the unit brought in. -/
def Dev.retire (d : Dev) (cls unit cause island : Nat) (repl : Option Nat) : Dev :=
  let d := d.inc16 (0x484100 + cls)
  let left := d.nat (0x484000 + cls)
  let d := if repl.isSome then d.setN (0x484000 + cls) (left - 1 : Nat) else d
  let d := d.offer 514 2 island (cls * 256 + cause) unit (repl.getD 0xFFFFFFFF)
  let d := d.raise 504 (cls * 256 + cause)
  d.raiseIf (repl.isSome && decide (left = 1)) 505 cls

/-- A background test has failed: entry 516 and event source 508 (R541). -/
def Dev.testFailed (d : Dev) (island test unit : Nat) : Dev :=
  (d.offer 516 2 island (island * 256 + test) (island * 256 + test) unit).raise 508 (island * 256 + test)

/-- A write to flash (R541, R546), and whether it is made. A block that fails its verify (cause 3, test 6) or has reached its erase count (cause 6) is retired
before the write is answered: remapped to a reserve block of the 64, or marked bad where none is left, and then the write is refused. Flash
stands on the xSPI port of the memory island, which the entries name. -/
def Dev.flashWrite (d : Dev) (bad : Option (Nat × Nat)) : Dev × Bool :=
  match bad with
  | none => (d, true)
  | some (block, cause) =>
    let left := d.nat 0x484006
    let repl := if left = 0 then none else some (64 - left)
    let d := if cause = 3 then d.testFailed 9 6 block else d
    let d : Dev := { d with res := { d.res with blocks := tabPut d.res.blocks block (repl.getD 0xFFFFFFFF) } }
    (d.retire 6 block cause 9 repl, repl.isSome)

/-- The oldest entry of the retention ring that is due for copying is copied to the flash ring, whose oldest block is
erased when it is full: 2,048 entries in each of its blocks (R535). With no reserve block left for a bad one the ring shrinks by one block (R546). -/
def moraineFlashCopy (bad : Option (Nat × Nat)) (d : Dev) : Dev :=
  let due := (d.mor.ring.filter (fun e => e.flash && decide (d.mor.copied < e.seq + 1) && !d.mor.flash.any (fun f => f.seq == e.seq))).getLast?
  match due with
  | none => d
  | some e =>
    let r := d.flashWrite bad
    let d := r.1
    let d : Dev := if r.2 then d else { d with mor := { d.mor with blocks := d.mor.blocks - 1 } }
    let cap := d.mor.blocks * 2048
    let fl := if d.mor.flash.length < cap then d.mor.flash else d.mor.flash.take (cap - 2048)
    { d with mor := { d.mor with flash := e :: fl, copied := e.seq } }

def execMoraineFlashCopy (dt : Nat) (bad : Option (Nat × Nat)) (s : State) : Out := onDev s dt (moraineFlashCopy bad)

/-- 4820:02 sets the first SEQ of the window (R538). -/
def readFrom (v : DVal) (d : Dev) : Dev × Nat := ({ d with mor := { d.mor with readFrom := v.int.toNat } }, 0)

def execMoraineReadFrom (dt : Nat) (q : Req) (data : List Byte) (s : State) : Out :=
  onDev s dt (fun d => d.command q 0x4820 2 data readFrom)

/-- Store every offered entry (R537). -/
def Dev.storeAll (d : Dev) : Dev := (List.range d.mor.offers.length).foldl (fun d _ => d.storeEntry) d

/-- 4820:06 clears the log (R539): entry 517 is written, then every older entry leaves both rings. SEQ goes on. -/
def clearLog (_ : DVal) (d : Dev) : Dev × Nat :=
  let d := d.storeAll
  let newest := d.mor.next - 1
  let d := (d.offer 517 2 2 0 newest 0).storeEntry
  ({ d with mor := { d.mor with ring := d.mor.ring.take 1, flash := [], copied := newest } }, 0)

def execMoraineClear (dt : Nat) (q : Req) (data : List Byte) (s : State) : Out :=
  onDev s dt (fun d => d.command q 0x4820 6 data clearLog)

/-- The Moraine window 4820:01: up to 2,048 entries with SEQ at or above 4820:02 from both rings, each once, in SEQ order. -/
def Dev.morWindow (d : Dev) : List MorEntry :=
  let keep (e : MorEntry) := decide (d.mor.readFrom ≤ e.seq)
  let old := (d.mor.flash.filter (fun f => keep f && !d.mor.ring.any (fun e => e.seq == f.seq))).reverse
  (old ++ (d.mor.ring.filter keep).reverse).take 2048

/-- A wear index is written (R540): entry 515; 506 and 507 when 900 and 1,000 are first reached. -/
def Dev.wear (d : Dev) (island idx : Nat) : Dev :=
  if 3 ≤ island ∧ island ≤ 10 then
    let old := d.nat (0x486000 + island)
    let d := (d.setN (0x486000 + island) (idx : Nat)).offer 515 0 island 0 island idx
    (d.raiseIf (decide (old < 900 ∧ 900 ≤ idx)) 506 island).raiseIf (decide (old < 1000 ∧ 1000 ≤ idx)) 507 island
  else d

/-- A spare row of an array takes the place of a retired one, of the 2 that each array has; with none left the row stays in use (R542, R544). Rows are
numbered island × 2^24 + array × 2^12 + row. -/
def Dev.spareRow (d : Dev) (island array row cause : Nat) : Dev :=
  let id := island * 2 ^ 24 + array * 2 ^ 12 + row
  let arr := island * 2 ^ 12 + array
  let used := tabGetD d.res.rowsUsed arr 0
  let d : Dev := { d with res := { d.res with rowErrs := tabDel d.res.rowErrs id } }
  if used < 2 then ({ d with res := { d.res with rowsUsed := tabPut d.res.rowsUsed arr (used + 1) } } : Dev).retire 4 id cause island (some used)
  else ({ d with res := { d.res with bare := d.res.bare ++ [id] } } : Dev).retire 4 id cause island none

/-- The errors of a unit within the last 24 h (R542): the instant of each and whether it was uncorrectable, the newest first. -/
def recentErrs (now : Nat) (l : List (Nat × Bool)) : List (Nat × Bool) := l.filter (fun e => decide (now ≤ e.1 + 86400 * secT))

/-- How many of the errors of the last 24 h were uncorrectable, or how many corrected (R542). -/
def errCount (now : Nat) (bad : Bool) (l : List (Nat × Bool)) : Nat := (recentErrs now l).countP (fun e => e.2 == bad)

/-- Add what a pass over a unit found to its errors of the last 24 h (R542). -/
def addErr (now : Nat) (v : Ecc) (l : List (Nat × Bool)) : List (Nat × Bool) :=
  match v with
  | .clean => l
  | .corrected => (now, false) :: recentErrs now l
  | .uncorrectable => (now, true) :: recentErrs now l

/-- Test 1: the scrub of an SRAM row of islands 2 and 4 to 10 (R541). An uncorrectable error in a row that was retired with no
spare row left makes a recovery of its island due (R544). -/
def sramScrub (island array row : Nat) (v : Ecc) (d : Dev) : Dev :=
  d.when (decide (v ≠ Ecc.clean)) (fun d =>
    let id := island * 2 ^ 24 + array * 2 ^ 12 + row
    let d := { d with res := { d.res with rowErrs := tabMod d.res.rowErrs id [] (addErr d.clk.now v) } }
    let d : Dev := if v = .uncorrectable ∧ d.res.bare.contains id ∧ 3 ≤ island ∧ island ≤ 10 ∧ !d.pwr.recDue.contains island then
        { d with pwr := { d.pwr with recDue := d.pwr.recDue ++ [island] } }
      else d
    if v = .uncorrectable then d.testFailed island 1 row else d)

def execSramScrub (dt : Nat) (island array row : Nat) (verdict : Ecc) (s : State) : Out :=
  onDev s dt (sramScrub island array row verdict)

/-- Test 2: the patrol of a DRAM region (R541). -/
def dramPatrol (region : Nat) (v : Ecc) (d : Dev) : Dev :=
  d.when (decide (v ≠ Ecc.clean) && d.up 9) (fun d =>
    let d := { d with res := { d.res with regErrs := tabMod d.res.regErrs region [] (addErr d.clk.now v) } }
    if v = .uncorrectable then d.testFailed 9 2 region else d)

def execDramPatrol (dt : Nat) (region : Nat) (verdict : Ecc) (s : State) : Out := onDev s dt (dramPatrol region verdict)

/-- Test 3, every 60 s: the self-test slice of one physical core (R541). -/
def coreSelfTest (core : Nat) (passed : Bool) (d : Dev) : Dev :=
  d.when (d.up 8 && d.dueIn .coreTest (60 * secT)) (fun d =>
    let d := d.mark .coreTest d.clk.now
    if passed then d else d.testFailed 8 3 core)

def execCoreSelfTest (dt : Nat) (core : Fin 8) (passed : Bool) (s : State) : Out :=
  onDev s dt (coreSelfTest core.val passed)

end Sys2Proof.Machine
end

