-- ==== Sys2Proof/Machine/Queues.lean ====
section
/-!
DEFINITION. The 256 queues and Firn (R409 to R422). Instants inside a queue are counted in 0.05 ns: a model tick is 16 of
them, a cycle of the memory island 25. A push is one command: its header, credits and last word come together (log 15).
-/
namespace Sys2Proof.Machine

/-- Model time in 0.05 ns. -/
def Dev.fineNow (d : Dev) : Nat := d.clk.now * 16

/-- One cycle of the memory island, in 0.05 ns. -/
def queueCycle : Nat := 25

/-- A setting of a queue. -/
def qKey (q sub : Nat) : Key := (0x3E00 + q) * 256 + sub

/-- The queue with a number. -/
def Dev.queue (d : Dev) (q : Nat) : Queue := tabGetD d.sched.queues q queue0

/-- Change a queue. -/
def Dev.setQueue (d : Dev) (q : Nat) (x : Queue) : Dev :=
  { d with sched := { d.sched with queues := tabPut d.sched.queues q x } }

/-- A queue exists (R409): a device queue always, another while it is enabled. -/
def Dev.queueExists (d : Dev) (q : Nat) : Bool := decide (q < 256) && (decide (q < 16) || d.flag (qKey q 1))

/-- Words of items. -/
def wordsOf (l : List QItem) : Nat := (l.map (·.words)).sum

/-- Words of a queue that stand in Firn. -/
def Queue.firnWords (x : Queue) : Nat := wordsOf ((x.items.drop x.nHead).take x.nFirn)

/-- Words in the head. -/
def Queue.headWords (x : Queue) : Nat := wordsOf (x.items.take x.nHead)

/-- The visible items at an instant (R412). -/
def Queue.depth (x : Queue) (now : Nat) : Nat := (x.items.filter (fun i => decide (i.seenAt ≤ now))).length

/-- Free credits of a queue (R412, R414): its capacity less the words held and those that cannot be reserved again yet. -/
def Dev.credits (d : Dev) (q : Nat) : Nat :=
  let x := d.queue q
  d.nat (qKey q 2) - wordsOf x.items - ((x.back.filter (fun b => decide (d.fineNow < b.1))).map (·.2)).sum

/-- Items that have taken effect move straight from the tail to the head while Firn is empty and the head has room (R416): 64 words each
(log 15). -/
def Queue.settle (now : Nat) : Nat → Queue → Queue
  | 0, x => x
  | fuel + 1, x =>
    match x.items.drop x.nHead with
    | [] => x
    | i :: _ =>
      if x.nFirn = 0 ∧ x.headWords + i.words ≤ 64 ∧ i.seenAt ≤ now then Queue.settle now fuel { x with nHead := x.nHead + 1 } else x

/-- An item takes its place in the tail (R412): after those that take effect before it, and among those of its cycle by SOURCE. -/
def placeItem (it : QItem) : List QItem → List QItem
  | [] => [it]
  | x :: xs => if it.seenAt < x.seenAt ∨ (it.seenAt = x.seenAt ∧ it.src < x.src) then it :: x :: xs else x :: placeItem it xs

/-- Firn in use, 3F10:03, with its alert and the hysteresis (R417). -/
def Dev.firnStatus (d : Dev) : Dev :=
  let used := (d.sched.queues.map (fun (x : Nat × Queue) => 4 * x.2.firnWords)).sum
  let size := d.nat 0x3F1001 * 1048576
  let d := d.setN 0x3F1003 (used : Nat)
  let above := decide (d.nat 0x3F1002 * size < used * 100)
  let below := decide (used * 100 < (d.nat 0x3F1002 - 5) * size)
  let d := d.raiseIf (above && !d.sched.firnHigh) 451 0
  { d with sched := { d.sched with firnHigh := (d.sched.firnHigh || above) && !below } }

/-- The level event of a queue (R418): raised when depth passes the level, and armed again once it has fallen below. -/
def Dev.queueLevel (d : Dev) (q depth : Nat) : Dev :=
  let level := d.nat (qKey q 4)
  let x := d.queue q
  let high := decide (level ≠ 0 ∧ level ≤ depth)
  (d.setQueue q { x with above := high, peak := max x.peak depth }).raiseIf (high && !x.above) 448 q

/-- A buffer of the frame pool that is not in use, of its 8,192, if there is one (R411): the first from a free number on (log 93). -/
def Dev.freeBuffer (d : Dev) : Option Nat :=
  let used := d.sched.queues.flatMap (fun (x : Nat × Queue) => x.2.items.filterMap (·.buf))
    ++ d.sched.jobs.flatMap (fun (x : Nat × Job) => (x.2.held ++ x.2.again).filterMap (fun i => i.2.buf))
  let first := d.freeN
  ((List.range 8192).map (fun b => (first + b) % 8192)).find? (fun b => !used.contains b)

/-- A push (R412, R413): its result code. A pipeline's refusal is counted and reported as R392 says, any other with source 449. -/
def Dev.push (d : Dev) (q : Nat) (it : QItem) : Dev × Nat :=
  let x := d.queue q
  let pipe := decide (it.src = 8 ∨ it.src = 9)
  let code :=
    if !d.up 9 then 5
    else if !d.queueExists q then 3
    else if it.words = 0 ∨ 16 < it.words then 4
    else if d.credits q < it.words then 2
    else if x.told.testBit it.src then 1
    else 0
  if 2 ≤ code then
    let d := if code = 5 then d.notReady 9 else d
    let d := d.setQueue q { x with refused := min (x.refused + 1) 0xFFFFFFFF }
    let x := d.queue q
    if pipe then
      let d := d.inc32 0x3A5004
      if d.dueSec x.creditAt then ((d.setQueue q { x with creditAt := some d.clk.now }).raise 393 q, code) else (d, code)
    else if d.dueSec x.refuseAt then ((d.setQueue q { x with refuseAt := some d.clk.now }).raise 449 q, code)
    else (d, code)
  else
    let seen := d.fineNow + it.words * queueCycle
    let x := x.settle d.fineNow 16
    let sure := x.nHead + x.nFirn
    let x' : Queue := { x with
      items := x.items.take sure ++ placeItem { it with seenAt := seen } (x.items.drop sure)
      told := if x.told.testBit it.src then x.told - 2 ^ it.src else x.told
      back := x.back.filter (fun b => decide (d.fineNow < b.1)), accepted := min (x.accepted + 1) 0xFFFFFFFF }
    ((d.setQueue q x').queueLevel q (x'.depth seen), code)

/-- A producer pushes an item (R412). -/
def queuePush (q : Nat) (it : QItem) (d : Dev) : Dev :=
  let r := d.push q it
  r.1.emit .pushResult [q, it.src] [r.2]

def execQueuePush (dt : Nat) (queue : Fin 256) (src typ tag words : Nat) (flds : List Nat) (s : State) : Out :=
  onDev s dt (queuePush queue.val { src := src, typ := typ, tag := tag, words := words, buf := none, flds := flds, seenAt := 0 })

/-- The bin of a wait in model ticks (R432). -/
def waitBin (t : Nat) : Nat := if t / 1250 = 0 then 0 else min 15 (Nat.log2 (t / 1250) + 1)

/-- Items of Firn that refill the head: the oldest, until a block of 64 words has moved (R416). -/
def Queue.refill (x : Queue) : Queue :=
  let firn := (x.items.drop x.nHead).take x.nFirn
  let n := (firn.foldl (fun (a : Nat × Nat) i => if 64 ≤ a.2 then a else (a.1 + 1, a.2 + i.words)) (0, 0)).1
  { x with nHead := x.nHead + n, nFirn := x.nFirn - n }

/-- The words of an item: its header (R410) and its payload, that of a frame descriptor laid out as R411 says. -/
def QItem.encode (i : QItem) : List Nat :=
  let head := i.src % 256 * 2 ^ 24 + i.typ % 256 * 2 ^ 16 + i.tag % 256 * 256 + i.words % 32
  match i.buf, i.flds with
  | some _, [b, vid, port, len, off, size, hd] =>
    [head, b % 2 ^ 32, vid % 4096 + port % 8 * 4096 + len % 65536 * 65536, off % 65536 + size % 65536 * 65536]
      ++ (List.range 6).map (fun k => hd / 2 ^ (32 * k) % 2 ^ 32)
  | _, l => head :: l.map (fun w => w % 2 ^ 32)

/-- A pop takes the oldest visible item whole (R414, R415); with its head empty it waits for the refill (R416). -/
def Dev.pop (d : Dev) (q : Nat) : Dev × Option QItem :=
  let x := (d.queue q).settle d.fineNow 16
  let x := if x.nHead = 0 ∧ x.nFirn ≠ 0 then x.refill else x
  match x.items with
  | [] => (d, none)
  | i :: rest =>
    if d.fineNow < i.seenAt then (d, none)
    else
      let wait := (d.fineNow - i.seenAt) / 16
      let x : Queue := { x with
        items := rest, nHead := x.nHead - 1
        back := (d.fineNow + 2 * queueCycle, i.words) :: x.back.filter (fun b => decide (d.fineNow < b.1))
        pops := min (x.pops + 1) 0xFFFFFFFF, hist := tabMod x.hist (waitBin wait) 0 (fun n => min (n + 1) 0xFFFFFFFF) }
      let x := x.settle d.fineNow 16
      (((d.setQueue q x).queueLevel q (x.depth d.fineNow)).firnStatus, some i)

/-- The task slot that a consumer pops for: the one that runs on the logical core with its number. -/
def Dev.poppedFor (d : Dev) (consumer : Nat) : Option (Nat × Job) :=
  (tabGet d.sched.cores consumer).bind (fun c => c.run.bind (fun j => (tabGet d.sched.jobs j).map (fun x => (j, x))))

/-- A task holds an item that it has popped until its dispatch ends (R543). -/
def Dev.holdItem (d : Dev) (j : Nat) (x : Job) (q : Nat) (i : QItem) (again : List (Nat × QItem)) : Dev :=
  { d with sched := { d.sched with jobs := tabPut d.sched.jobs j { x with held := x.held ++ [(q, i)], again := again } } }

/-- A consumer, a logical core or another, pops a queue (R414): it is given the item, or told EMPTY. The task of a dispatch that was cut short is
given the items popped in it first, in the same order (R543). While the memory island is not in state 3 the pop completes with a not-ready reply
(R17). -/
def queuePop (q consumer : Nat) (d : Dev) : Dev :=
  if !d.up 9 then d.notReady 9
  else
    let give (d : Dev) (i : QItem) : Dev := d.emit .popResult [q] (1 :: i.encode.map Int.ofNat)
    let fresh : Dev :=
      let r := d.pop q
      match r.2, d.poppedFor consumer with
      | none, _ => r.1.emit .popResult [q] [0]
      | some i, some (j, x) => give (r.1.holdItem j x q i x.again) i
      | some i, none => give r.1 i
    match d.poppedFor consumer with
    | none => fresh
    | some (j, x) =>
      match x.again.findIdx? (fun p => p.1 == q) with
      | none => fresh
      | some n => match x.again[n]? with
        | some p => give (d.holdItem j x q p.2 (x.again.eraseIdx n)) p.2
        | none => fresh

def execQueuePop (dt : Nat) (queue : Fin 256) (consumer : Nat) (s : State) : Out := onDev s dt (queuePop queue.val consumer)

/-- Discard every item of a queue (R419): credits return, producers are told, the loss is counted. -/
def Dev.emptyQueue (d : Dev) (q : Nat) : Dev :=
  let x := d.queue q
  let told := x.items.foldl (fun m i => m ||| 2 ^ i.src) x.told
  let back := if x.items = [] then x.back else (d.fineNow + 2 * queueCycle, wordsOf x.items) :: x.back
  (d.setQueue q { x with items := [], nHead := 0, nFirn := 0, told := told, back := back, above := false
                         lost := min (x.lost + x.items.length) 0xFFFFFFFF, flushes := min (x.flushes + 1) 0xFFFFFFFF }).firnStatus

/-- A flush of a queue (R419). -/
def Dev.flush (d : Dev) (q : Nat) : Dev := (d.emptyQueue q).raise 450 q

/-- A recovery of the memory island flushes every queue, with one event (R422). -/
def Dev.flushAll (d : Dev) : Dev := ((List.range 256).foldl Dev.emptyQueue d).raise 450 0xFFFF

/-- A write of 3E00 + q:05 (R419, R420). -/
def flushQueue (q : Nat) (_ : DVal) (d : Dev) : Dev × Nat := (d.flush q, 0)

def execQueueFlush (dt : Nat) (q : Req) (queue : Fin 256) (data : List Byte) (s : State) : Out :=
  onDev s dt (fun d => d.command q (0x3E00 + queue.val) 5 data (flushQueue queue.val))

/-- The tail spills to Firn in blocks of 256 bytes (R416): its oldest items, where they fill a block and the head cannot take
them. -/
def firnSpill (q : Nat) (d : Dev) : Dev :=
  d.when (d.up 9) (fun d =>
    let x := (d.queue q).settle d.fineNow 16
    let tail := (x.items.drop (x.nHead + x.nFirn)).filter (fun i => decide (i.seenAt ≤ d.fineNow))
    if wordsOf tail < 64 then d
    else
      let n := (tail.foldl (fun (a : Nat × Nat) i => if 64 ≤ a.2 then a else (a.1 + 1, a.2 + i.words)) (0, 0)).1
      (d.setQueue q { x with nFirn := x.nFirn + n }).firnStatus)

def execFirnSpill (dt : Nat) (queue : Fin 256) (s : State) : Out := onDev s dt (firnSpill queue.val)

/-- A head that holds fewer than 32 words is refilled from Firn (R416). -/
def firnRefill (q : Nat) (d : Dev) : Dev :=
  d.when (d.up 9 && decide ((d.queue q).headWords < 32) && decide ((d.queue q).nFirn ≠ 0)) (fun d =>
    (d.setQueue q ((d.queue q).refill.settle d.fineNow 16)).firnStatus)

def execFirnRefill (dt : Nat) (queue : Fin 256) (s : State) : Out := onDev s dt (firnRefill queue.val)

/-- Items of Firn with the word at which each begins. -/
def firnPlaces : Nat → List QItem → List (Nat × QItem)
  | _, [] => []
  | w, i :: is => (w, i) :: firnPlaces (w + i.words) is

/-- The items lost with a block of Firn: those that lie wholly or partly in it (R417). The rest keep their order. -/
def Dev.firnLoss (d : Dev) (q block : Nat) : Dev :=
  let x := d.queue q
  let places := firnPlaces 0 ((x.items.drop x.nHead).take x.nFirn)
  let hit (p : Nat × QItem) : Bool := decide (p.1 < 64 * block + 64) && decide (64 * block < p.1 + p.2.words)
  let gone := (places.filter hit).map (·.2)
  let kept := (places.filter (fun p => !hit p)).map (·.2)
  let told := gone.foldl (fun m i => m ||| 2 ^ i.src) x.told
  let x := { x with items := x.items.take x.nHead ++ kept ++ x.items.drop (x.nHead + x.nFirn), nFirn := kept.length, told := told
                    back := (d.fineNow + 2 * queueCycle, wordsOf gone) :: x.back
                    lost := min (x.lost + gone.length) 0xFFFFFFFF }
  ((d.setQueue q x).firnStatus).raise 452 q

/-- 3F10:04 clears the counts, peaks and histograms of 3F00:01 (R421). -/
def clearQueueStats (_ : DVal) (d : Dev) : Dev × Nat :=
  ({ d with sched := { d.sched with queues := d.sched.queues.map (fun (x : Nat × Queue) =>
      (x.1, { x.2 with peak := 0, accepted := 0, pops := 0, refused := 0, flushes := 0, lost := 0, hist := [] })) } }, 0)

def execQueueStatisticsClear (dt : Nat) (q : Req) (data : List Byte) (s : State) : Out :=
  onDev s dt (fun d => d.command q 0x3F10 4 data clearQueueStats)

/-- Queue status 3F00:01 (R421). -/
def Dev.queueStatus (d : Dev) : List Byte :=
  (List.range 256).flatMap (fun q =>
    let x := d.queue q
    ([x.depth d.fineNow, wordsOf x.items, x.firnWords, d.credits q, x.peak, x.accepted, x.pops, x.refused, x.flushes, x.lost]
      ++ (List.range 16).map (fun b => tabGetD x.hist b 0)).flatMap (leBytes 4))

end Sys2Proof.Machine
end

