-- ==== Sys2Proof/Machine/Jobs.lean ====
section
/-!
DEFINITION. The task scheduler (R423 to R433): task slots, ready lists, dispatch, timers and core status. The firmware's tasks
come with the commands that wake them (log 16).
-/
namespace Sys2Proof.Machine

/-- The task slot with a number: FREE where the firmware has made none. -/
def Dev.job (d : Dev) (j : Nat) : Job :=
  tabGetD d.sched.jobs j { state := 0, prio := 0, mask := 0, core := none, srcKind := 0, srcNum := 0, memo := false, readyAt := 0 }

/-- Change a task slot. -/
def Dev.setJob (d : Dev) (j : Nat) (x : Job) : Dev := { d with sched := { d.sched with jobs := tabPut d.sched.jobs j x } }

/-- The logical core with a number. -/
def Dev.core (d : Dev) (c : Nat) : Core := tabGetD d.sched.cores c core0

/-- Change a logical core. The times in which it runs a task are noted for its load (R433). -/
def Dev.setCore (d : Dev) (c : Nat) (x : Core) : Dev :=
  let old := d.core c
  let now := d.clk.now
  let x : Core :=
    if old.run.isNone && x.run.isSome then { x with since := now }
    else if old.run.isSome && x.run.isNone then
      { x with spans := (old.since, now) :: x.spans.filter (fun s => decide (now < s.2 + secT)) }
    else x
  { d with sched := { d.sched with cores := tabPut d.sched.cores c x } }

/-- The load of a core over the last second, in 0.01 %: the share of the time in which it runs a task (R433). -/
def Dev.loadOf (d : Dev) (c : Nat) : Nat :=
  let x := d.core c
  let now := d.clk.now
  let from_ := now - secT
  let spans := (if x.run.isSome then [(x.since, now)] else []) ++ x.spans
  min ((spans.map (fun s => s.2 - max s.1 from_)).sum * 10000 / secT) 10000

/-- Priority in force (R426): the override of 4003:01, else the firmware's. -/
def Dev.prioOf (d : Dev) (j : Nat) : Nat :=
  let b := fieldN (d.oct 0x400301) (2 * j) 1
  if b = 0xFF then (d.job j).prio else b

/-- Affinity mask in force (R426). -/
def Dev.maskOf (d : Dev) (j : Nat) : Nat :=
  let b := fieldN (d.oct 0x400301) (2 * j + 1) 1
  if b = 0 then (d.job j).mask else b

/-- The physical core of a logical core, 0xFF for none (R547, 4842:01). -/
def Dev.physical (d : Dev) (c : Nat) : Nat := fieldN (d.oct 0x484201) c 1

/-- Logical cores in service: those with a physical core (R543). -/
def Dev.coresInService (d : Dev) : List Nat := (List.range 7).filter (fun c => decide (d.physical c ≠ 0xFF))

/-- The core that COOL parks: the highest-numbered in service, while all seven are (R24, R543). -/
def Dev.parkedCore (d : Dev) : Option Nat :=
  if d.nat 0x204002 = 2 ∧ d.coresInService.length = 7 then some 6 else none

/-- Active cores. -/
def Dev.activeCores (d : Dev) : List Nat := d.coresInService.filter (fun c => d.parkedCore != some c)

/-- The cores on which a task may be placed (R424); a mask that names no active core gives the lowest active one (R543). -/
def Dev.coresFor (d : Dev) (j : Nat) : List Nat :=
  let l := d.activeCores.filter (fun c => (d.maskOf j).testBit c)
  if l = [] then d.activeCores.take 1 else l

/-- The element of a list with the least value, the first of equals. -/
def leastBy (f : Nat → Nat) : List Nat → Option Nat
  | [] => none
  | x :: xs => match leastBy f xs with
    | none => some x
    | some y => if f y < f x then some y else some x

/-- The oldest task of the highest level of a ready list. -/
def Dev.topOf (d : Dev) (l : List Nat) : Option Nat := leastBy (fun j => 31 - d.prioOf j) l

/-- Dispatch a task on a core (R424): the wait goes into the histogram, and a long one raises 454. -/
def Dev.dispatch (d : Dev) (c j : Nat) : Dev :=
  let x := d.core c
  let w := d.clk.now - (d.job j).readyAt
  let d := d.setCore c { x with run := some j, ready := x.ready.filter (fun i => i != j), runs := min (x.runs + 1) 0xFFFFFFFF
                                hist := tabMod x.hist (waitBin w) 0 (fun n => min (n + 1) 0xFFFFFFFF) }
  let d := d.setJob j { d.job j with state := 4, core := some c }
  if d.nat 0x400002 * 1250 < w ∧ d.dueSec d.sched.waitAt then
    ({ d with sched := { d.sched with waitAt := some d.clk.now } }).raise 454 j
  else d

/-- Put a task on a core's ready list, at its tail or, for a pre-empted one, at the head of its level. -/
def Dev.enlist (d : Dev) (c j : Nat) (front : Bool) : Dev :=
  let x := d.core c
  let l := if front then j :: x.ready else x.ready ++ [j]
  (d.setCore c { x with ready := l, peak := max x.peak (l.length % 65536) }).setJob j { d.job j with state := 3, core := some c }

/-- A READY task is placed by the rules of R424; since when it is READY and a wake that it remembers stay as they are. -/
def Dev.placeReady (d : Dev) (j : Nat) : Dev :=
  let cores := d.coresFor j
  let p := d.prioOf j
  match cores.find? (fun c => (d.core c).run.isNone && (d.core c).ready.isEmpty) with
  | some c => d.dispatch c j
  | none =>
    let level (c : Nat) : Nat := match (d.core c).run with
      | some r => d.prioOf r
      | none => 0
    match leastBy level (cores.filter (fun c => (d.core c).run.isSome && decide (level c < p))) with
    | some c =>
      let old := (d.core c).run
      let x := d.core c
      let d := d.setCore c { x with run := none, preempts := min (x.preempts + 1) 0xFFFFFFFF }
      let d := match old with
        | some r => d.enlist c r true
        | none => d
      d.dispatch c j
    | none =>
      match leastBy (fun c => ((d.core c).ready.filter (fun i => decide (p ≤ d.prioOf i))).length) cores with
      | some c => d.enlist c j false
      | none => d

/-- A task becomes READY and is placed (R424). -/
def Dev.placeJob (d : Dev) (j : Nat) : Dev :=
  (d.setJob j { d.job j with state := 3, readyAt := d.clk.now, memo := false }).placeReady j

/-- A wake (R424, R425): a task that is READY or RUNNING remembers one; a SUSPENDED one is not woken, and a DELAYED one by its timer alone
(R423). -/
def Dev.wakeJob (d : Dev) (j : Nat) (timer : Bool) : Dev :=
  match (d.job j).state with
  | 1 => d.placeJob j
  | 2 => if timer then d.placeJob j else d
  | 3 => d.setJob j { d.job j with memo := true }
  | 4 => d.setJob j { d.job j with memo := true }
  | _ => d

/-- A task slot is woken by a source. A FREE slot is one that the firmware has just made, with its priority and mask. A BLOCKED task is woken by
the source that it waits for alone, and by a queue only where that holds an item (R423). -/
def taskReady (j prio mask kind num : Nat) (d : Dev) : Dev :=
  let x := d.job j
  d.when (d.up 8 && (decide (x.state ≠ 1) || (decide (x.srcKind = kind ∧ x.srcNum = num)
      && (decide (kind ≠ 1) || decide (0 < (d.queue num).depth d.fineNow))))) (fun d =>
    let d := if x.state = 0 then
        d.setJob j { state := 1, prio := prio % 32, mask := mask % 128, core := none, srcKind := kind, srcNum := num, memo := false
                     readyAt := d.clk.now }
      else d
    d.wakeJob j false)

def execTaskReady (dt : Nat) (slot : Fin 256) (prio mask kind num : Nat) (s : State) : Out :=
  onDev s dt (taskReady slot.val prio mask kind num)

/-- A core without a running task dispatches the head of its highest list, or takes a task from another core (R424). -/
def Dev.nextJob (d : Dev) (c : Nat) : Dev :=
  if !d.activeCores.contains c then d
  else match d.topOf (d.core c).ready with
    | some j => d.dispatch c j
    | none =>
      let others := (List.range 7).flatMap (fun k => (d.core k).ready)
      let fit := others.filter (fun j => (d.maskOf j).testBit c)
      let top := (d.topOf fit).map (fun j => d.prioOf j)
      match leastBy (fun j => (d.job j).readyAt) (fit.filter (fun j => some (d.prioOf j) == top)) with
      | none => d
      | some j =>
        let d := match (d.job j).core with
          | some k => d.setCore k { d.core k with ready := (d.core k).ready.filter (fun i => i != j) }
          | none => d
        d.dispatch c j

/-- The scheduler scale (R427): the engine scale, in ns. -/
def Dev.schedNs (d : Dev) : Int := d.engNs

/-- Show the timers in use, 4011:01 and 4011:02 (R428). -/
def Dev.timerStatus (d : Dev) : Dev :=
  let n := d.sched.timers.length
  (d.setN 0x401101 (n : Nat)).setN 0x401102 (max (d.nat 0x401102) n : Nat)

/-- Start a timer for a task (R428): the lowest free of 1,024, else refused with source 455. -/
def Dev.startTimer (d : Dev) (j delayNs : Nat) : Dev :=
  match tabFree d.sched.timers 1024 with
  | some k =>
    let d := { d with sched := { d.sched with timers := tabPut d.sched.timers k (j, d.schedNs + delayNs) } }
    (d.setJob j { d.job j with srcKind := 2, srcNum := k }).timerStatus
  | none =>
    if d.dueSec d.sched.timerAt then ({ d with sched := { d.sched with timerAt := some d.clk.now } }).raise 455 0 else d

/-- A dispatch ends (R424): the task blocks on a source, waits for a timer, is suspended or freed; a remembered wake returns a
blocking task at once to READY (R425). Then the core takes its next task. -/
def dispatchEnd (c into kind num delayNs : Nat) (d : Dev) : Dev :=
  d.when (d.up 8) (fun d =>
    match (d.core c).run with
    | none => d.nextJob c
    | some j =>
      let d := d.setCore c { d.core c with run := none }
      let x := d.job j
      let d := d.setJob j { x with core := none, held := [], again := [], state := if into = 2 ∨ into = 5 ∨ into = 0 then into else 1, srcKind := kind, srcNum := num }
      let d := if into = 0 then { d with sched := { d.sched with jobs := tabDel d.sched.jobs j } } else d
      let d := if into = 2 ∧ !x.memo then d.startTimer j delayNs else d
      let d := if x.memo ∧ into ≠ 0 ∧ into ≠ 5 then d.placeJob j else d
      if (d.core c).run.isNone then d.nextJob c else d)

def execDispatchEnd (dt : Nat) (core : Fin 7) (into kind num delayNs : Nat) (s : State) : Out :=
  onDev s dt (dispatchEnd core.val into kind num delayNs)

/-- The first scheduler tick at or after a time (R427). -/
def schedTick (t : Int) : Int := -(-t / 100000) * 100000

/-- A task timer expires at the first tick at or after its expiry and wakes its task (R427). Those due before it, and at one tick those of an
earlier expiry or a lower number, act before it (R428). -/
def timerExpiry (k : Nat) (d : Dev) : Dev :=
  d.when (d.up 8) (fun d =>
    match tabGet d.sched.timers k with
    | none => d
    | some t =>
      let first := d.sched.timers.all (fun x => decide (t.2 < x.2.2 ∨ (t.2 = x.2.2 ∧ k ≤ x.1)))
      if d.schedNs < schedTick t.2 ∨ !first then d
      else (({ d with sched := { d.sched with timers := tabDel d.sched.timers k } }).timerStatus).wakeJob t.1 true)

def execTimerExpiry (dt : Nat) (timer : Fin 1024) (s : State) : Out := onDev s dt (timerExpiry timer.val)

/-- The load of a core over the last second, in 0.01 % (R426, R433): 453 when it first exceeds 4000:01. -/
def coreLoadAlert (c : Nat) (d : Dev) : Dev :=
  d.when (d.up 8) (fun d =>
    let x := d.core c
    let high := decide (d.nat 0x400001 * 100 < d.loadOf c)
    (d.setCore c { x with loadHigh := high }).raiseIf (high && !x.loadHigh) 453 c)

def execCoreLoadAlert (dt : Nat) (core : Fin 7) (s : State) : Out := onDev s dt (coreLoadAlert core.val)

/-- 4000:03 clears the counts, peaks and histograms of 4010:01 (R426). -/
def clearCoreStats (_ : DVal) (d : Dev) : Dev × Nat :=
  ({ d with sched := { d.sched with cores := d.sched.cores.map (fun (x : Nat × Core) =>
      (x.1, { x.2 with peak := 0, runs := 0, preempts := 0, hist := [] })) } }, 0)

def execSchedulerStatisticsClear (dt : Nat) (q : Req) (data : List Byte) (s : State) : Out :=
  onDev s dt (fun d => d.command q 0x4000 3 data clearCoreStats)

/-- The ready tasks of cores that are no longer active move to other cores at their priority, in their order (R24, R543). A
parked core finishes its dispatch; a core out of service has none. -/
def Dev.moveReady (d : Dev) : Dev :=
  (List.range 7).foldl (fun d c =>
    if d.activeCores.contains c then (if (d.core c).run.isNone then d.nextJob c else d)
    else
      let l := (d.core c).ready
      l.foldl Dev.placeReady (d.setCore c { d.core c with ready := [] })) d

/-- At a commit that changes 4003:01, a READY task whose priority or affinity changed goes to the tail of its new level (R425). -/
def Dev.replaceJobs (d : Dev) (old : List Byte) : Dev :=
  d.sched.jobs.foldl (fun (d : Dev) (x : Nat × Job) =>
    let j := x.1
    if (d.job j).state = 3 ∧ (old.drop (2 * j)).take 2 ≠ ((d.oct 0x400301).drop (2 * j)).take 2 then
      let d := match (d.job j).core with
        | some k => d.setCore k { d.core k with ready := (d.core k).ready.filter (fun i => i != j) }
        | none => d
      d.placeReady j
    else d) d

/-- The task table 4001:01 (R426). -/
def Dev.taskTable (d : Dev) : List Byte :=
  (List.range 256).flatMap (fun j =>
    let x := d.job j
    leBytes 1 x.state ++ leBytes 1 (d.prioOf j) ++ leBytes 1 (d.maskOf j) ++ leBytes 1 (x.core.getD 0xFF)
      ++ leBytes 2 (x.srcKind * 4096 + x.srcNum % 4096) ++ zeros 2 ++ Config.taskName j)

/-- Core status 4010:01 (R433). -/
def Dev.coreStatus (d : Dev) : List Byte :=
  (List.range 7).flatMap (fun c =>
    let x := d.core c
    leBytes 2 (d.loadOf c) ++ leBytes 2 x.ready.length ++ leBytes 2 x.peak ++ leBytes 1 (if d.parkedCore = some c then 1 else 0)
      ++ leBytes 1 (d.physical c) ++ leBytes 4 x.runs ++ leBytes 4 x.preempts
      ++ (List.range 32).flatMap (fun p => leBytes 1 (min 255 ((x.ready.filter (fun j => d.prioOf j == p)).length)))
      ++ (List.range 16).flatMap (fun b => leBytes 4 (tabGetD x.hist b 0)))

end Sys2Proof.Machine
end

