-- ==== Sys2Proof/Machine/Capture.lean ====
section
/-!
DEFINITION. The capture engine (R436 to R450): the frames and the header of a record, the commands, and what ends a capture. The samples come
with the command that completes a record.
-/
namespace Sys2Proof.Machine

/-- The sample at a place of a list; free where it was not delivered. -/
def Dev.sampleOr (d : Dev) (ss : List CapSample) (i : Nat) : CapSample :=
  match ss[i]? with
  | some s => s
  | none =>
    let free (k : Nat) : Nat := Config.freeNat (d.frees + 8 * i + k)
    { codes := (List.range 4).map (fun k => free k % 4096), pins := free 4 % 65536, signals := free 5 }

/-- OVER: a code at an end of the range (R437). -/
def codeOver (x : Nat) : Bool := decide (x = 0 ∨ x = 4095)

/-- The part of a frame that one analog input gives (R437): CODE with OVER in a RAW record, else MIN, MAX and OVER of the interval. -/
def analogPart (raw : Bool) (xs : List Nat) : List Byte :=
  let topBit (n : Nat) : Nat := if xs.any codeOver then 2 ^ n else 0
  if raw then leBytes 2 (xs.headD 0 + topBit 15)
  else leBytes 4 (xs.foldl min 4095 + xs.foldl max 0 * 65536 + topBit 31)

/-- The part of a frame that the probe lines give (R437): LINES in a RAW record, else AND below OR. -/
def probePart (raw : Bool) (ws : List Nat) : List Byte :=
  if raw then leBytes 4 (ws.headD 0)
  else leBytes 4 (ws.foldl (· &&& ·) 0xFFFFFFFF) ++ leBytes 4 (ws.foldl (· ||| ·) 0)

/-- One frame from the samples of its interval (R436): the enabled analog inputs in ascending number, then the probe word. -/
def Dev.frameOf (d : Dev) (ss : List CapSample) : List Byte :=
  let raw := decide (d.nat 0x420003 = 1)
  ((List.range 4).filter (fun i => d.bit 0x420001 i)).flatMap (fun i => analogPart raw (ss.map (fun s => s.codes.getD i 0)))
    ++ (if d.flag 0x420002 then probePart raw (ss.map d.probeWord) else [])

/-- `n` frames from samples in order, M to a frame (R436). -/
def Dev.framesOf (d : Dev) (ss : List CapSample) (n : Nat) : List Byte :=
  let m := d.nat 0x420003
  (List.range n).flatMap (fun k => d.frameOf ((List.range m).map (fun j => d.sampleOr ss (k * m + j))))

/-- The header of the record in hand (R449): `kept` frames, the trigger frame at `index`, first frame at a tick. -/
def Dev.capHeader (d : Dev) (kept index first : Nat) (stopped beyond : Bool) : List Byte :=
  let c := d.cap
  let b (x : Bool) (n : Nat) : Nat := if x then 2 ^ n else 0
  let flags1 := (d.nat 0x420001 % 16) + b (d.flag 0x420002) 8 + b (decide (d.nat 0x420003 = 1)) 9
  let flags2 := b c.short 0 + b beyond 1 + b c.forced 2 + b stopped 3 + b (decide (first ≤ d.servo.stepTick ∧ d.nat 0x220006 ≠ 0)) 4
    + b (decide (c.timeSt = 1)) 5 + b (decide (c.extra ≠ 0)) 6
  let h := leBytes 2 0x5043 ++ leBytes 1 1 ++ leBytes 1 c.seg ++ leBytes 2 flags1 ++ leBytes 2 flags2 ++ leBytes 2 d.frameSize
    ++ leBytes 1 (c.source + 16 * c.place) ++ leBytes 1 c.frac ++ leBytes 4 (d.nat 0x420003) ++ leBytes 4 kept ++ leBytes 4 index
    ++ leBytes 4 c.extra ++ leBytes 8 c.tick ++ (if c.timeSt = 0 then zeros 10 else time80Bytes c.time) ++ leBytes 4 c.steps
    ++ leBytes 8 first ++ leBytes 1 c.timeSt ++ [0]
  h ++ leBytes 4 (crc32c h)

/-- A record completes with `post` frames after the trigger frame (R443, R444). `ss` are the samples from FIRST_TICK on. -/
def Dev.capComplete (d : Dev) (post : Nat) (stopped : Bool) (ss : List CapSample) : Dev :=
  let k := d.trigFrame
  let pre := min k (d.nat 0x420005)
  let total := pre + 1 + post
  let kept := min total d.segFrames
  let beyond := decide (d.segFrames < total)
  let lost := total - kept
  let index := if lost ≤ pre then pre - lost else 0xFFFFFFFF
  let first := d.cap.start + (k - pre + lost) * d.frameTicks
  let r : CapRecord := { header := d.capHeader kept index first stopped beyond, frames := d.framesOf ss kept }
  let c := d.cap
  let seg := c.seg
  let d : Dev := { d with cap := { c with records := tabPut c.records seg r }, frees := d.frees + 8 * kept * d.nat 0x420003 }
  (((d.inc32 0x421002).setN 0x421001 0).capStatus).raise 480 seg

/-- After a record in continuous mode: the re-arm waits for its frame boundary, or the state is FULL (R443). -/
def Dev.capAfter (d : Dev) : Dev :=
  if d.nat 0x420008 = 1 then
    match d.freeSeg with
    | some _ =>
      let c := d.cap
      { d with cap := { c with rearm := some d.nextBoundary } }
    | none => d.setN 0x421001 4
  else d

/-- A write of 4203:01 (R446): arm, force trigger or stop. Another value is RANGE. A stop in state 3 makes the frame of the present tick the last of
the record. While a re-arm waits, the state reads 0, an arm is refused and a stop ends the waiting (log 43). -/
def captureCommand (ss : List CapSample) (v : DVal) (d : Dev) : Dev × Nat :=
  let st := d.capState
  match v.int.toNat with
  | 1 =>
    if st = 5 then (d.capRefuse 3, 0)
    else if st ≠ 0 ∨ d.cap.rearm.isSome then (d.capRefuse 1, 0)
    else match d.freeSeg with
      | none => (d.capRefuse 2, 0)
      | some s => (d.capFill s d.nextBoundary, 0)
  | 2 =>
    if st = 3 ∧ sampleAt d.cap.tick d.cap.frac = d.nextSample then (d, 0)
    else if st ≠ 1 ∧ st ≠ 2 then (d.capRefuse 4, 0)
    else (d.capTrigger (max d.nextSample d.cap.start) 0 2 8 true, 0)
  | 3 =>
    if st = 5 ∨ (st = 0 ∧ d.cap.rearm.isNone) then (d.capRefuse 5, 0)
    else if st = 3 then (d.capComplete (d.framesBefore d.clk.tick - d.trigFrame) true ss, 0)
    else
      let c := d.cap
      (({ d with cap := { c with rearm := none } }).setN 0x421001 0, 0)
  | _ => (d, 8)

def execCaptureArm (dt : Nat) (q : Req) (s : State) : Out :=
  onDev s dt (fun d => d.command q 0x4203 1 [1] (captureCommand []))
def execCaptureForceTrigger (dt : Nat) (q : Req) (s : State) : Out :=
  onDev s dt (fun d => d.command q 0x4203 1 [2] (captureCommand []))
def execCaptureStop (dt : Nat) (q : Req) (ss : List CapSample) (s : State) : Out :=
  onDev s dt (fun d => d.command q 0x4203 1 [3] (captureCommand ss))

/-- A segment came free in FULL: the engine re-arms at the next frame boundary (R445). -/
def Dev.capReopen (d : Dev) : Dev :=
  let c := d.cap
  ({ d with cap := { c with rearm := some d.nextBoundary } }).setN 0x421001 0

/-- A segment whose content is lost is freed (R545). -/
def Dev.capFree (d : Dev) (n : Nat) : Dev :=
  if d.cap.records.any (fun r => r.1 == n) then
    let d : Dev := { d with cap := { d.cap with records := d.cap.records.filter (fun r => r.1 != n) } }
    let d := d.capStatus
    if d.capState = 4 then d.capReopen else d
  else d

/-- A write of 4203:02 (R445, R446): a segment that holds a complete record is freed, or all with 0xFF. In FULL the engine
re-arms into it. -/
def captureRelease (v : DVal) (d : Dev) : Dev × Nat :=
  let n := v.int.toNat
  let none_ := (d.cap.records.filter (fun r => decide (n = 0xFF ∨ r.1 = n))).isEmpty
  if n ≠ 0xFF ∧ none_ then (d.capRefuse 6, 0)
  else
    let d : Dev := { d with cap := { d.cap with records := d.cap.records.filter (fun r => decide (n ≠ 0xFF ∧ r.1 ≠ n)) } }
    let d := d.capStatus
    let d := if d.capState = 4 ∧ !none_ then d.capReopen else d
    (d, 0)

def execCaptureRelease (dt : Nat) (q : Req) (data : List Byte) (s : State) : Out :=
  onDev s dt (fun d => d.command q 0x4203 2 data captureRelease)

/-- The pre-trigger fill is reached (R443). -/
def captureFillComplete (d : Dev) : Dev :=
  d.when (decide (d.capState = 1) && decide (d.nat 0x420005 ≤ d.framesBefore d.clk.tick)) (fun d => d.setN 0x421001 2)

def execCaptureFillComplete (dt : Nat) (s : State) : Out := onDev s dt captureFillComplete

/-- The inputs have been sampled up to the present tick (R434): the samples, 5 ticks apart, the last at the latest multiple of 5, go through the
condition of the source set (R441), and each trigger is placed by the edges that the TDC measured (R442). -/
def captureTrigger (ss : List CapSample) (edges : List TdcEdge) (d : Dev) : Dev :=
  d.when (d.up 3) (fun d => d.seeSamples edges (d.clk.tick / 5 * 5 + 5 - 5 * ss.length) ss)

def execCaptureTrigger (dt : Nat) (ss : List CapSample) (edges : List TdcEdge) (s : State) : Out := onDev s dt (captureTrigger ss edges)

/-- Fleet time reaches a comparator's target (R119, R120): its actions run, the capture trigger at the firing tick among them (R441, R442); a
one-shot disarms, a periodic one re-targets. -/
def comparatorFire (n : Nat) (d : Dev) : Dev :=
  let late := d.cmpLate.testBit n
  d.when (d.bit (cmpKey n 7) 0 && decide (d.timeState ≠ 0) && (late || decide (d.num (cmpKey n 2) * 65536 ≤ d.fleet))) (fun d =>
    let acts := d.nat (cmpKey n 4)
    let d := d.raiseIf (acts.testBit 0) (51 + n) (if late then 1 else 0)
    let d := if acts.testBit 1 && !d.quiet then d.emit .toutPulse [d.nat (cmpKey n 5)] [(d.fleetNs : Nat)] else d
    let d := if acts.testBit 2 && decide (d.nat 0x420101 = 6) then d.triggerSeen d.clk.tick 0 3 else d
    let d := (d.setBit (cmpKey n 7) 1 late).setLate n false
    if d.nat (cmpKey n 1) = 2 then
      d.setN (cmpKey n 2) (nextTarget (d.nat (cmpKey n 2)) (d.nat (cmpKey n 3)) d.fleetNs : Nat)
    else d.setBit (cmpKey n 7) 0 false)

def execComparatorFire (dt : Nat) (n : Fin 15) (s : State) : Out := onDev s dt (comparatorFire n.val)

/-- 4200:06 frames after the trigger frame have been stored (R443). -/
def captureRecordComplete (ss : List CapSample) (d : Dev) : Dev :=
  d.when (decide (d.capState = 3) && decide (d.trigFrame + 1 + d.nat 0x420006 ≤ d.framesBefore d.clk.tick)) (fun d =>
    (d.capComplete (d.nat 0x420006) false ss).capAfter)

def execCaptureRecordComplete (dt : Nat) (ss : List CapSample) (s : State) : Out := onDev s dt (captureRecordComplete ss)

/-- The re-arm boundary of continuous mode (R443, R445). -/
def captureRearm (d : Dev) : Dev :=
  match d.cap.rearm with
  | none => d
  | some t =>
    d.when (decide (d.capState = 0) && decide (t ≤ d.clk.tick)) (fun d =>
      match d.freeSeg with
      | some s => d.capFill s t
      | none =>
        let c := d.cap
        ({ d with cap := { c with rearm := none } }).setN 0x421001 4)

def execCaptureRearm (dt : Nat) (s : State) : Out := onDev s dt captureRearm

/-- The record of a segment, 4220:(k + 1); empty without a complete record (R450). -/
def Dev.capBlob (d : Dev) (k : Nat) : List Byte :=
  match tabGet d.cap.records k with
  | some r => r.header ++ r.frames
  | none => []

/-- The timebase island leaves state 3 (R448): a record in POST completes with STOPPED and the whole frames stored, the trigger frame in any case
(log 43), any other capture is discarded. -/
def Dev.capNoTick (d : Dev) : Dev :=
  if d.capState = 5 then d
  else
    let d := if d.capState = 3 then d.capComplete (d.framesBefore d.clk.tick - 1 - d.trigFrame) true [] else d
    let c := d.cap
    (({ d with cap := { c with rearm := none, last := none } }).setN 0x421001 5).raise 483 1

/-- The timebase island is back in state 3 (R448). -/
def Dev.capTick (d : Dev) : Dev := if d.capState = 5 then d.setN 0x421001 0 else d

/-- A recovery of the memory island discards every record and any capture (R448). -/
def Dev.capNoMemory (d : Dev) : Dev :=
  let c := d.cap
  let d : Dev := { d with cap := { c with records := [], rearm := none } }
  ((if d.capState = 5 then d else d.setN 0x421001 0).capStatus).raise 483 2

end Sys2Proof.Machine
end

