-- ==== Sys2Proof/Machine/Boot.lean ====
section
/-!
DEFINITION. Flash banks, the boot descriptor, what the boot ROM does at a start, and a fall-back (R516, R517, R522, R524,
R525).
-/
namespace Sys2Proof.Machine

/-- The bank with a number: 0 A, 1 B (R516). -/
def Update.bank (u : Update) (n : Nat) : Option Bank := if n = 0 then u.bankA else u.bankB

/-- Change a bank. -/
def Update.setBank (u : Update) (n : Nat) (b : Option Bank) : Update :=
  if n = 0 then { u with bankA := b } else { u with bankB := b }

/-- The version a descriptor gives for a bank: 0 where it holds no valid image (R516). -/
def bankVer : Option Bank → Int
  | some b => if b.good then b.ver else 0
  | none => 0

/-- The valid descriptor copy with the higher SEQ (R517). -/
def Update.desc (u : Update) : Option Desc :=
  match u.desc0, u.desc1 with
  | some a, some b => if a.seq < b.seq then some b else some a
  | some a, none => some a
  | none, b => b

/-- Write a new descriptor over the older copy (R517). -/
def Update.write (u : Update) (active : Nat) (trial : Bool) (starts : Nat) : Update :=
  let seq := ((u.desc.map (·.seq)).getD 0) + 1
  let x : Desc := { seq := seq, active := active, trial := trial, starts := starts, verA := bankVer u.bankA, verB := bankVer u.bankB }
  let first := match u.desc0, u.desc1 with
    | some a, some b => decide (a.seq < b.seq)
    | some _, none => false
    | none, _ => true
  if first then { u with desc0 := some x } else { u with desc1 := some x }

/-- The bank that runs. -/
def Update.running (u : Update) : Nat := (u.desc.map (·.active)).getD 0

/-- True during a trial, confirmed or failed (R522). -/
def Update.onTrial (u : Update) : Bool := (u.desc.map (·.trial)).getD false

/-- True where a bank's header, signature and digest stand (R517): a whole, checked image whose key is not revoked. -/
def Dev.bankOk (d : Dev) (n : Nat) : Bool :=
  match d.upd.bank n with
  | some b => b.good && !d.bit 0x462005 b.key
  | none => false

/-- Entries that a failed trial takes from the old settings area (R522). -/
def keptOnFailure (k : Key) : Bool :=
  let idx := k / 256
  decide (0x1000 ≤ idx ∧ idx ≤ 0x1FFF) || decide (idx = 0x2030) || decide (k = 0x3A3001) || decide (k = 0x3A4001)
    || decide (idx = 0x4600) || decide (idx = 0x4610)

/-- A fall-back to a bank (R524): the descriptor names it CONFIRMED, the cause is stored, and its settings area is in force
again exactly as it was left; commits made during the trial are lost. Event source 503 and the count follow at its start. -/
def Dev.fallBack (d : Dev) (bank cause : Nat) : Dev :=
  let u := d.upd.write bank false 0
  let u := { u with fallback := cause, fellBack := true, old := none, migrated := false }
  match d.upd.old with
  | some o => { d with upd := u, nv := o.1, nvDue := [], sw := { d.sw with kept := o.2 } }
  | none => { d with upd := u, nvDue := [] }

/-- The ROM enters recovery (R517, R530). -/
def Dev.enterRecovery (d : Dev) : Dev :=
  { d with upd := { d.upd with recovery := true, dfuState := 2, dfuError := 0, dfuImg := [] } }

/-- A fall-back by the ROM where the other bank stands, else recovery (R517). -/
def Dev.romFallBack (d : Dev) (other cause : Nat) : Dev :=
  if d.bankOk other then d.fallBack other cause else d.enterRecovery

/-- The first start on trial (R522): the settings of the running area are migrated into the other area; the old one stands. -/
def Dev.migrate (d : Dev) (bank : Nat) : Dev :=
  let img := ((d.upd.bank bank).map (·.img)).getD []
  let d := { d with upd := { d.upd with old := some (d.nv, d.sw.kept) } }
  match Config.migrate img d.nv with
  | some t => { d with nv := t, upd := { d.upd with migrated := true } }
  | none => { d with nv := d.nv.filter (fun e => keptOnFailure e.1), upd := { d.upd with migrated := false } }

/-- What the boot ROM does at a start (R517). -/
def Dev.bootRom (d : Dev) : Dev :=
  let d := { d with upd := { d.upd with recovery := false, waiting := false, source := none } }
  match d.upd.desc with
  | none => d.enterRecovery
  | some x =>
    let other := 1 - x.active
    if x.trial then
      if x.starts = 0 then
        let d := { d with upd := d.upd.write x.active true 1 }
        if d.bankOk x.active then d.migrate x.active else d.romFallBack other 4
      else d.romFallBack other 1
    else if d.bankOk x.active then d
    else d.romFallBack other 4

/-- The version, bank and schema in force, and the state of the inactive bank at a start (R518, R520, R525): a valid image gives
VERIFIED; one held whole and not yet verified is checked again; a download goes on from RESUME where the retention file was
kept, and else the bank is empty. -/
def Dev.showUpdate (d : Dev) : Dev :=
  let run := d.upd.running
  let oth := 1 - run
  let d := (d.setN 0x460102 run).setN 0x460103 (((d.upd.bank run).map (·.ver)).getD 0)
  let d := d.setN 0x460109 (((d.upd.bank run).map (·.schema)).getD 0)
  match d.upd.bank oth with
  | none => (((d.setN 0x460101 0).setN 0x460104 0).setN 0x460105 0)
  | some b =>
    if b.good then ((d.setN 0x460101 3).setN 0x460104 b.ver).setN 0x460105 (b.img.length : Nat)
    else if b.img.length = b.len then ((d.setN 0x460101 2).setN 0x460104 0).setN 0x460105 (b.len : Nat)
    else if d.upd.resume = 0 then
      (((({ d with upd := d.upd.setBank oth none }).setN 0x460101 0).setN 0x460104 0).setN 0x460105 0)
    else
      let d := { d with upd := d.upd.setBank oth (some { b with img := b.img.take d.upd.resume }) }
      ((d.setN 0x460101 1).setN 0x460104 0).setN 0x460105 (d.upd.resume : Nat)

/-- Open or restart the window's end: the Witness window closes with a cause (R508). -/
def Dev.closeWindow (d : Dev) (cause : Nat) : Dev :=
  if d.flag 0x461001 then
    (({ d with wit := { d.wit with window := none } }).setB 0x461001 false).raise 497 cause
  else d

/-- The retention file 2071:01 (R467, R509). -/
def Dev.retentionFile (d : Dev) : List Byte :=
  let body := leBytes 2 0x4B42 ++ leBytes 1 1 ++ [0] ++ leBytes 1 (if d.pwr.orderly then 1 else 0) ++ zeros 27
    ++ (d.upd.sigId ++ zeros 16).take 16 ++ leBytes 4 d.upd.resume ++ leBytes 1 d.upd.fallback
    ++ leBytes 1 (if d.wit.sealOff then 1 else 0) ++ zeros 6
  body ++ leBytes 4 (crc32c body)

/-- The retention file takes its reset values (R467, R509): no resume, no cause, seal monitoring on; both latches read set and
VBAK_LOST is shown (R506). -/
def Dev.loseFile (d : Dev) : Dev :=
  let d := { d with
    upd := { d.upd with resume := 0, sigId := zeros 16, fallback := 0 }
    wit := { d.wit with sealOff := false }
    pwr := { d.pwr with orderly := false } }
  d.setN 0x461005 (d.nat 0x461005 ||| 7 : Nat)

end Sys2Proof.Machine
end

