-- ==== Sys2Proof/Machine/Geometry.lean ====
section
/-!
DEFINITION. The track graph's records (R222 to R226), its geometry (R229 to R231), the zones (R233 to R238) and the vehicle
classes (R261). Lengths are in mm. Trigonometry is on rationals, by series, to 2^-56; every result that the device reports
is rounded to the millimetre (log 14).
-/
namespace Sys2Proof.Machine

/-- A rational to the nearest 2^-56. -/
def sharp (x : Rat) : Rat := (roundRat (x * 72057594037927936) : Rat) / 72057594037927936

/-- Square root of a rational that is not negative, to 2^-56. -/
def rootR (x : Rat) : Rat := (sqrtBits 120 (x * 5192296858534827628530496329220096).floor.toNat 0 : Nat) / 72057594037927936

/-- The terms of the sine or cosine series from the term `t` of order `n` on. -/
def trigSum : Nat → Nat → Rat → Rat → Rat
  | 0, _, _, _ => 0
  | k + 1, n, x2, t => t + trigSum k (n + 2) x2 (sharp (-(t * x2) / ((n + 1) * (n + 2) : Nat)))

/-- Sine of an angle in rad, for angles up to about 2π. -/
def sinR (x : Rat) : Rat := trigSum 24 1 (sharp (x * x)) x

/-- Cosine of an angle in rad. -/
def cosR (x : Rat) : Rat := trigSum 24 0 (sharp (x * x)) 1

/-- Half of π, to 2^-56. -/
def halfPi : Rat := 113187804032455044 / 72057594037927936

/-- Newton steps for the angle whose sine is `q`. -/
def asinStep : Nat → Rat → Rat → Rat
  | 0, _, x => x
  | k + 1, q, x => if cosR x = 0 then x else asinStep k q (sharp (x - (sinR x - q) / cosR x))

/-- The angle in [−π/2, π/2] whose sine is `q`. Above 1/2 in magnitude it is taken through the half angle. -/
def asinR (q : Rat) : Rat :=
  if 1 ≤ q then halfPi else if q ≤ -1 then -halfPi
  else if (if q < 0 then -q else q) ≤ 7 / 10 then asinStep 6 q q
  else
    let a := halfPi - asinStep 6 (rootR (1 - q * q)) (rootR (1 - q * q))
    if q < 0 then -a else a

/-- The angle of a vector, in (−π, π]. -/
def atan2R (y x : Rat) : Rat :=
  let r := rootR (x * x + y * y)
  if r = 0 then 0
  else
    let a := asinR (sharp (y / r))
    if 0 ≤ x then a else if 0 ≤ y then 2 * halfPi - a else -(2 * halfPi) - a

/-- A node record (R223). -/
structure NodeRec where
  e     : Int
  n     : Int
  u     : Int
  group : Nat
  task  : Bool
  park  : Bool
deriving DecidableEq

/-- An arc record (R224). -/
structure ArcRec where
  curv  : Int
  len   : Nat
  speed : Nat
  mask  : Nat
  rev   : Nat
  first : Nat
  count : Nat
  gear  : Bool
  to_   : Nat
  from_ : Nat
deriving DecidableEq

/-- The graph tables of 2C10 as bytes. -/
structure Graph where
  nodes  : List Byte
  arcs   : List Byte
  segs   : List Byte
  groups : List Byte

/-- The graph in force. -/
def Dev.graph (d : Dev) : Graph :=
  { nodes := d.oct 0x2C1001, arcs := d.oct 0x2C1002, segs := d.oct 0x2C1003, groups := d.oct 0x2C1004 }

/-- Number of nodes. -/
def Graph.nNodes (g : Graph) : Nat := g.nodes.length / 16
/-- Number of arcs. -/
def Graph.nArcs (g : Graph) : Nat := g.arcs.length / 24
/-- Number of segments. -/
def Graph.nSegs (g : Graph) : Nat := g.segs.length / 8
/-- Number of groups. -/
def Graph.nGroups (g : Graph) : Nat := g.groups.length / 4

/-- The node with an ID. -/
def Graph.node (g : Graph) (i : Nat) : Option NodeRec :=
  if i < g.nNodes then
    let b := (g.nodes.drop (16 * i)).take 16
    some { e := fieldI b 4 4, n := fieldI b 8 4, u := fieldI b 12 4, group := fieldN b 2 2
           task := (fieldN b 0 1).testBit 1, park := (fieldN b 0 1).testBit 0 }
  else none

/-- The arc with an ID. -/
def Graph.arc (g : Graph) (i : Nat) : Option ArcRec :=
  if i < g.nArcs then
    let b := (g.arcs.drop (24 * i)).take 24
    some { curv := fieldI b 20 4, len := fieldN b 16 4, speed := fieldN b 14 2, mask := fieldN b 12 2, rev := fieldN b 10 2
           first := fieldN b 8 2, count := fieldN b 7 1, gear := (fieldN b 6 1).testBit 0, to_ := fieldN b 2 2
           from_ := fieldN b 0 2 }
  else none

/-- The segment with an index: END and GROUP (R225). -/
def Graph.seg (g : Graph) (i : Nat) : Option (Nat × Nat) :=
  if i < g.nSegs then
    let b := (g.segs.drop (8 * i)).take 8
    some (fieldN b 4 4, fieldN b 0 2)
  else none

/-- The group with an ID: MARGIN and CLOSED (R226). -/
def Graph.group (g : Graph) (i : Nat) : Option (Nat × Bool) :=
  if i < g.nGroups then
    let b := (g.groups.drop (4 * i)).take 4
    some (fieldN b 2 2, (fieldN b 0 1).testBit 0)
  else none

/-- The segments of an arc in order: start chainage, end chainage, group. -/
def Graph.segsOf (g : Graph) (a : ArcRec) : List (Nat × Nat × Nat) :=
  ((List.range a.count).foldl (fun (acc : Nat × List (Nat × Nat × Nat)) i =>
    match g.seg (a.first + i) with
    | some s => (s.1, acc.2 ++ [(acc.1, s.1, s.2)])
    | none => acc) (0, [])).2

/-- The centre-line of an arc (R229): start, unit chord, chord length, curvature per mm, whole turning angle, geometric length. -/
structure Line where
  x0  : Rat
  y0  : Rat
  ux  : Rat
  uy  : Rat
  c   : Rat
  k   : Rat
  ang : Rat
  len : Rat

/-- The centre-line of an arc, where its nodes exist. -/
def Graph.line (g : Graph) (a : ArcRec) : Option Line :=
  match g.node a.from_, g.node a.to_ with
  | some p, some q =>
    let dx : Rat := (q.e - p.e : Int)
    let dy : Rat := (q.n - p.n : Int)
    let c := rootR (dx * dx + dy * dy)
    let k : Rat := (a.curv : Rat) / 1000000000
    let ang := 2 * asinR (k * c / 2)
    some { x0 := p.e, y0 := p.n, ux := if c = 0 then 1 else dx / c, uy := if c = 0 then 0 else dy / c
           c := c, k := k, ang := ang, len := if k = 0 then c else ang / k }
  | _, _ => none

/-- The tangent at the start of a centre-line. -/
def Line.tan0 (l : Line) : Rat × Rat :=
  let s := l.k * l.c / 2
  let co := rootR (max 0 (1 - s * s))
  (l.ux * co + l.uy * s, l.uy * co - l.ux * s)

/-- The point of a centre-line at a fraction of its length, and the tangent there. -/
def Line.at (l : Line) (f : Rat) : Rat × Rat × Rat × Rat :=
  if l.k = 0 then (l.x0 + l.ux * l.c * f, l.y0 + l.uy * l.c * f, l.ux, l.uy)
  else
    let t := l.tan0
    let phi := l.ang * f
    let s := sinR phi
    let co := cosR phi
    (l.x0 + (s * t.1 - (1 - co) * t.2) / l.k, l.y0 + (s * t.2 + (1 - co) * t.1) / l.k
      , t.1 * co - t.2 * s, t.2 * co + t.1 * s)

/-- The foot point of a point on a centre-line: fraction of the length within 0 to 1, and signed offset to the left. -/
def Line.foot (l : Line) (x y : Rat) : Rat × Rat :=
  let f : Rat :=
    if l.k = 0 then (if l.c = 0 then 0 else ((x - l.x0) * l.ux + (y - l.y0) * l.uy) / l.c)
    else
      let t := l.tan0
      -- centre of the circle; angle from the start radius in the sense of the curvature
      let cx := l.x0 - t.2 / l.k
      let cy := l.y0 + t.1 / l.k
      let ax := t.2 / l.k
      let ay := -t.1 / l.k
      let bx := x - cx
      let by_ := y - cy
      let phi := atan2R (ax * by_ - ay * bx) (ax * bx + ay * by_)
      if l.ang = 0 then 0 else phi / l.ang
  let far (q : Rat × Rat × Rat × Rat) : Rat := (x - q.1) * (x - q.1) + (y - q.2.1) * (y - q.2.1)
  -- beside a curved line the nearer end is the foot point, on whichever way round the circle it lies nearer
  let f := if l.k = 0 ∨ (0 ≤ f ∧ f ≤ 1) then max 0 (min 1 f) else if far (l.at 0) ≤ far (l.at 1) then 0 else 1
  let p := l.at f
  (f, p.2.2.1 * (y - p.2.1) - p.2.2.2 * (x - p.1))

/-- The zone result of a point (R236, R237): zone ID, speed, class mask, prefix length, ALERT, OUTSIDE, NO_GO. -/
structure Zone where
  id      : Nat
  speed   : Nat
  mask    : Nat
  plen    : Nat
  alert   : Bool
  outside : Bool
  noGo    : Bool
deriving DecidableEq, Repr

/-- The Morton code of two 24-bit numbers (R233). -/
def morton (a b : Nat) : Nat :=
  (List.range 24).foldl (fun m i =>
    m + (if a.testBit i then 2 ^ (2 * i) else 0) + (if b.testBit i then 2 ^ (2 * i + 1) else 0)) 0

/-- The prefix record of the longest match among records of 8 bytes (R236): length and zone ID. -/
def longestPrefix (m : Nat) (recs : List (List Byte)) : Option (Nat × Nat) :=
  recs.foldl (fun best r =>
    let w := leNat r
    let h := bitsOf w 15 11
    let hit := decide (bitsOf w 63 16 / 2 ^ (48 - 2 * h) = m / 2 ^ (48 - 2 * h))
    match hit, best with
    | false, b => b
    | true, none => some (h, bitsOf w 10 0)
    | true, some b => if b.1 < h then some (h, bitsOf w 10 0) else some b) none

/-- Classify a point through the zone trie (R236). -/
def classify (zones prefixes : List Byte) (e n : Int) : Zone :=
  let ue := e / 100 + 8388608
  let un := n / 100 + 8388608
  if ue < 0 ∨ 16777215 < ue ∨ un < 0 ∨ 16777215 < un then
    { id := 0xFFFF, speed := 0, mask := 0, plen := 0xFF, alert := false, outside := true, noGo := true }
  else
    match longestPrefix (morton ue.toNat un.toNat) (records 8 prefixes) with
    | none => { id := 0xFFFF, speed := 0xFFFF, mask := 0xFFFF, plen := 0xFF, alert := false, outside := false, noGo := false }
    | some (h, z) =>
      let w := leNat ((zones.drop (8 * z)).take 8)
      { id := z, speed := bitsOf w 31 16, mask := bitsOf w 47 32, plen := 2 * h, alert := w.testBit 1, outside := false
        noGo := w.testBit 0 }

/-- Classify a point in the zones in force. -/
def Dev.zoneAt (d : Dev) (e n : Int) : Zone := classify (d.oct 0x2C2001) (d.oct 0x2C2002) e n

/-- Trie nodes used by a prefix table (R238): the root, and one for each distinct value of the first 6s bits among prefixes
longer than 6s. -/
def trieNodes (recs : List (List Byte)) : Nat :=
  1 + ((List.range 7).map (fun s =>
    (((recs.filter (fun r => decide (6 * (s + 1) < 2 * bitsOf (leNat r) 15 11))).map
      (fun r => bitsOf (leNat r) 63 16 / 2 ^ (48 - 6 * (s + 1)))).eraseDups).length)).sum

/-- The zone summary of a segment (R270): lowest speed, AND of class masks, and whether any sample is NO_GO or OUTSIDE. -/
def zoneSummary (g : Graph) (zones prefixes : List Byte) (a : ArcRec) (c0 c1 : Nat) : Nat × Nat × Bool :=
  match g.line a with
  | none => (0xFFFF, 0xFFFF, false)
  | some l =>
    let step : Rat := max 500 (((c1 - c0 : Nat) : Rat) / 1023)
    let n := (((c1 - c0 : Nat) : Rat) / step).floor.toNat
    let pts : List Rat := (List.range (n + 1)).map (fun i => (c0 : Rat) + step * (i : Nat)) ++ [(c1 : Rat)]
    pts.foldl (fun acc c =>
      let p := l.at (if a.len = 0 then 0 else c / a.len)
      let z := classify zones prefixes (roundRat p.1) (roundRat p.2.1)
      (min acc.1 z.speed, acc.2.1 &&& z.mask, acc.2.2 || z.noGo || z.outside)) (0xFFFF, 0xFFFF, false)

/-- A vehicle class record (R261). -/
structure ClassRec where
  dwell     : Nat
  emerg     : Nat
  jerk      : Nat
  decel     : Nat
  accel     : Nat
  vmaxRev   : Nat
  vmax      : Nat
  rear      : Nat
  front     : Nat
  reversing : Bool
  defined   : Bool
deriving DecidableEq, Repr

/-- A class record from its bytes. -/
def classOf (b : List Byte) : ClassRec :=
  { dwell := fieldN b 22 2, emerg := fieldN b 20 2, jerk := fieldN b 18 2, decel := fieldN b 16 2, accel := fieldN b 14 2
    vmaxRev := fieldN b 12 2, vmax := fieldN b 10 2, rear := fieldN b 8 2, front := fieldN b 6 2
    reversing := (fieldN b 0 1).testBit 1, defined := (fieldN b 0 1).testBit 0 }

/-- The record of a class number. -/
def Dev.cls (d : Dev) (k : Nat) : ClassRec := classOf (d.oct (0x340001 + k))

/-- A key of slot `n` (R180): offset within its block, and sub-index. -/
def slotKey (n off sub : Nat) : Key := (0x5000 + 32 * n + off) * 256 + sub

/-- The class number of a slot. -/
def Dev.slotClass (d : Dev) (n : Nat) : Nat := d.nat (slotKey n 0x10 1)

/-- True while a slot is enabled. -/
def Dev.slotOn (d : Dev) (n : Nat) : Bool := d.flag (slotKey n 0 1)

/-- Slot state of R183. -/
def Dev.slotState (d : Dev) (n : Nat) : Nat := d.nat (slotKey n 1 1)

/-- True where a slot is READY (R185). -/
def Dev.ready (d : Dev) (n : Nat) : Bool := decide (d.slotState n = 3)

end Sys2Proof.Machine
end

