-- ==== Sys2Proof/Machine/Holds.lean ====
section
/-!
DEFINITION. The reservation engine (R240 to R260): holds and their group order, the pieces in the buckets of seconds, the
four requests with the checks of R249, lapses, passing and force release.
-/
namespace Sys2Proof.Machine

/-- The vehicle state of a slot. -/
def Dev.car (d : Dev) (n : Nat) : Vehicle := tabGetD d.cars n vehicle0

/-- Change the vehicle state of a slot. -/
def Dev.setCar (d : Dev) (n : Nat) (v : Vehicle) : Dev := { d with cars := tabPut d.cars n v }

/-- Engine time now, in whole ms (R242). -/
def Dev.engMs (d : Dev) : Int := d.engNs / 1000000

/-- Offset of the engine scale from fleet time, in whole ns (R242). -/
def Dev.engShift (d : Dev) : Int := if d.timeState = 0 then d.engNs else d.clk.engOff / 65536

/-- A start on fleet time, in ms after BASE_S, as an engine ms: rounded towards minus infinity (R242). -/
def Dev.toEngLow (d : Dev) (base ms : Nat) : Int := (((base * 1000 + ms : Nat) : Int) * 1000000 + d.engShift) / 1000000

/-- An end as an engine ms: rounded towards plus infinity (R242). -/
def Dev.toEngHigh (d : Dev) (base ms : Nat) : Int := -(-(((base * 1000 + ms : Nat) : Int) * 1000000 + d.engShift) / 1000000)

/-- An engine start as fleet ms after BASE_S: rounded towards minus infinity. -/
def Dev.toReqLow (d : Dev) (base : Nat) (t : Int) : Int := (t * 1000000 - d.engShift) / 1000000 - base * 1000

/-- An engine end as fleet ms after BASE_S: rounded towards plus infinity. -/
def Dev.toReqHigh (d : Dev) (base : Nat) (t : Int) : Int := -(-(t * 1000000 - d.engShift) / 1000000) - base * 1000

/-- True for a hold without an end. -/
def Hold.open_ (h : Hold) : Bool := h.kind == .standing || h.kind == .park

/-- HIT_KIND of a hold (R248). -/
def Hold.code (h : Hold) : Nat :=
  match h.kind with
  | .interval => 1 | .standing => 2 | .park => 3 | .supervisor => 4

/-- True where a hold is present anywhere in [s, e), `none` standing for no end (R244). -/
def Hold.meets (h : Hold) (s : Int) (e : Option Int) : Bool :=
  (h.open_ || decide (s < h.stop)) && (match e with
    | some e => decide (h.start < e)
    | none => true)

/-- Insert in ascending order of start, behind those of the same start. -/
def insertHold (h : Hold) : List Hold → List Hold
  | [] => [h]
  | x :: xs => if h.start < x.start then h :: x :: xs else x :: insertHold h xs

/-- A supervisor hold whose end has come holds nothing more (R244); its record goes at the next bucket release. -/
def Dev.ended (d : Dev) (h : Hold) : Bool := h.kind == .supervisor && decide (h.stop ≤ d.engMs)

/-- The group order of a group (R241). -/
def Dev.order (d : Dev) (g : Nat) : List Hold :=
  (d.resv.holds.filter (fun h => h.group == g && !d.ended h)).foldl (fun acc h => insertHold h acc) []

/-- The holds of a path, in the order of the path. -/
def Dev.holdsOf (d : Dev) (p : Nat) : List Hold := d.resv.holds.filter (fun h => h.path == p && !d.ended h)

/-- Entries of the exact-match table in use: distinct groups and seconds (R243). -/
def Engine.entries (r : Engine) : Nat := ((r.pieces.map (fun p => (p.group, p.sec))).eraseDups).length

/-- Bring 2E20 into line, with the fill alert 261 and its hysteresis (R260). -/
def Dev.resStatus (d : Dev) : Dev :=
  let r := d.resv
  let count (k : HoldKind) := (r.holds.filter (fun h => h.kind == k)).length
  let used := r.entries
  let d := (d.setN 0x2E2001 used).setN 0x2E2002 (count .interval + count .supervisor : Nat)
  let d := ((d.setN 0x2E2003 (count .standing)).setN 0x2E2004 (count .park)).setN 0x2E2007 (max (d.nat 0x2E2007) used : Nat)
  let limit := d.nat 0x2E0002
  let above := decide (limit * 262144 < used * 100)
  let below := decide (used * 100 < (limit - 5) * 262144)
  let d := d.raiseIf (above && !d.resv.full) 261 0
  { d with resv := { d.resv with full := (d.resv.full || above) && !below } }

/-- The pieces that stay when a hold goes: it takes one piece out of each second that it spans (R243, R245). -/
def withoutHold (h : Hold) : List Int → List Piece → List Piece
  | _, [] => []
  | seen, p :: ps =>
    if p.path = h.path ∧ p.group = h.group ∧ h.start / 1000 ≤ p.sec ∧ p.sec * 1000 < h.stop ∧ p.sec ∉ seen then
      withoutHold h (p.sec :: seen) ps
    else p :: withoutHold h seen ps

/-- The end of each standing hold of a list raises event source 259 (R244). -/
def Dev.endStanding (d : Dev) (l : List Hold) : Dev := l.foldl (fun d h => d.raiseIf (h.kind == .standing) 259 h.group) d

/-- Remove holds that satisfy a test, with their pieces (R245). -/
def Dev.dropHolds (d : Dev) (f : Hold → Bool) : Dev :=
  let gone := d.resv.holds.filter f
  let d := ({ d with resv := { d.resv with
      holds := d.resv.holds.filter (fun h => !f h)
      pieces := gone.foldl (fun ps h => withoutHold h [] ps) d.resv.pieces } }).resStatus
  d.endStanding gone

/-- A stored interval in the making: merged items of one group (R243). -/
structure Merged where
  group : Nat
  start : Int
  stop  : Option Int
  last  : Int
  first : Nat
  arcs  : List Nat
  nodes : List Nat

/-- One item taken over: group, stored start and end, last chainage, arc and node named. -/
structure Taken where
  group : Nat
  start : Int
  stop  : Option Int
  last  : Int
  arc   : Nat
  node  : Option Nat

/-- The later of two ends, nothing standing for no end. -/
def laterEnd : Option Int → Option Int → Option Int
  | some a, some b => some (max a b)
  | _, _ => none

/-- Merge consecutive items on the same group into one interval that spans them (R243). -/
def mergeItems : Nat → List Taken → List Merged
  | _, [] => []
  | i, t :: ts =>
    match mergeItems (i + 1) ts with
    | m :: ms =>
      if m.group = t.group then
        { m with start := min t.start m.start, stop := laterEnd t.stop m.stop, first := i, arcs := t.arc :: m.arcs, nodes := t.node.toList ++ m.nodes } :: ms
      else { group := t.group, start := t.start, stop := t.stop, last := t.last, first := i, arcs := [t.arc], nodes := t.node.toList } :: m :: ms
    | [] => [{ group := t.group, start := t.start, stop := t.stop, last := t.last, first := i, arcs := [t.arc], nodes := t.node.toList }]

/-- What a request is refused for, or not: RESULT, INDEX and the hold found (R248, R249). -/
structure ResAns where
  code  : Nat
  index : Nat
  hit   : Option Hold := none

/-- Where the order check of a vehicle path stands (R247). -/
inductive Along where
  /-- Before the first item; a park's node where the path starts from one. -/
  | start (park : Option Nat)
  /-- Inside an arc, the next segment expected. -/
  | inArc (arc next : Nat)
  /-- At a node, reached over an arc. -/
  | atNode (node arc : Nat)
  /-- After the park item. -/
  | done

/-- One item of a vehicle path against R247: where the path then stands, or nothing where it is out of order. -/
def alongItem (g : Graph) (track : Option (Nat × Nat × Int)) (pos : Along) (it : ResItem) : Option Along :=
  match it.kind with
  | 0 =>
    match g.arc it.arc with
    | none => none
    | some a =>
      let seg := (g.segsOf a)[it.seg]?
      let ok := match seg with
        | some s => decide (s.2.2 = it.group) && (g.group it.group).isSome
        | none => false
      let joined := match pos with
        | .start (some n) => decide (a.from_ = n ∧ it.seg = 0)
        | .start none => match track with
          | some t => decide (t.1 = it.arc) || match g.arc t.1 with
            | some ta => (g.segsOf ta).any (fun s => decide (s.1 ≤ t.2.1 ∧ t.2.1 ≤ s.2.1 ∧ s.2.2 = it.group))
            | none => false
          | none => false
        | .inArc b k => decide (b = it.arc ∧ it.seg = k)
        | .atNode n _ => decide (a.from_ = n ∧ it.seg = 0)
        | .done => false
      if ok && joined then some (.inArc it.arc (it.seg + 1)) else none
  | 1 =>
    match pos, g.arc it.arc with
    | .inArc b k, some a =>
      if b = it.arc ∧ k = a.count then
        match g.node a.to_ with
        | some n => if n.group = it.group ∧ (g.group it.group).isSome ∧ it.seg = 0 then some (.atNode a.to_ b) else none
        | none => none
      else none
    | _, _ => none
  | _ =>
    match pos with
    | .atNode n b =>
      match g.node n with
      | some r => if b = it.arc ∧ r.group = it.group ∧ it.seg = 0 then some .done else none
      | none => none
    | _ => none

/-- The first item of a vehicle path that is out of order or out of time (code 6). -/
def alongAll (g : Graph) (track : Option (Nat × Nat × Int)) : Nat → Option (Nat × Nat) → Along → List ResItem → Option Nat
  | _, _, _, [] => none
  | i, prev, pos, it :: its =>
    let times := decide (it.start ≤ it.stop) && (match prev with
      | some (s, e) => decide (s ≤ it.start ∧ it.start ≤ e)
      | none => true)
    match alongItem g track pos it with
    | some p => if times then alongAll g track (i + 1) (some (it.start, it.stop)) p its else some i
    | none => some i

/-- The group that a vehicle without holds stands in: that of its track position (R230, R251). -/
def trackGroup (g : Graph) (t : Option (Nat × Nat × Int)) : Option Nat :=
  match t with
  | none => none
  | some (a, c, _) =>
    match g.arc a with
    | some r => match (g.segsOf r).find? (fun s => decide (c < s.2.1)) with
      | some s => some s.2.2
      | none => ((g.segsOf r).getLast?).map (fun s => s.2.2)
    | none => none

/-- True where a checked change set alters a record of a table (R256). -/
def Dev.alters (d : Dev) (k : Key) (size id : Nat) : Bool :=
  match tabGet d.cs.staged k with
  | some (.oct b) => decide (d.nat 0x201003 = 3) &&
      decide ((b.drop (size * id)).take size ≠ ((d.oct k).drop (size * id)).take size)
  | _ => false

/-- True where an item names a record that a checked change set alters (code 9). -/
def Dev.changing (d : Dev) (g : Graph) (it : ResItem) : Bool :=
  d.alters 0x2C1004 4 it.group || (decide (it.arc ≠ 0xFFFF) && (d.alters 0x2C1002 24 it.arc || (match g.arc it.arc with
    | some a => d.alters 0x2C1003 8 (a.first + it.seg) || (decide (it.kind ≠ 0) && d.alters 0x2C1001 16 a.to_)
    | none => false)))

/-- R246: PATH and SLOT are as the OP requires. -/
def reqAddressOk (r : ResReq) (op : Nat) : Bool :=
  if op = 4 then decide (r.path = 0xFFFF ∧ r.slot = 0xFF)
  else if r.path < 128 then decide (r.slot = r.path)
  else decide (r.slot = 0xFF)

/-- Code 1 of R249: -1 for the header, else the first offending item. -/
def reqMalformed (r : ResReq) (op : Nat) : Option Nat :=
  let n := r.count
  let countOk := if op = 3 then n = 0 else if op = 4 then n = 1 else 1 ≤ n ∧ n ≤ 2048
  if r.magic ≠ 0x5652 ∨ r.version ≠ 1 ∨ op = 0 ∨ 4 < op ∨ ¬countOk ∨ r.length ≠ 24 + 16 * n ∨ r.items.length ≠ n
      ∨ r.rsv ≠ 0 ∨ !(reqAddressOk r op) then some 0xFFFF
  else
    let plain := decide (128 ≤ r.path)
    r.items.findIdx? (fun it => decide (2 < it.kind) || decide (it.rsv ≠ 0) || decide (it.kind = 2 ∧ it.stop ≠ 0xFFFFFFFF)
      || (plain && decide (it.arc ≠ 0xFFFF ∨ it.kind = 2)))

/-- The node that an item names, for node and park items. -/
def itemNode (g : Graph) (it : ResItem) : Option Nat :=
  if it.kind = 0 then none else (g.arc it.arc).map (·.to_)

/-- Path chainages of the items: each segment's end counted on from `c` at `pos`, its start within its arc (R285). -/
def stretches (g : Graph) (front : Int) : Int → List ResItem → List PathItem
  | _, [] => []
  | base, it :: its =>
    match g.arc it.arc with
    | none => []
    | some a =>
      match it.kind with
      | 0 =>
        let s := ((g.segsOf a)[it.seg]?).getD (0, 0, 0)
        { arc := it.arc, seg := it.seg, kind := 0, group := it.group, c0 := base + s.1, c1 := base + s.2.1 }
          :: stretches g front base its
      | 1 => { arc := it.arc, seg := 0, kind := 1, group := it.group, c0 := base + a.len, c1 := base + a.len }
          :: stretches g front (base + a.len) its
      | _ => { arc := it.arc, seg := 0, kind := 2, group := it.group, c0 := base, c1 := base } :: stretches g front base its

/-- The path chainage at which the arc of a segment item starts. -/
def arcStart (g : Graph) (c : PathItem) : Int :=
  match g.arc c.arc with
  | some a => c.c0 - (((g.segsOf a)[c.seg]?).getD (0, 0, 0)).1
  | none => c.c0

/-- The park hold of a path and its node. -/
def Dev.parkOf (d : Dev) (p : Nat) : Option (Hold × Nat) :=
  match (d.holdsOf p).find? (fun h => h.kind == .park) with
  | some h => h.nodes.getLast?.map (fun n => (h, n))
  | none => none

/-- The whole seconds of a stored interval from now on; a park occupies none (R243). -/
def secsOf (now start : Int) : Option Int → List Int
  | none => []
  | some e =>
    let s := max start now / 1000
    (List.range ((e - 1) / 1000 - s + 1).toNat).map (fun i => s + (i : Nat))

/-- True for the stored interval that continues the park of its path (R251). -/
def Merged.joins (m : Merged) : Option Hold → Bool
  | some p => decide (p.group = m.group ∧ m.first = 0)
  | none => false

/-- Code 14 (R243, R249): the item of the first stored interval that finds a fifth piece in an entry, no free entry, or sixteen holds of
vehicle paths pending in its group. `own` and `mine` are the pieces and groups of the intervals before it. -/
def Dev.noRoom (d : Dev) (path : Nat) (park : Option Hold) (own : List (Nat × Int)) (mine : List Nat) : List Merged → Option Nat
  | [] => none
  | m :: ms =>
    let start := if m.joins park then min m.start ((park.map (·.start)).getD m.start) else m.start
    let new := (secsOf d.engMs start m.stop).map (fun x => (m.group, x))
    let pending := (d.resv.holds.filter (fun h => h.group == m.group && h.kind != .supervisor)).length + mine.count m.group
    let held (x : Nat × Int) : Nat := (d.resv.pieces.filter (fun p => p.group == x.1 && p.sec == x.2)).length
    let all := own ++ new
    if path < 128 ∧ !m.joins park ∧ 16 ≤ pending then some m.first
    else if new.any (fun x => decide (4 ≤ held x + own.count x)) then some m.first
    else if 262144 < d.resv.entries + (all.filter (fun x => decide (held x = 0))).eraseDups.length then some m.first
    else d.noRoom path park all (if m.joins park then mine else m.group :: mine) ms

/-- Checks of codes 10 to 14, for items already in order (R249). -/
def Dev.fits (d : Dev) (g : Graph) (r : ResReq) (merged : List Merged) : ResAns :=
  let now := d.engMs
  let closed := r.items.findIdx? (fun it => ((g.group it.group).map (·.2)).getD false)
  let passed := r.items.findIdx? (fun it => it.kind != 2 && decide (d.toEngHigh r.baseS it.stop ≤ now))
  let far := r.items.findIdx? (fun it => it.kind != 2 &&
    decide (now + 600000 < d.toEngHigh r.baseS it.stop + ((g.group it.group).map (·.1)).getD 0))
  match closed, passed, far with
  | some i, _, _ => { code := 10, index := i }
  | none, some i, _ => { code := 11, index := i }
  | none, none, some i => { code := 12, index := i }
  | none, none, none =>
    let clash (m : Merged) : Option Hold :=
      -- nothing is placed before the end of an inherited hold of another path (R493)
      (d.order m.group).find? (fun h => h.path != r.path && (h.meets m.start m.stop
        || (d.pair.inherited.contains h.path && (h.open_ || decide (m.start < h.stop)))))
    match merged.find? (fun m => (clash m).isSome) with
    | some m => { code := 13, index := m.first, hit := clash m }
    | none =>
      match d.noRoom r.path ((d.holdsOf r.path).find? (fun h => h.kind == .park)) [] [] merged with
      | some i => { code := 14, index := i }
      | none => { code := 0, index := 0xFFFF }

/-- Place stored intervals: the park that they continue is merged with the first (R251). -/
def Dev.place (d : Dev) (path : Nat) (merged : List Merged) : Dev :=
  let now := d.engMs
  let park := (d.holdsOf path).find? (fun h => h.kind == .park)
  let d := { d with resv := { d.resv with holds := d.resv.holds.filter (fun h => !(h.path == path && h.kind == .park)) } }
  let one (d : Dev) (m : Merged) : Dev :=
    let (start, nodes, arcs) := match park with
      | some p => if m.joins park then (min m.start p.start, p.nodes ++ m.nodes, p.arcs ++ m.arcs) else (m.start, m.nodes, m.arcs)
      | none => (m.start, m.nodes, m.arcs)
    let kind : HoldKind := if 128 ≤ path then .supervisor else if m.stop = none then .park else .interval
    let h : Hold := { path := path, group := m.group, kind := kind, start := start, stop := m.stop.getD 0, last := m.last
                      arcs := arcs, nodes := nodes, since := 0, alert := false }
    let ps : List Piece := (secsOf now start m.stop).map (fun x => { group := m.group, sec := x, path := path })
    { d with resv := { d.resv with holds := d.resv.holds ++ [h], pieces := d.resv.pieces ++ ps } }
  (merged.foldl one d).resStatus

/-- The stored form of the items of a request: margins added (R243). -/
def Dev.take_ (d : Dev) (g : Graph) (r : ResReq) (cs : List PathItem) : List Taken :=
  (r.items.zip (List.range r.items.length)).map (fun p =>
    let it := p.1
    let m : Int := ((g.group it.group).map (·.1)).getD 0
    { group := it.group, start := d.toEngLow r.baseS it.start - m
      stop := if it.kind = 2 then none else some (d.toEngHigh r.baseS it.stop + m)
      last := ((cs[p.2]?).map (·.c1)).getD 0, arc := it.arc, node := itemNode g it })

/-- The antenna's distance to the end that leads, and to the end that trails (R280). -/
def ends (c : ClassRec) (gear : Bool) : Nat × Nat := if gear then (c.rear, c.front) else (c.front, c.rear)

/-- RESERVE and EXTEND (R251). The path of the vehicle is built anew, or continued. -/
def Dev.hold (d : Dev) (op : Nat) (r : ResReq) : Dev × ResAns :=
  let g := d.graph
  let vehicle := decide (r.path < 128)
  let mine := d.holdsOf r.path
  let car := d.car r.path
  let park := d.parkOf r.path
  let onlyPark := mine.all (fun h => h.kind == .park)
  let fail (code index : Nat) : Dev × ResAns := (d, { code := code, index := index })
  if r.stepLow ≠ d.nat 0x220006 % 256 then fail 2 0xFFFF
  else if vehicle ∧ !d.ready r.path then fail 3 0xFFFF
  else if 1023 < r.path ∨ (op = 2 ∧ (mine = [] ∨ onlyPark)) then fail 4 0xFFFF
  else if op = 1 ∧ !onlyPark then fail 5 0xFFFF
  else
    let from_ : Along := .start (park.map (·.2))
    let order : Option Nat :=
      if vehicle then
        match r.items.head? with
        | some it =>
          if (match park with
              | some p => some p.1.group
              | none => trackGroup g car.track) ≠ some it.group then some 0 else alongAll g car.track 0 none from_ r.items
        | none => some 0
      else r.items.findIdx? (fun it => (g.group it.group).isNone || decide (it.stop ≤ it.start))
    match order with
    | some i => fail 6 i
    | none =>
      let lastNode := (r.items.getLast?).bind (fun it => if it.kind = 2 then itemNode g it else none)
      let parkOk := match lastNode.bind g.node with
        | some n => n.park
        | none => false
      if vehicle ∧ !parkOk then fail 7 (r.items.length - 1)
      else
        let cls := d.slotClass r.path
        match (if vehicle then r.items.findIdx? (fun it => match g.arc it.arc with
            | some a => !a.mask.testBit cls
            | none => true) else none) with
        | some i => fail 8 i
        | none =>
          match r.items.findIdx? (fun it => d.changing g it) with
          | some i => fail 9 i
          | none =>
            let base : Int := match op, car.path, park, car.track with
              | 2, some p, _, _ => ((p.items.getLast?).map (·.c1)).getD 0
              | _, _, none, some t => -(t.2.1 : Int)
              | _, _, _, _ => 0
            let cs := if vehicle then stretches g 0 base r.items else []
            let merged := mergeItems 0 (d.take_ g r cs)
            let ans := d.fits g r merged
            if ans.code ≠ 0 then (d, ans)
            else
              let d := d.place r.path merged
              if vehicle then
                let newArcs := (cs.filter (fun c => c.kind == 0)).foldl (fun (l : List (Nat × Int)) c =>
                  if l.any (fun x => x.1 == c.arc && decide (x.2 = arcStart g c)) then l else l ++ [(c.arc, arcStart g c)]) []
                let car := d.car r.path
                let old := if op = 2 then car.path else none
                let items := match old with
                  | some p => p.items.filter (fun i => i.kind != 2) ++ cs
                  | none => cs
                let p : Path :=
                  { items := items, arcs := (match old with
                      | some p => p.arcs ++ newArcs
                      | none => newArcs), grants := (match old with
                      | some p => p.grants
                      | none => []), depart := (match old with
                      | some p => p.depart
                      | none => d.engMs) }
                let gear := ((newArcs.head?).bind (fun x => (g.arc x.1).map (·.gear))).getD false
                let s0 : Rat := match op, park with
                  | 2, _ => car.s
                  | _, some _ => -((ends (d.cls cls) gear).1 : Rat)
                  | _, none => 0
                (d.setCar r.path { car with path := some p, s := s0, v := if op = 2 then car.v else 0, a := if op = 2 then car.a else 0 }, ans)
              else (d, ans)

/-- Distance in which the vehicle of a slot comes to rest at its limits in force (R251, R292). -/
def Dev.carStop (d : Dev) (n : Nat) : Rat :=
  let c := d.car n
  stopDist c.decel c.jerk c.v c.a

/-- True where the arc under the antenna is driven in reverse gear. -/
def Dev.inReverse (d : Dev) (n : Nat) : Bool :=
  match (d.car n).path with
  | none => false
  | some p =>
    let here := (p.arcs.filter (fun x => decide ((x.2 : Rat) ≤ max 0 (d.car n).s))).getLast?
    ((here.bind (fun x => (d.graph).arc x.1)).map (·.gear)).getD false

/-- The distance from the antenna to the leading end of a slot's vehicle. -/
def Dev.lead (d : Dev) (n : Nat) : Nat := (ends (d.cls (d.slotClass n)) (d.inReverse n)).1

/-- The distance from the antenna to the trailing end. -/
def Dev.trail (d : Dev) (n : Nat) : Nat := (ends (d.cls (d.slotClass n)) (d.inReverse n)).2

/-- RELEASE (R251): INDEX is the number of holds removed. -/
def Dev.release (d : Dev) (path : Nat) : Dev × ResAns :=
  if d.holdsOf path = [] then (d, { code := 4, index := 0xFFFF })
  else if 128 ≤ path then
    let n := (d.holdsOf path).length
    (d.dropHolds (fun h => h.path == path), { code := 0, index := n })
  else
    let g := d.graph
    let car := d.car path
    match car.path with
    | none => (d, { code := 0, index := 0 })
    | some p =>
      let rest : Rat := car.s + d.carStop path + d.lead path
      let safe (n : Option Nat) : Bool := ((n.bind g.node).map (·.park)).getD false
      let mine := d.holdsOf path
      -- the place in the path of the hold that holds an item
      let holder (i : PathItem) : Option Nat := mine.findIdx? (fun h => h.group == i.group && decide (i.c1 ≤ h.last))
      -- the node that the path departs from is held with its first segment, while that is held
      let start : List PathItem := match p.items.head? with
        | some i => if i.kind = 0 ∧ i.seg = 0 ∧ i.c0 = 0 ∧ safe ((g.arc i.arc).map (·.from_))
            ∧ (((g.arc i.arc).bind (fun a => g.node a.from_)).map (·.group)) = some i.group
          then [{ arc := i.arc, seg := 0, kind := 1, group := i.group, c0 := 0, c1 := 0 }] else []
        | none => []
      let nodes := start ++ p.items.filter (fun i => i.kind == 1 && safe ((g.arc i.arc).map (·.to_)))
      match nodes.find? (fun i => decide (rest ≤ (i.c1 : Int)) && (holder i).isSome) with
      | none => (d, { code := 0, index := 0 })
      | some last =>
        match (holder last).bind (fun k => (mine[k]?).map (fun h => (k, h))) with
        | none => (d, { code := 0, index := 0 })
        | some (k, at_) =>
          let later := mine.drop (k + 1)
          let d := d.dropHolds (fun h => decide (h ∈ later))
          let turn (h : Hold) : Hold := if h = at_ then { h with kind := .park, stop := 0, last := last.c1 } else h
          let d := ({ d with resv := { d.resv with
              holds := d.resv.holds.map turn, pieces := withoutHold at_ [] d.resv.pieces } }).resStatus
          let d := d.endStanding [at_]
          let first := p.arcs.take 1
          let items := p.items.filter (fun i => i.kind != 2 && decide (i.c1 ≤ last.c1)) ++ [{ last with kind := 2 }]
          let arcs := if p.arcs.any (fun x => decide (x.2 < last.c1)) then p.arcs.filter (fun x => decide (x.2 < last.c1)) else first
          (d.setCar path { d.car path with path := some { p with items := items, arcs := arcs } }, { code := 0, index := later.length })

/-- LOOKUP (R251): the first hold in the group order that is present in the window. -/
def Dev.lookup (d : Dev) (r : ResReq) : ResAns :=
  if r.stepLow ≠ d.nat 0x220006 % 256 then { code := 2, index := 0xFFFF }
  else match r.items.head? with
    | none => { code := 1, index := 0xFFFF }
    | some it =>
      if (d.graph.group it.group).isNone ∨ it.stop < it.start then { code := 6, index := 0 }
      else { code := 0, index := 0
             hit := (d.order it.group).find? (fun h => h.meets (d.toEngLow r.baseS it.start) (some (d.toEngHigh r.baseS it.stop))) }

/-- Length in bytes of the Cairn that would be taken now (R483, R484): header, and each section's head and its padded body. -/
def Dev.cairnLength (d : Dev) : Nat :=
  let sec (n : Nat) : Nat := 8 + (n + 7) / 8 * 8
  let ints (n : Nat) : Nat := ((tabGetD d.slots n slot0).ambs.filter (fun a => a.held || a.carried)).length
  let slots := ((List.range 128).filter (fun n => d.slotOn n)).map (fun n => 64 + 24 * ints n)
  let paths := d.cars.filterMap (fun (c : Nat × Vehicle) => c.2.path.map (fun p => 32 + 4 * p.arcs.length))
  64 + sec slots.sum + sec paths.sum + sec (20 * d.resv.holds.length)
    + sec (68 * (d.tasks.filter (fun (t : Nat × Task) => t.2.state != 0)).length)

/-- RESERVE and EXTEND as a unit of a pair answers them: none of a vehicle path is accepted once the FINAL Cairn of a switch-over
is taken (R500, log 20), and none that would make the next Cairn exceed its greatest length (R485). -/
def Dev.holdPaired (d : Dev) (op : Nat) (r : ResReq) : Dev × ResAns :=
  if d.pair.switch_ = 3 ∧ r.path < 128 then (d, { code := 3, index := 0xFFFF })
  else
    let res := d.hold op r
    if res.2.code = 0 ∧ d.nat 0x440201 ≠ 0 ∧ 3670016 < res.1.cairnLength then (d, { code := 14, index := 0xFFFF }) else res

/-- True where the vehicle of a hold has passed the group (R245): its rear is beyond the last stretch of its path there. -/
def Dev.passedBy (d : Dev) (h : Hold) : Bool :=
  let here (x : Hold) : Bool := x.path == h.path && x.group == h.group && x.kind != .park
  decide (h.path < 128) && here h
    && d.resv.holds.all (fun x => !here x || decide (x.last < d.num (slotKey h.path 0x11 3) - d.trail h.path))

/-- Insert in ascending order of end. -/
def insertByEnd (h : Hold) : List Hold → List Hold
  | [] => [h]
  | x :: xs => if h.stop < x.stop then h :: x :: xs else x :: insertByEnd h xs

/-- Intervals of vehicle paths whose end has come lapse into standing holds, each with event source 258 (R244). -/
def Dev.lapse (d : Dev) (f : Hold → Bool) : Dev :=
  let due (h : Hold) : Bool := f h && h.kind == .interval && decide (h.stop ≤ d.engMs)
  let gone := d.resv.holds.filter due
  if gone = [] then d
  else
    let turn (h : Hold) : Hold := if due h then { h with kind := .standing, since := h.stop } else h
    (gone.foldl (fun l h => insertByEnd h l) []).foldl (fun (d : Dev) h => d.raise 258 h.group)
      ({ d with resv := { d.resv with holds := d.resv.holds.map turn } }).resStatus

/-- The entries of ended buckets are freed, and ended supervisor holds hold nothing more (R244, R245). -/
def Dev.freeBuckets (d : Dev) : Dev :=
  let sec := d.engMs / 1000
  ({ d with resv := { d.resv with
      pieces := d.resv.pieces.filter (fun p => decide (sec ≤ p.sec))
      holds := d.resv.holds.filter (fun h => !d.ended h) } }).resStatus

/-- What has fallen due is applied before anything that starts later (R250): the holds passed, then the lapses. -/
def Dev.settleHolds (d : Dev) : Dev := (if d.resv.holds.any d.passedBy then d.dropHolds d.passedBy else d).lapse (fun _ => true)

/-- Run one request (R250, R251): what has fallen due comes first; counts, and event source 262 at most once a second for
each slot. -/
def Dev.request (d : Dev) (op : Nat) (r : ResReq) : Dev × ResAns :=
  let d := d.settleHolds
  let res := match reqMalformed r op with
    | some i => (d, ({ code := 1, index := i } : ResAns))
    | none =>
      match op with
      | 3 => if r.stepLow ≠ d.nat 0x220006 % 256 then (d, { code := 2, index := 0xFFFF }) else d.release r.path
      | 4 => (d, d.lookup r)
      | _ => d.holdPaired op r
  -- INDEX counts the holds removed by RELEASE, none where it is refused, and is 0 for LOOKUP (R248)
  let a : ResAns := if op = 4 ∨ (op = 3 ∧ res.2.code ≠ 0) then { res.2 with index := 0 } else res.2
  let d := if a.code = 0 then res.1.inc32 0x2E2005 else res.1.inc32 0x2E2006
  if a.code ≠ 0 ∧ 1 ≤ op ∧ op ≤ 3 then
    let last := tabGet d.resv.refusedAt r.slot
    let due := match last with
      | none => true
      | some t => decide (t + secT ≤ d.clk.now)
    if due then
      (({ d with resv := { d.resv with refusedAt := tabPut d.resv.refusedAt r.slot d.clk.now } }).raise 262
        (a.code * 256 + r.slot % 256), a)
    else (d, a)
  else (d, a)

/-- The 32 bytes of a result (R248). -/
def Dev.resultBytes (d : Dev) (op : Nat) (r : ResReq) (a : ResAns) : List Byte :=
  let t (x : Int) : List Byte := leBytes 4 (ofSigned 32 x)
  let hit := match a.hit with
    | none => leBytes 1 0 ++ leBytes 1 0xFF ++ leBytes 2 (Config.noHit 0) ++ leBytes 2 0xFFFF ++ leBytes 4 (Config.noHit 1)
        ++ leBytes 4 (Config.noHit 2 % 0xFFFFFFFF)
    | some h => leBytes 1 h.code ++ leBytes 1 (if h.path < 128 then h.path else 0xFF) ++ leBytes 2 h.group ++ leBytes 2 h.path
        ++ t (d.toReqLow r.baseS h.start) ++ (if h.open_ then leBytes 4 0xFFFFFFFF else t (d.toReqHigh r.baseS h.stop))
  leBytes 2 0x5652 ++ leBytes 1 1 ++ leBytes 1 (op + 0x80) ++ t (d.toReqLow r.baseS d.engMs) ++ leBytes 2 a.code
    ++ leBytes 2 r.path ++ leBytes 4 r.tag ++ leBytes 2 a.index ++ hit

/-- A request from the dictionary: its result stands in 2E11 (R260). In state 0 it is refused with STALE_SCALE (R85). -/
def Dev.dictRequest (d : Dev) (op : Nat) (r : ResReq) : Dev × ResAns :=
  let r := if d.timeState = 0 then { r with stepLow := (d.nat 0x220006 + 1) % 256 } else r
  let res := d.request op r
  let b := res.1.resultBytes op r res.2
  let h := (b :: res.1.resv.history).take 16
  (({ res.1 with resv := { res.1.resv with history := h } }).setO 0x2E1101 b |>.setO 0x2E1102 h.flatten, res.2)

/-- Read a request from its bytes (R246, R247): the OP and the fields. -/
def parseReq (b : List Byte) : Nat × ResReq :=
  let items := (records 16 (b.drop 24)).map (fun x =>
    ({ stop := fieldN x 12 4, start := fieldN x 8 4, group := fieldN x 6 2, arc := fieldN x 4 2, kind := fieldN x 3 1
       seg := fieldN x 2 1, rsv := fieldN x 0 2 } : ResItem))
  (fieldN b 3 1, { magic := fieldN b 0 2, version := fieldN b 2 1, rsv := fieldN b 4 3 + fieldN b 16 1, slot := fieldN b 7 1
                   path := fieldN b 8 2, count := fieldN b 10 2, tag := fieldN b 12 4, stepLow := fieldN b 17 1
                   baseS := fieldN b 18 6, length := b.length, items := items })

/-- Bytes of an item. -/
def itemBytes (it : ResItem) : List Byte :=
  leBytes 2 it.rsv ++ leBytes 1 it.seg ++ leBytes 1 it.kind ++ leBytes 2 it.arc ++ leBytes 2 it.group ++ leBytes 4 it.start
    ++ leBytes 4 it.stop

/-- Bytes of a request, cut or filled with zeros to its length. -/
def reqBytes (op : Nat) (r : ResReq) : List Byte :=
  let b := leBytes 2 r.magic ++ leBytes 1 r.version ++ leBytes 1 op ++ leBytes 3 r.rsv ++ leBytes 1 r.slot ++ leBytes 2 r.path
    ++ leBytes 2 r.count ++ leBytes 4 r.tag ++ leBytes 1 0 ++ leBytes 1 r.stepLow ++ leBytes 6 r.baseS
    ++ (r.items.map itemBytes).flatten
  (b ++ zeros (r.length - b.length)).take r.length

/-- An interval of a vehicle path lapses into a standing hold (R244): its end has come and its vehicle has not passed. -/
def intervalLapse (path group : Nat) (d : Dev) : Dev :=
  d.when (d.up 6) (fun d => d.lapse (fun h => h.path == path && h.group == group && !d.passedBy h))

def execIntervalLapse (dt : Nat) (path group : Nat) (s : State) : Out := onDev s dt (intervalLapse path group)

/-- A standing hold has lasted longer than 2E00:01 (R244). -/
def standingAlert (path group : Nat) (d : Dev) : Dev :=
  d.when (d.up 6) (fun d =>
    let due (h : Hold) : Bool := h.path == path && h.group == group && h.kind == .standing && !h.alert
      && decide (h.since + d.num 0x2E0001 < d.engMs)
    if d.resv.holds.any due then
      let turn (h : Hold) : Hold := if due h then { h with alert := true } else h
      ({ d with resv := { d.resv with holds := d.resv.holds.map turn } }).raise 268 group
    else d)

def execStandingAlert (dt : Nat) (path group : Nat) (s : State) : Out := onDev s dt (standingAlert path group)

/-- At a whole second of the engine scale the entries of the bucket that has just ended are freed (R245). Supervisor holds
whose end has passed hold nothing more. -/
def bucketRelease (d : Dev) : Dev :=
  d.when (d.up 6) (fun d => d.freeBuckets)

def execBucketRelease (dt : Nat) (s : State) : Out := onDev s dt bucketRelease

/-- 2E12:01 selects the group of 2E12:02 (R260). -/
def schedSelect (v : DVal) (d : Dev) : Dev × Nat := ({ d with resv := { d.resv with sched := v.int.toNat } }, 0)

def execScheduleGroupSelect (dt : Nat) (q : Req) (data : List Byte) (s : State) : Out :=
  onDev s dt (fun d => d.command q 0x2E12 1 data schedSelect)

/-- The group schedule 2E12:02: the holds of the selected group in group order, 16 bytes each (R260). -/
def Dev.schedule (d : Dev) : List Byte :=
  ((d.order d.resv.sched).map (fun h =>
    leBytes 1 h.code ++ leBytes 1 (if h.path < 128 then h.path else 0xFF) ++ leBytes 2 h.path
      ++ (if h.open_ then leBytes 4 0xFFFFFFFF else leBytes 4 (d.toReqHigh 0 h.stop - d.toReqLow 0 h.start).toNat)
      ++ leBytes 8 (d.toReqLow 0 h.start).toNat)).flatten

end Sys2Proof.Machine
end

