-- ==== Sys2Proof/Machine/Snapshot.lean ====
section
/-!
DEFINITION. The Cairn as a snapshot of a unit (R482 to R485), and a unit's state taken from one (R492, R214, R320).
-/
namespace Sys2Proof.Machine

/-- The position engine's state of a slot. -/
def Dev.slot (d : Dev) (n : Nat) : Slot := tabGetD d.slots n slot0

/-- Change the position engine's state of a slot. -/
def Dev.setSlot (d : Dev) (n : Nat) (x : Slot) : Dev := { d with slots := tabPut d.slots n x }

/-- The slots that are enabled, in ascending order. -/
def Dev.slotsOn (d : Dev) : List Nat := (List.range 128).filter (fun n => d.slotOn n)

/-- BASE_S of section 3: the seconds of INSTANT less 600 (R484). -/
def cairnBase (instant : Nat) : Nat := instant / 1000000000 - 600

/-- The slot records of section 1. -/
def Dev.cairnSlots (d : Dev) : List CairnSlot :=
  d.slotsOn.map (fun n =>
    let x := d.slot n
    { slot := n, state := d.slotState n, vehicle := d.nat (slotKey n 0 2), e := x.e, n := x.n, u := x.u
      ve := x.ve, vn := x.vn, vu := x.vu, sigE := x.sigE, sigN := x.sigN, sigU := x.sigU, base := x.base
      ints := (x.ambs.filter (fun a => a.held || a.carried)).map (fun a =>
        { sys := a.sys, band := a.band, sat := a.sat, pivot := a.pivot, n := a.n, sd := a.sd }) })

/-- The newest grant of a path that is released (R489). -/
def Vehicle.released (c : Vehicle) : Nat :=
  match c.path with
  | none => 0
  | some p => ((p.grants.find? (fun g => !c.heldBack.any (fun h => h.1 == g.id))).map (·.id)).getD 0

/-- The path records of section 2. -/
def Dev.cairnPaths (d : Dev) : List CairnPath :=
  (d.cars.filter (fun c => c.2.path.isSome)).map (fun c =>
    let n := c.1
    { slot := n, state := d.nat (slotKey n 0x11 2), task := d.nat (slotKey n 0x11 1), grant := c.2.released
      chain := d.num (slotKey n 0x11 3), speed := d.num (slotKey n 0x11 4), accel := roundRat c.2.a
      auth := d.num (slotKey n 0x11 5), rest := d.num (slotKey n 0x11 6)
      arcs := match c.2.path with
        | none => []
        | some p => p.arcs.map (fun x => (x.1, ((d.graph.arc x.1).map (·.gear)).getD false)) })

/-- The hold records of section 3: groups in ascending number, each group in its order; margins taken off again. -/
def Dev.cairnHolds (d : Dev) (instant : Nat) : List CairnHold :=
  let base := cairnBase instant
  let groups := ((d.resv.holds.map (·.group)).eraseDups).foldl (fun (l : List Nat) g => (l.filter (fun x => decide (x < g))) ++ g :: l.filter (fun x => decide (g < x))) []
  (groups.flatMap d.order).map (fun h =>
    let m : Int := ((d.graph.group h.group).map (·.1)).getD 0
    let s := d.toReqLow base (h.start + m)
    let e := d.toReqHigh base (h.stop - m)
    { path := h.path, early := decide (s < 0)
      item := { stop := if h.open_ then 0xFFFFFFFF else e.toNat, start := s.toNat, group := h.group
                arc := h.arcs.getLast?.getD 0xFFFF
                kind := if h.kind = .park then 2 else if h.nodes ≠ [] then 1 else 0 } })

/-- The submission record of a task in its 48 bytes (R263). -/
def Task.bytes (t : Task) : List Byte :=
  leBytes 2 0x4B54 ++ leBytes 1 1 ++ leBytes 1 1 ++ zeros 4 ++ leBytes 4 t.id ++ zeros 3 ++ leBytes 1 (if t.fixed then t.fixSlot else 0xFF)
    ++ leBytes 1 ((if t.timed then 1 else 0) + (if t.fixed then 2 else 0)) ++ leBytes 1 t.prio ++ leBytes 2 t.pick ++ leBytes 2 t.drop
    ++ leBytes 2 t.classes ++ leBytes 2 t.pickSvc ++ leBytes 2 t.dropSvc ++ time80Bytes t.earliest ++ time80Bytes t.deadline

/-- The task that a submission record describes (R263). -/
def taskOf (b : List Byte) : Task :=
  let fl := fieldN b 16 1
  { state := 0, id := fieldN b 8 4, prio := fieldN b 17 1, slot := 0xFF, reason := 0, attempts := 0, cost := 0x7FFFFFFF
    pick := fieldN b 18 2, drop := fieldN b 20 2, classes := fieldN b 22 2, fixed := fl.testBit 1, fixSlot := fieldN b 15 1
    timed := fl.testBit 0, pickSvc := fieldN b 24 2, dropSvc := fieldN b 26 2, earliest := fieldT b 28, deadline := fieldT b 38
    warned := none }

/-- The Cairn of this instant (R482, R483). -/
def Dev.cairnNow (d : Dev) (gen : Nat) (final : Bool) : Cairn :=
  let instant := if d.noTime then 0 else d.fleetNs
  { unit := d.nat 0x440001, final := final, term := d.nat 0x440203, gen := gen, setGen := d.nat 0x44020F
    stopSeq := d.nat 0x380103, woState := d.woState, level := d.woLevel, causes := d.nat 0x380104, instant := instant
    steps := d.nat 0x220006, timeSt := d.timeState, slots := d.cairnSlots, paths := d.cairnPaths, holds := d.cairnHolds instant
    tasks := (d.tasks.filter (fun t => t.2.state != 0)).map (fun t =>
      { num := t.1, record := t.2.bytes, state := t.2.state, slot := t.2.slot, reason := t.2.reason, attempts := t.2.attempts
        cost := t.2.cost }) }

/-- Length of a Cairn in bytes (R483, R484): header, and each section's head and its body padded to 8 bytes. -/
def cairnSize (c : Cairn) : Nat :=
  let sec (n : Nat) : Nat := 8 + (n + 7) / 8 * 8
  64 + sec ((c.slots.map (fun s => 64 + 24 * s.ints.length)).sum) + sec ((c.paths.map (fun p => 32 + 4 * p.arcs.length)).sum)
    + sec (20 * c.holds.length) + sec (68 * c.tasks.length)

/-- The items of a path over given arcs, from the start of the first (R247). -/
def itemsOfArcs (g : Graph) (arcs : List Nat) : List ResItem :=
  let body := arcs.flatMap (fun a => match g.arc a with
    | none => []
    | some r =>
      ((g.segsOf r).zip (List.range r.count)).map (fun s =>
        ({ stop := 0, start := 0, group := s.1.2.2, arc := a, kind := 0, seg := s.2 } : ResItem))
        ++ [{ stop := 0, start := 0, group := ((g.node r.to_).map (·.group)).getD 0, arc := a, kind := 1 }])
  match body.getLast? with
  | none => []
  | some l => body ++ [{ l with kind := 2, stop := 0xFFFFFFFF }]

/-- A slot's vehicle taken from a path record: at rest at its recorded chainage (R492). -/
def Dev.takePath (d : Dev) (p : CairnPath) : Dev :=
  let g := d.graph
  let items := stretches g 0 0 (itemsOfArcs g (p.arcs.map (·.1)))
  let arcs := (items.filter (fun i => i.kind == 0 && i.seg == 0)).map (fun i => (i.arc, i.c0))
  let d := d.setCar p.slot { d.car p.slot with
    path := some { items := items, arcs := arcs, grants := [], depart := 0 }, s := (p.chain : Rat), v := 0, a := 0 }
  let d := ((d.setN (slotKey p.slot 0x11 1) p.task).setN (slotKey p.slot 0x11 2) 1).setN (slotKey p.slot 0x11 3) p.chain
  (d.setN (slotKey p.slot 0x11 5) p.auth).setN (slotKey p.slot 0x11 6) p.rest

/-- Holds taken from section 3 (R484, R492): an EARLY item starts at BASE_S and keeps its place by its position. -/
def Dev.takeHolds (d : Dev) (c : Cairn) : Dev :=
  let base := cairnBase c.instant
  let g := d.graph
  let one (h : CairnHold) (i : Nat) : Hold :=
    let it := h.item
    let m : Int := ((g.group it.group).map (·.1)).getD 0
    let last := match (d.car h.path).path with
      | some p => (((p.items.filter (fun x => x.group == it.group)).getLast?).map (·.c1)).getD 0
      | none => 0
    let openEnd := decide (it.stop = 0xFFFFFFFF)
    let kind : HoldKind := if 128 ≤ h.path then .supervisor else if it.kind = 2 then .park else if openEnd then .standing else .interval
    let start := if h.early then d.toEngLow base 0 - m - (c.holds.length - i : Nat) else d.toEngLow base it.start - m
    { path := h.path, group := it.group, kind := kind, start := start, stop := d.toEngHigh base it.stop + m, last := last
      arcs := if it.arc = 0xFFFF then [] else [it.arc]
      nodes := (if it.kind = 0 then none else (g.arc it.arc).map (·.to_)).toList, since := d.engMs, alert := false }
  let hs := (c.holds.zip (List.range c.holds.length)).map (fun p => one p.1 p.2)
  let pieces (h : Hold) : List Piece :=
    if h.open_ then []
    else
      let s := max h.start d.engMs / 1000
      (List.range ((h.stop - 1) / 1000 - s + 1).toNat).map (fun i => { group := h.group, sec := s + (i : Nat), path := h.path })
  ({ d with resv := { d.resv with holds := hs, pieces := hs.flatMap pieces } }).resStatus

/-- The fleet state of a Cairn (R492): slots as R214 seeds them, tasks, paths and holds; its vehicle paths are inherited (R493). -/
def Dev.takeCairn (d : Dev) (c : Cairn) : Dev :=
  let d := c.slots.foldl (fun d (s : CairnSlot) =>
    if d.slotOn s.slot then
      d.setSlot s.slot { slot0 with
        e := s.e, n := s.n, u := s.u, ve := s.ve, vn := s.vn, vu := s.vu, sigE := s.sigE, sigN := s.sigN, sigU := s.sigU
        base := s.base, seedAt := c.instant, gapAt := some d.clk.now
        ambs := s.ints.map (fun i => { sys := i.sys, band := i.band, sat := i.sat, pivot := i.pivot, n := i.n, sd := i.sd
                                       run := 0, held := false, carried := true, seed := true }) }
    else d) d
  let d := { d with tasks := c.tasks.foldl (fun t (x : CairnTask) =>
    tabPut t x.num { taskOf x.record with state := x.state, slot := x.slot, reason := x.reason, attempts := x.attempts, cost := x.cost }) [] }
  let d := c.paths.foldl Dev.takePath d
  let d := d.takeHolds c
  { d with pair := { d.pair with inherited := (c.paths.map (·.slot)) } }

/-- Whiteout of a unit that starts from a Cairn or from a newer notice (R320, R491): an active stop is taken over with cause
10 at its level; a clear one leaves the unit CLEAR; the stop sequence is taken. -/
def Dev.takeStop (d : Dev) (seq state level : Nat) : Dev :=
  let d := d.setN 0x380103 seq
  let d := { d with nv := tabPut d.nv 0x380103 (.num (seq : Int)) }
  if state = 0 then (((d.setN 0x380101 0).setN 0x380102 0).setN 0x380104 0)
  else ((((d.setN 0x380101 1).setN 0x380102 level).setN 0x380104 512).setN 0x380105 d.fleetNs).takeTrips.startFlood level

end Sys2Proof.Machine
end

