-- ==== Sys2Proof/Machine/PowerCore.lean ====
section
/-!
DEFINITION. What a reset leaves and what survives it (R468, R471), the entry to Hibernate (R464), the wake from it, and the
demotion of a unit of a pair (R496).
-/
namespace Sys2Proof.Machine

/-- The counts and peaks that the dictionary defines "since power-on reset" (R468, R471). -/
def isCount (k : Key) : Bool :=
  let idx := k / 256
  let sub := k % 256
  [0x2021, 0x3421].contains idx || decide (0x2420 ≤ idx ∧ idx < 0x2430 ∧ sub = 0x0E)
    || [0x201006, 0x204005, 0x205006, 0x208002, 0x247004].contains k || decide (0x280105 ≤ k ∧ k ≤ 0x280108)
    || decide (0x2E2005 ≤ k ∧ k ≤ 0x2E2007) || [0x302001, 0x302006, 0x401102, 0x421002].contains k
    || decide (0x5000 ≤ idx ∧ idx < 0x6000 ∧ (idx - 0x5000) % 32 = 1 ∧ sub = 0x0B)

/-- What the retention SRAM, the flash, the fuses or pins hold beside the settings store: the axes' positions, phases and flags, retired
units and wear (4840 to 4860, 2801:0A and :0B, 2460), the update and key status (4601:08, 4620), the seal
and jumper latches, the cartridge (2260), the role strap, terms and pair counts. -/
def isRetained (k : Key) : Bool :=
  let idx := k / 256
  decide (0x3610 ≤ idx ∧ idx < 0x3618 ∧ (k % 256 = 2 ∨ k % 256 = 4 ∨ k % 256 = 5))
    || decide (0x4840 ≤ idx ∧ idx ≤ 0x4861) || [0x2460, 0x4620, 0x2260].contains idx
    || [0x28010A, 0x28010B, 0x460108, 0x461005, 0x440001, 0x440203, 0x440204, 0x440208, 0x44020C, 0x482005, 0x207001].contains k

/-- Save the counts to the retention SRAM (R468). -/
def Dev.saveCounts (d : Dev) : Dev :=
  { d with pwr := { d.pwr with saved := d.od.filter (fun e => isCount e.1) } }

/-- Complete every pending write to the settings store (R49, R464). -/
def Dev.flushSettings (d : Dev) : Dev :=
  { d with nv := d.nvDue.foldl (fun t e => tabPut t e.1 e.2) d.nv, nvDue := [] }

/-- An axis after its AXEN_n has fallen by its pad (R354, R369): the position stays valid only where the phase cycle is not 0
and the phase held was 0. Bits 1 to 6 of the flags fall. -/
def Dev.axFallen (d : Dev) (n : Nat) : Dev :=
  let f := d.nat (axKey n 4)
  let ok := decide (d.nat (axSet n 0x13) ≠ 0) && decide (d.axPhase n = 0)
  let unc := f.testBit 0 || (f.testBit 6 && !ok)
  let a := d.axis n
  let d := d.setAxis n { axis0 with pos := (d.axPos n : Rat), forward := a.forward, dirPin := a.dirPin }
  (d.setN (axKey n 4) (if unc then 1 else 0)).setN (axKey n 1) 0

/-- The dictionary after a reset: defaults, what the sentry island sets, the settings store, and what survives. -/
def Dev.odAfter (d : Dev) (kind : Nat) : Tab DVal :=
  let put (t : Tab DVal) (l : List (Nat × DVal)) : Tab DVal := l.foldl (fun t e => tabPut t e.1 e.2) t
  let base := put dev0.od d.nv
  let kept := d.od.filter (fun e => isRetained e.1 && !(decide (kind = 1) &&
    (decide (0x361000 ≤ e.1 ∧ e.1 < 0x361800) || decide (e.1 / 256 = 0x2260) || decide (e.1 = 0x440208) || decide (e.1 = 0x207001) || decide (0x484000 ≤ e.1 ∧ e.1 < 0x484300) || decide (e.1 / 256 = 0x2801)
      || decide (e.1 / 256 = 0x2460))))
  put (put base kept) (if kind = 1 then [] else d.pwr.saved)

/-- A reset of kinds 1 to 6 (R468, R471): the Witness window closes, the boot ROM chooses a bank, islands 3 to 10 are off and a
Thaw begins. Kind 1 does not keep the retention SRAM. A lost retention file is rewritten, with event source 23 (R467). -/
def Dev.restart (d : Dev) (kind detail : Nat) : Dev :=
  let d := d.closeWindow 4
  let d := if kind = 5 ∨ kind = 6 then d.saveCounts.flushSettings else d
  let d := (List.range 8).foldl Dev.axFallen d
  let ret := decide (kind ≠ 1)
  let n := d.nat 0x206003 + 1
  let d := d.bootRom
  let d := { d with nv := tabPut d.nv 0x206003 (.num (min n 0xFFFFFFFF : Nat)) }
  let strap := d.nat 0x440001
  let role := if strap = 1 ∨ strap = 2 then (if kind = 6 then d.nat 0x440201 else 1) else 0
  let saved := if ret then d.pwr.saved else []
  let d' : Dev := { dev0 with
    od := d.odAfter kind
    nv := d.nv
    out := d.out
    frees := d.frees
    clk := { dev0.clk with now := d.clk.now, engBase := d.eng, engAt := d.clk.now }
    cart := if ret then d.cart else dev0.cart
    led := { dev0.led with port := ((tabGet d.nv 0x203001).map DVal.int |>.getD 30511).toNat
                           enable := ((tabGet d.nv 0x203002).map DVal.int |>.getD 0xFF).toNat }
    mor := if ret then { dev0.mor with ring := d.mor.ring, flash := d.mor.flash, next := d.mor.next, ceiling := d.mor.ceiling
                                       copied := d.mor.copied, blocks := d.mor.blocks }
           else { dev0.mor with flash := d.mor.flash, next := d.mor.ceiling, ceiling := d.mor.ceiling, copied := d.mor.copied
                                blocks := d.mor.blocks }
    res := if ret then d.res else { dev0.res with blocks := d.res.blocks, tempRuns := d.res.tempRuns }
    axes := if ret then d.axes else []
    rx := { receiver0 with almanac := d.rx.almanac, eph := if ret then d.rx.eph else [], coarse := ret && d.rx.coarse
                           station := d.rx.station }
    sw := { dev0.sw with kept := d.sw.kept }
    eng_ := if ret then { dev0.eng_ with lanes := d.eng_.lanes, groupsOut := d.eng_.groupsOut } else dev0.eng_
    pair := if ret then { dev0.pair with lane0 := d.pair.lane0, lane1 := d.pair.lane1, gen := d.pair.gen, slotA := d.pair.slotA
                                         slotB := d.pair.slotB, own := d.pair.own, notice := d.pair.notice
                                         cairnTerm := d.pair.cairnTerm, cairnAt := d.pair.cairnAt
                                         parts := d.pair.parts, wokenAt := d.pair.wokenAt, beatAt := d.pair.beatAt, waking := if kind = 6 then d.pair.waking else 0
                                         drill := decide (kind = 6) && d.pair.drill }
            else { dev0.pair with gen := d.pair.gen }
    pwr := { dev0.pwr with vmainPg := if kind = 2 ∨ kind = 1 ∨ d.pwr.hibernating then false else d.pwr.vmainPg
                           kind := kind, detail := detail, thawAt := d.clk.now, orderly := d.pwr.orderly, saved := saved
                           vmainAt := d.clk.now }
    upd := d.upd
    wit := { d.wit with window := none, fileLost := false } }
  let d' := (((d'.setN 0x206002 kind).setN 0x206004 detail).setN 0x440201 role).setN 0x205002 3
  let d' := (d'.setN 0x440001 strap).showUpdate
  let d' := { d' with gen := [] }
  let d' := d'.raiseIf (decide (d.nat 0x205002 ≠ 3)) 20 3
  let d' := d'.raiseIf (decide (strap = 3 ∧ kind = 1)) 495 0
  d'.raiseIf d.wit.fileLost 23 0

/-- The axes are parked and disabled as command 7 does before Hibernate (R369, R464): each at once at its park position. -/
def Dev.parkAxes (d : Dev) : Dev :=
  (List.range 8).foldl (fun d n =>
    if d.bit (axKey n 4) 6 then
      let d := d.cease n
      if d.nat (axSet n 0x13) = 0 ∨ d.stopped ∨ d.axState n = 6 then d.axRelease n false
      else
        let t := d.parkTarget n
        let moved := t - d.axPos n
        let d := if moved = 0 then d else d.emitSteps n (d.axPos n) t ((moved.natAbs : Rat) / max 1 (d.nat (axSet n 0x12)))
        (((d.setN (axKey n 2) t).setN (axKey n 5) 0).axRelease n true)
    else d) d

/-- Islands 10 to 3 are powered off in that order; fleet time is in state 0 with island 3 off (R82). -/
def Dev.islandsOff (d : Dev) : Dev := ([10, 9, 8, 7, 6, 5, 4, 3].foldl (fun d n => d.setN (0x202000 + n) 0) d).setTimeState 0

/-- Islands 10 to 3 are powered off and VMAIN_EN is driven low (R464). -/
def Dev.mainOff (d : Dev) : Dev :=
  let d := d.islandsOff.setN 0x207001 0
  { d with pwr := { d.pwr with vmainEn := false, vmainPg := false, thawing := false, vmainAt := d.clk.now } }

/-- The entry to Hibernate (R464, R465): axes, life record, settings store, counts, own Cairn of a unit that is not STANDBY,
islands off. An open change set in state 1 is discarded (R463). With 2050:05 at 0 the cartridge is powered off too. -/
def Dev.enterHibernate (d : Dev) : Dev :=
  let d := d.parkAxes
  let d := d.lastLife
  let d := (d.closeWindow 4).closeSet
  let d := d.flushSettings.saveCounts
  let own := d.cairnNow d.pair.gen false
  let held : CairnHeld := { term := own.term, gen := own.gen, got := [], cairn := some own }
  let newer (a b : Option CairnHeld) : Bool := match a, b with
    | some x, some y => x.cairn.isSome && (y.cairn.isNone || decide (y.term < x.term) || (decide (y.term = x.term) && decide (y.gen ≤ x.gen)))
    | some x, none => x.cairn.isSome
    | none, _ => false
  let d := if d.nat 0x440201 = 3 then d
    else if newer d.pair.slotA d.pair.slotB then { d with pair := { d.pair with own := some own, slotB := some held } }
    else { d with pair := { d.pair with own := some own, slotA := some held } }
  let d := (d.setN 0x205002 2).raise 20 2
  let d := d.mainOff
  let d := if d.flag 0x205005 then d
    else ({ d with cart := { d.cart with clockOk := false, goodAt := none, counted := false, warming := false } } : Dev).setN 0x226001 3
  { d with pwr := { d.pwr with hibernating := true } }

/-- A wake source acts (R464): the Thaw that follows is reset kind 6 with the source as detail. -/
def Dev.wake (d : Dev) (source : Nat) : Dev :=
  if d.pwr.hibernating ∧ !d.pwr.glacier then (d.setN 0x205006 source).restart 6 source else d

/-- A demotion (R496): DEMOTING, PAIR_ACT falls with the role, event source 489 with the cause and a Moraine entry; then a
restart as reset kind 6 into Hibernate as STANDBY. -/
def Dev.demote (d : Dev) (cause : Nat) : Dev :=
  let d := (d.setN 0x440201 6).raiseM 489 cause 2
  let d := d.lastLife.storeAll
  let d := d.restart 6 0
  let d := { (d.mainOff) with pwr := { d.pwr with hibernating := true, vmainEn := false, vmainPg := false, thawing := false } }
  (d.setN 0x440201 3).setN 0x205002 2

/-- The unit serves the fleet: SINGLE or ACTIVE (R474). -/
def Dev.serving (d : Dev) : Bool := decide (d.nat 0x440201 = 0 ∨ d.nat 0x440201 = 2)

/-- A unit takes a new term (R481): above its stored term, that of its Cairn and every term seen; odd for unit A, even for
unit B. It is written to the settings store and raises 488. -/
def Dev.newTerm (d : Dev) (cairnTerm : Nat) : Dev :=
  let lo := max (max (d.nat 0x440203) cairnTerm) (d.nat 0x440204) + 1
  let t := match d.nat 0x440001 with
    | 1 => if lo % 2 = 1 then lo else lo + 1
    | 2 => if lo % 2 = 0 then lo else lo + 1
    | _ => lo
  let d := { d with nv := tabPut d.nv 0x440203 (.num (t : Int)), tele := { d.tele with term := t, newTerm := true }
                    cars := d.cars.map (fun (c : Nat × Vehicle) => (c.1, { c.2 with
                      seqFix := 0, seqGrant := 0, seqBlock := 0, seqPerm := 0, seqTask := 0, nextGrant := 1 })) }
  (d.setN 0x440203 t).raise 488 (t % 65536)

end Sys2Proof.Machine
end

