-- ==== Sys2Proof/Machine/Telegrams.lean ====
section
/-!
DEFINITION. Fleet telegrams (R325 to R351): checks of what arrives, streams and destinations of what leaves, and grants.
-/
namespace Sys2Proof.Machine

/-- The destination of a slot: that of 3430, else the one learned (R325). -/
def Dev.destOf (d : Dev) (n : Nat) : Option (Nat × Nat) :=
  let b := d.oct (0x343001 + n)
  if b.all (fun x => x == 0) then (d.car n).dest else some (leNat (b.take 16), fieldN b 16 2)

/-- True where telegrams for a slot are made: the unit serves the fleet and a destination is known (R325, R474). -/
def Dev.wants (d : Dev) (n : Nat) : Bool := d.serving && (d.destOf n).isSome

/-- True where a permission telegram for a slot leaves: it passes to the switch outside every queue (R13, R306). -/
def Dev.reach (d : Dev) (n : Nat) : Bool := d.wants n && d.up 7

/-- True where any other telegram for a slot leaves: it passes to an outbound queue in the memory island (R13). -/
def Dev.reachQ (d : Dev) (n : Nat) : Bool := d.reach n && d.up 9

/-- A telegram that does not leave: an island that is not in state 3 gives its not-ready reply (R17). -/
def Dev.unsent (d : Dev) (n : Nat) (queued : Bool) : Dev :=
  if !d.wants n then d else if queued && !d.up 9 then d.notReady 9 else if !d.up 7 then d.notReady 7 else d

/-- Send one telegram for a slot; its destination's port follows (R325). -/
def Dev.tell (d : Dev) (n : Nat) (k : SentKind) (seq : Nat) (flds : List Int) : Dev :=
  match d.destOf n with
  | some x => d.emit k [n, x.1, x.2, d.nat (slotKey n 0 2)] ((seq : Int) :: d.num 0x440203 :: flds)
  | none => d

/-- Cut a list into parts of at most `n`. -/
def parts (n : Nat) : Nat → List Nat → List (List Nat)
  | 0, _ => []
  | k + 1, l => if l.length ≤ n then [l] else l.take n :: parts n k (l.drop n)

/-- An arc entry of a grant (R337): the arc, and REVERSE_GEAR in bit 16. -/
def arcEntry (g : Graph) (a : Nat) : Nat := a + (if ((g.arc a).map (·.gear)).getD false then 65536 else 0)

/-- Send a grant in its parts of at most 346 arcs (R336). Only the parts named by the bits of `only` (R338); none
in a stop (R313). -/
def Dev.sendGrant (d : Dev) (n : Nat) (g : GrantRec) (again : Bool) (only : Nat) : Dev :=
  if d.stopped then d
  else if !d.reachQ n then d.unsent n true
  else
    let ps := parts 346 4 g.arcs
    (ps.zip (List.range ps.length)).foldl (fun d p =>
      if only.testBit p.2 then
        let c := d.car n
        let d := d.setCar n { c with seqGrant := (c.seqGrant + 1) % 2 ^ 32 }
        d.tell n .grant c.seqGrant ([if again then 1 else 0, (g.id : Int), g.base, g.task, p.2, ps.length, p.1.length
          , g.first + 346 * p.2, g.start, g.stop, g.park, g.depart] ++ p.1.map (fun a => (arcEntry d.graph a : Int)))
      else d) d

/-- The number of grants held back, 4402:0B (R489). -/
def Dev.countHeld (d : Dev) : Dev :=
  d.setN 0x44020B ((d.cars.map (fun (c : Nat × Vehicle) => c.2.heldBack.length)).sum : Nat)

/-- R489: grants are held back while the unit is paired or isolated and not SOLO. -/
def Dev.holdsBack (d : Dev) : Bool := decide (d.nat 0x440201 = 2) && (d.pair.paired || d.pair.isolated) && !d.pair.solo

/-- The grant of an accepted RESERVE or EXTEND (R278, R336): numbered, and sent or held back. -/
def Dev.grantPath (d : Dev) (n : Nat) (ext : Bool) (fresh : List Nat) (depart : Nat) : Dev :=
  let c := d.car n
  match c.path with
  | none => d
  | some p =>
    let startChain : Int := if ext then 0 else match p.arcs.head? with
      | some a => -a.2
      | none => 0
    let stop := ((p.items.getLast?).map (·.c1)).getD 0
    let park := (((p.items.getLast?).bind (fun i => d.graph.arc i.arc)).map (·.to_)).getD 0xFFFF
    let g : GrantRec :=
      { id := c.nextGrant, base := if ext then ((p.grants.head?).map (·.id)).getD 0 else 0
        first := p.arcs.length - fresh.length, arcs := fresh, start := startChain, stop := stop, park := park
        task := d.nat (slotKey n 0x11 1), depart := depart }
    let held := d.holdsBack
    let d := d.setCar n { c with
      path := some { p with grants := g :: (if ext then p.grants else []) }
      nextGrant := c.nextGrant + 1
      heldBack := if held then c.heldBack ++ [(g.id, d.clk.now, 0)] else c.heldBack }
    if held then d.countHeld else d.sendGrant n g false 15

/-- A grant of the newest released path in force (R341): its GRANT_ID, 0 without a path. -/
def Dev.grantInForce (d : Dev) (n : Nat) : Nat := (d.car n).released

/-- The slot that carries a vehicle ID, an enabled one before others (R181, R328). -/
def Dev.slotOfId (d : Dev) (id : Nat) : Option Nat :=
  let mine (n : Nat) : Bool := decide (id ≠ 0) && decide (d.nat (slotKey n 0 2) = id)
  ((List.range 128).find? (fun n => mine n && d.slotOn n)).or ((List.range 128).find? mine)

/-- `a` is newer than `b` in serial arithmetic (R329). -/
def newer32 (a b : Nat) : Bool :=
  let x := (a + 2 ^ 32 - b % 2 ^ 32) % 2 ^ 32
  decide (1 ≤ x ∧ x ≤ 2 ^ 31 - 1)

/-- The check of a received telegram (R328): the slot, or the reason for which it is dropped; reason 0 stands for a stop
telegram, ignored. Carriers of a disabled slot pass. `last` is the last SEQ of its stream. -/
def Dev.checkTele (d : Dev) (t : Tele) (last : Vehicle → Option Nat) : Except Nat Nat :=
  if t.typ = 6 ∧ t.magicOk ∧ t.lengthOk then .error 0
  else if !t.magicOk || !t.lengthOk then .error 1
  else if t.version ≠ 1 ∨ !t.rsvOk ∨ !t.fromVehicle ∨ (t.typ ≠ 1 ∧ t.typ ≠ 7 ∧ t.typ ≠ 8) ∨ !t.sizeOk then .error 2
  else match d.slotOfId t.vehicle with
    | none => .error 3
    | some n =>
      if t.slot ≠ 0xFF ∧ t.slot ≠ n then .error 3
      else if !d.slotOn n ∧ t.typ ≠ 1 then .error 4
      else if decide (t.typ ≠ 1) && !t.newStream && (match last (d.car n) with
          | some s => !newer32 t.seq s
          | none => false) then .error 5
      else .ok n

/-- Count a dropped telegram (R328): reasons 1 and 2 raise 440 with the drops of the past second, reason 3 raises 441, each at
most once a second. -/
def Dev.dropTele (d : Dev) (t : Tele) (reason : Nat) : Dev :=
  if reason = 0 then d
  else
    let d := d.inc32 (0x342100 + reason)
    let due (x : Option Nat) : Bool := match x with
      | none => true
      | some y => decide (y + secT ≤ d.clk.now)
    if reason ≤ 2 then
      let bad := (d.clk.now :: d.tele.bad).filter (fun t => decide (d.clk.now < t + secT))
      let d := { d with tele := { d.tele with bad := bad } }
      if due d.tele.badAt then
        ({ d with tele := { d.tele with badAt := some d.clk.now } }).raise 440 (min bad.length 65535)
      else d
    else if reason = 3 ∧ due d.tele.unknownAt then
      ({ d with tele := { d.tele with unknownAt := some d.clk.now } }).raise 441 (t.vehicle % 65536)
    else d

/-- A telegram has passed every check (R325, R329, R331): its source is learned for an enabled slot, and a higher term is
noted, which demotes a unit of a pair. -/
def Dev.acceptTele (d : Dev) (t : Tele) (n : Nat) : Dev :=
  let d := if d.slotOn n then d.setCar n { d.car n with dest := some (t.addr, t.port) } else d
  if d.nat 0x440203 < t.term then
    let d := (d.setN 0x440204 (max (d.nat 0x440204) t.term : Nat)).raise 442 n
    if d.nat 0x440201 = 2 then d.demote 1 else d
  else d

end Sys2Proof.Machine
end

