-- ==== Sys2Proof/Machine/Tasks.lean ====
section
/-!
DEFINITION. Tasks (R263 to R267), the path engine (R268 to R271), the auction (R272 to R275) and the planning and request of a
path (R276 to R278).
-/
namespace Sys2Proof.Machine

/-- No cost: a pair that is not feasible, or a task unallotted (R267, R271). -/
def noCost : Nat := 0x7FFFFFFF

/-- The task with a number, FREE where none stands (R265). -/
def Dev.task (d : Dev) (j : Nat) : Task :=
  tabGetD d.tasks j { taskOf (zeros 48) with state := 0 }

/-- The number of tasks in OPEN, 3020:05. -/
def Dev.countOpen (d : Dev) : Dev := d.setN 0x302005 ((d.tasks.filter (fun t => t.2.state == 2)).length : Nat)

/-- Change a task. A FREE one leaves the table. -/
def Dev.setTask (d : Dev) (j : Nat) (t : Task) : Dev :=
  ({ d with tasks := if t.state = 0 then tabDel d.tasks j else tabPut d.tasks j t }).countOpen

/-- The node of a task's current leg (R346). -/
def Task.leg (t : Task) : Nat := if t.state = 6 ∨ t.state = 7 then t.drop else t.pick

/-- Task status to the vehicle that holds a task (R347). -/
def Dev.taskStatus (d : Dev) (j n : Nat) : Dev :=
  if n < 128 ∧ !d.reachQ n then d.unsent n true
  else if n < 128 then
    let t := d.task j
    let c := d.car n
    let d := d.setCar n { c with seqTask := (c.seqTask + 1) % 2 ^ 32 }
    d.tell n .taskStatus c.seqTask [t.id, j, t.state, 0, d.grantInForce n, t.leg]
  else d

/-- A change of a task's state (R266): events 282 and 283 at its end, task status to its vehicle, and a round asked for when
it becomes OPEN or is cancelled (R272). At its end, and on becoming OPEN again, its vehicle holds it no more. -/
def Dev.moveTask (d : Dev) (j st reason : Nat) : Dev :=
  let t := d.task j
  let n := t.slot
  let beyond := decide (8 ≤ st) || decide (st = 2)
  let d := d.setTask j { t with state := st, reason := if 9 ≤ st then reason else t.reason, slot := if st = 2 then 0xFF else n,
                                endAt := if 8 ≤ st then d.clk.now else t.endAt,
                                cost := if st = 2 then noCost else t.cost }
  let d := d.taskStatus j n
  let d := if beyond ∧ n < 128 ∧ d.nat (slotKey n 0x11 1) = j then d.setN (slotKey n 0x11 1) 0xFFFF else d
  let d := if st = 8 then d.raise 282 j else if 9 ≤ st then d.raise 283 j else d
  if st = 2 ∨ st = 9 then d.askRound else d

/-- Release a vehicle path (R251), on the scale in force. -/
def Dev.releasePath (d : Dev) (n : Nat) : Dev :=
  (d.request 3 { slot := n, path := n, count := 0, stepLow := d.nat 0x220006 % 256, baseS := 0, length := 24, items := [] }).1

/-- Fields of a submission record that are reserved, or out of their range (R263, R264). -/
def submitOk (b : List Byte) : Bool :=
  decide (fieldN b 0 2 = 0x4B54 ∧ fieldN b 2 1 = 1 ∧ fieldN b 3 1 = 1 ∧ fieldN b 4 4 = 0 ∧ fieldN b 12 3 = 0 ∧ fieldN b 16 1 < 4
    ∧ fieldN b 17 1 ≤ 7 ∧ fieldN b 8 4 ≠ 0 ∧ fieldN b 8 4 ≠ 0xFFFFFFFF ∧ b.length = 48)

/-- The reason for which a submission is refused (R264), 0 for none. -/
def Dev.submitReason (d : Dev) (b : List Byte) : Nat :=
  let t := taskOf b
  let point (x : Nat) : Bool := match d.graph.node x with
    | some n => n.task
    | none => false
  let defined := (List.range 16).any (fun k => t.classes.testBit k && (d.cls k).defined)
  if !submitOk b then 1
  else if d.tasks.any (fun x => decide (x.2.state ≠ 0 ∧ x.2.id = t.id)) then 2
  else if (tabFree d.tasks 1024).isNone then 3
  else if !point t.pick || (decide (t.drop ≠ 0xFFFF) && !point t.drop) then 4
  else if !defined || (t.fixed && (decide (128 ≤ t.fixSlot) || !d.slotOn t.fixSlot || !t.classes.testBit (d.slotClass t.fixSlot))) then 5
  else if t.deadline ≠ 0 ∧ t.deadline < t.earliest then 6
  else 0

/-- The last task result 3001:03 (R264). -/
def Dev.taskResult (d : Dev) (id num reason : Nat) : Dev :=
  d.setO 0x300103 (leBytes 4 id ++ leBytes 2 num ++ leBytes 1 reason ++ [0])

/-- A write of 3001:01 (R263, R264). -/
def taskSubmit (v : DVal) (d : Dev) : Dev × Nat :=
  let b := v.bytes
  let t := taskOf b
  match d.submitReason b, tabFree d.tasks 1024 with
  | 0, some j =>
    let d := d.setTask j { t with state := if d.fleetNs < t.earliest then 1 else 2 }
    let d := ((d.taskResult t.id j 0).raise 280 j)
    (if d.fleetNs < t.earliest then d else d.askRound, 0)
  | r, _ => ((d.taskResult t.id 0xFFFF r).raise 281 r, 0)

def execTaskSubmit (dt : Nat) (q : Req) (data : List Byte) (s : State) : Out :=
  onDev s dt (fun d => d.command q 0x3001 1 data taskSubmit)

/-- Cancel a task in WAITING to AT_PICK (R266): in TO_PICK its path is released; a service at the pick node ends unfinished. -/
def Dev.cancelTask (d : Dev) (j reason : Nat) : Dev :=
  let t := d.task j
  let d := if t.state = 4 then d.releasePath t.slot else d
  d.moveTask j 9 reason

/-- A write of 3001:02 (R264 to R266). -/
def taskCancel (v : DVal) (d : Dev) : Dev × Nat :=
  let id := v.int.toNat
  match d.tasks.find? (fun x => decide (x.2.id = id ∧ 1 ≤ x.2.state ∧ x.2.state ≤ 7)) with
  | none => ((d.taskResult id 0xFFFF 8).raise 281 8, 0)
  | some x =>
    if 6 ≤ x.2.state then ((d.taskResult id x.1 7).raise 281 7, 0)
    else ((d.cancelTask x.1 1).taskResult id x.1 0, 0)

def execTaskCancel (dt : Nat) (q : Req) (data : List Byte) (s : State) : Out :=
  onDev s dt (fun d => d.command q 0x3001 2 data taskCancel)

/-- A WAITING task reaches its EARLIEST (R266), in state 0 on the scale that runs on (R85). -/
def taskEarliest (j : Nat) (d : Dev) : Dev :=
  d.when (d.up 6 && decide ((d.task j).state = 1) && decide (d.timeState = 0 ∨ (d.task j).earliest ≤ d.fleetNs))
    (fun d => d.moveTask j 2 0)

def execTaskEarliest (dt : Nat) (task : Fin 1024) (s : State) : Out := onDev s dt (taskEarliest task.val)

/-- A finished task has been kept for 3000:09 (R265). -/
def taskRetentionExpiry (j : Nat) (d : Dev) : Dev :=
  d.when (d.up 6 && decide (8 ≤ (d.task j).state) && decide ((d.task j).endAt + d.nat 0x300009 * secT ≤ d.clk.now)) (fun d => d.setTask j { d.task j with state := 0 })

def execTaskRetentionExpiry (dt : Nat) (task : Fin 1024) (s : State) : Out := onDev s dt (taskRetentionExpiry task.val)

/-- The status record of a task, 16 bytes, as 3002:01 gives it (R267). -/
def Task.status (t : Task) : List Byte :=
  leBytes 4 t.id ++ leBytes 1 t.state ++ leBytes 1 t.prio ++ [0, 0] ++ leBytes 1 t.slot ++ leBytes 1 t.reason ++ leBytes 2 t.attempts
    ++ leBytes 4 t.cost

/-- Travel time of a class over one segment in ms, none where it may not be traversed (R269, R270). -/
def Dev.segTime (d : Dev) (g : Graph) (a : ArcRec) (k : Nat) (c : ClassRec) (s : Nat × Nat × Nat) : Option Nat :=
  let z := zoneSummary g (d.oct 0x2C2001) (d.oct 0x2C2002) a s.1 s.2.1
  let v := min (min a.speed z.1) (if a.gear then c.vmaxRev else c.vmax)
  if ((g.group s.2.2).map (·.2)).getD true ∨ z.2.2 ∨ !z.2.1.testBit k ∨ v = 0 then none
  else some (((s.2.1 - s.1) * 1000 + v - 1) / v)

/-- Speed limit of a segment for a class (R269): the least of track, class and zone speed. -/
def Dev.segSpeed (d : Dev) (g : Graph) (a : ArcRec) (c : ClassRec) (s : Nat × Nat × Nat) : Nat :=
  let z := zoneSummary g (d.oct 0x2C2001) (d.oct 0x2C2002) a s.1 s.2.1
  min (min a.speed z.1) (if a.gear then c.vmaxRev else c.vmax)

/-- Travel time of a class over an arc (R269): all of its segments. -/
def Dev.arcTime (d : Dev) (g : Graph) (i k : Nat) (c : ClassRec) : Option Nat :=
  match g.arc i with
  | none => none
  | some a =>
    if !a.mask.testBit k then none
    else (g.segsOf a).foldl (fun acc s => match acc, d.segTime g a k c s with
      | some x, some y => some (x + y)
      | _, _ => none) (some 0)

/-- The ramp time that each path adds once (R269). -/
def rampTime (c : ClassRec) : Nat :=
  if c.accel = 0 ∨ c.decel = 0 then 0
  else (-(-(1000 * ((c.vmax : Rat) / (2 * c.accel) + (c.vmax : Rat) / (2 * c.decel)))).floor).toNat

/-- Arrival times, last arcs and the nodes these leave, for each node: the shortest-time search of R271 as rounds of relaxation over all arcs; equal times
go to the arc of lower ID. `arcs` lists arc, FROM, TO and time. Each node passed adds `node` (R269); the mark 0xFFFF stands for a start at a
node, which is not passed, and 0xFFFE for a start on an arc. -/
def relax (node : Nat) (arcs : List (Nat × Nat × Nat × Nat)) : Nat → Tab Reached → Tab Reached
  | 0, t => t
  | k + 1, t =>
    let t' := arcs.foldl (fun t x =>
      match tabGet t x.2.1 with
      | none => t
      | some p =>
        let new := p.1 + x.2.2.2 + (if p.2.1 = 0xFFFF then 0 else node)
        match tabGet t x.2.2.1 with
        | none => tabPut t x.2.2.1 (new, x.1, x.2.1)
        | some q => if new < q.1 ∨ (new = q.1 ∧ x.1 < q.2.1) then tabPut t x.2.2.1 (new, x.1, x.2.1) else t) t
    if t' = t then t else relax node arcs k t'

/-- The traversable arcs of a class with their times. -/
def Dev.arcsFor (d : Dev) (k : Nat) : List (Nat × Nat × Nat × Nat) :=
  let g := d.graph
  let c := d.cls k
  (List.range g.nArcs).filterMap (fun i => match g.arc i, d.arcTime g i k c with
    | some a, some t => some (i, a.from_, a.to_, t)
    | _, _ => none)

/-- The time from a chainage of an arc to its end (R269, R271). DEDUCED, log 59. The vehicle stands on the arc already, so only the arcs
after it have to be traversable; none where a segment admits no speed. -/
def Dev.restTime (d : Dev) (g : Graph) (i k : Nat) (chain : Int) : Option Nat :=
  (g.arc i).bind (fun a =>
    ((g.segsOf a).filter (fun s => decide (chain < s.2.1))).foldl (fun acc s =>
      let v := d.segSpeed g a (d.cls k) s
      acc.bind (fun x => if v = 0 then none else some (x + ((s.2.1 - (max (s.1 : Int) chain).toNat) * 1000 + v - 1) / v))) (some 0))

/-- The search of a vehicle from its start (R271): from its park node, or from its track position through the rest of its arc. -/
def Dev.search (d : Dev) (n : Nat) : Tab Reached :=
  let g := d.graph
  let k := d.slotClass n
  let start : Tab Reached := match d.parkOf n, (d.car n).track with
    | some p, _ => [(p.2, (0, 0xFFFF, p.2))]
    | none, some t =>
      match g.arc t.1, d.restTime g t.1 k t.2.1 with
      | some a, some r => [(a.to_, (r, 0xFFFE, a.to_))]
      | _, _ => []
    | none, none => []
  relax (d.nat 0x301001) (d.arcsFor k) (g.nNodes + 1) start

/-- The arcs of the route to a node, read from the predecessor chain (R271). -/
def routeTo (t : Tab Reached) : Nat → Nat → List Nat → Option (List Nat)
  | 0, _, _ => none
  | k + 1, x, acc =>
    match tabGet t x with
    | none => none
    | some p => if 0xFFFE ≤ p.2.1 then some acc else routeTo t k p.2.2 (p.2.1 :: acc)

/-- The route of a vehicle to a node by a search; a vehicle that holds nothing begins on the arc of its track position. -/
def Dev.routeBy (d : Dev) (t : Tab Reached) (n node : Nat) : Option (List Nat) :=
  (routeTo t (t.length + 1) node []).map (fun r => match d.parkOf n, (d.car n).track with
    | none, some t => t.1 :: r
    | _, _ => r)

/-- The route of a vehicle to a node, searched now. -/
def Dev.route (d : Dev) (n node : Nat) : Option (List Nat) := d.routeBy (d.search n) n node

/-- Travel time of a vehicle to a node, with the ramp time of its path (R269, R271). -/
def Dev.travel (d : Dev) (t : Tab Reached) (n node : Nat) : Nat :=
  match tabGet t node with
  | some p => p.1 + rampTime (d.cls (d.slotClass n))
  | none => noCost

/-- A vehicle is free (R268). -/
def Dev.isFree (d : Dev) (n : Nat) : Bool :=
  let j := d.nat (slotKey n 0x11 1)
  d.slotOn n && d.ready n && (d.holdsOf n).all (fun h => h.kind == .park)
    && (decide (j = 0xFFFF) || decide ((d.task j).state = 3)) && decide ((d.car n).stops = 0) && (d.car n).target.isNone

/-- A vehicle that has become free asks for a round (R272). -/
def Dev.asksIfFree (d : Dev) (was : Dev) (n : Nat) : Dev := if d.isFree n && !was.isFree n then d.askRound else d

/-- A vehicle passes a group (R245) and may be free by it. -/
def groupPassed (slot group : Nat) (d : Dev) : Dev :=
  d.when (d.up 6) (fun d => (d.dropHolds (fun h => h.path == slot && h.group == group && d.passedBy h)).asksIfFree d slot)

def execGroupPassed (dt : Nat) (slot : Fin 128) (group : Nat) (s : State) : Out := onDev s dt (groupPassed slot.val group)

/-- 3000:01 has passed since the last round began (R272). -/
def roundPeriodExpiry (d : Dev) : Dev :=
  d.when (d.up 6 && decide (d.rounds.startAt + d.nat 0x300001 * msT ≤ d.clk.now)) Dev.askRound

def execRoundPeriodExpiry (dt : Nat) (s : State) : Out := onDev s dt roundPeriodExpiry

/-- A round begins with the path pass over all free vehicles (R271, R272). None begins in a stop (R313). -/
def auctionRoundStart (pass : Nat) (d : Dev) : Dev :=
  d.when (d.up 6 && d.rounds.due && !d.rounds.running && !d.stopped && d.serving) (fun d =>
    let free := (List.range 128).filter (fun n => d.isFree n)
    let open_ := d.tasks.filter (fun t => t.2.state == 2 || t.2.state == 3)
    let passes := free.map (fun n => (n, d.search n))
    let times := passes.flatMap (fun p => open_.map (fun x => (p.1, x.1, d.travel p.2 p.1 x.2.pick)))
    let set := [3, 4, 5, 6, 7, 8].map (fun i => (0x300000 + i, d.get (0x300000 + i)))
    let d := { d with rounds :=
      { due := false, running := true, startAt := d.clk.now, free := free, times := times, bound := none, passes := passes, set := set } }
    (d.inc32 0x302001).setN 0x302007 (min pass 65535 : Nat))

def execAuctionRoundStart (dt : Nat) (passHundredths : Nat) (s : State) : Out := onDev s dt (auctionRoundStart passHundredths)

/-- A setting of 3000 as the round that runs holds it (R293). -/
def Dev.roundSet (d : Dev) (sub : Nat) : Nat := ((tabGet d.rounds.set (0x300000 + sub)).getD (d.get (0x300000 + sub))).int.toNat

/-- The cost c_ij of a pair of the round, none where it is not feasible (R273). -/
def Dev.pairCost (d : Dev) (x : Nat × Nat × Nat) : Option Nat :=
  let t := d.task x.2.1
  if !t.classes.testBit (d.slotClass x.1) ∨ (t.fixed ∧ t.fixSlot ≠ x.1) ∨ x.2.2 = noCost then none
  else
    let now := d.fleetNs / 1000000
    let late := if t.deadline = 0 then 0 else now + x.2.2 - t.deadline / 1000000
    let bonus := if t.state = 3 ∧ t.slot = x.1 then d.roundSet 3 else 0
    some (min (x.2.2 + d.roundSet 4 * late - bonus) (2 ^ 26 - 1))

/-- The feasible pairs of the round: slot, task, benefit multiplied by 129 (R273, R274), and cost. -/
def Dev.pairs (d : Dev) : List (Nat × Nat × Int × Nat) :=
  d.rounds.times.filterMap (fun x => (d.pairCost x).map (fun (c : Nat) =>
    (x.1, x.2.1, ((((d.task x.2.1).prio + 1) * 2 ^ 27 : Nat) - (c : Int)) * 129, c)))

/-- The state of an auction: prices and owners of tasks. -/
structure Auct where
  prices : Tab Int
  owners : Tab Nat

/-- One bidding cycle of R274: every unassigned vehicle bids at once; the value of staying unassigned is 0. -/
def bidCycle (ps : List (Nat × Nat × Int × Nat)) (free : List Nat) (eps : Int) (x : Auct) : Auct × Bool :=
  let idle := free.filter (fun n => !x.owners.any (fun o => o.2 == n))
  let bid (n : Nat) : Option (Nat × Nat × Int) :=
    let mine := (ps.filter (fun p => p.1 == n)).map (fun p => (p.2.1, p.2.2.1 - tabGetD x.prices p.2.1 0))
    let best := mine.foldl (fun (b : Option (Nat × Int)) v => match b with
      | none => some v
      | some w => if w.2 < v.2 ∨ (w.2 = v.2 ∧ v.1 < w.1) then some v else some w) none
    match best with
    | none => none
    | some b =>
      if b.2 ≤ 0 then none
      else
        let second := (mine.filter (fun v => v.1 != b.1)).foldl (fun (m : Int) v => max m v.2) 0
        some (b.1, n, tabGetD x.prices b.1 0 + (b.2 - second) + eps)
  let bids := idle.filterMap bid
  let step (x : Auct) (b : Nat × Nat × Int) : Auct :=
    -- the highest bid of this cycle wins; among equal bids the lower slot
    let rival := bids.any (fun c => c.1 == b.1 && (decide (b.2.2 < c.2.2) || (decide (c.2.2 = b.2.2) && decide (c.2.1 < b.2.1))))
    if rival then x else { prices := tabPut x.prices b.1 b.2.2, owners := tabPut x.owners b.1 b.2.1 }
  (bids.foldl step x, !bids.isEmpty)

/-- Bidding cycles of one phase, at most `fuel`: the result and the cycles left. -/
def phase (ps : List (Nat × Nat × Int × Nat)) (free : List Nat) (eps : Int) : Nat → Auct → Auct × Nat
  | 0, x => (x, 0)
  | k + 1, x =>
    let r := bidCycle ps free eps x
    if r.2 then phase ps free eps k r.1 else (r.1, k + 1)

/-- The forward auction with ε-scaling (R274): ε from 2^24 down to 1, divided by 8 at each phase, within a number of cycles.
Each phase keeps the prices and starts unassigned. -/
def auction (ps : List (Nat × Nat × Int × Nat)) (free : List Nat) (cycles : Nat) : Tab Nat :=
  ([24, 21, 18, 15, 12, 9, 6, 3, 0].foldl (fun (s : Auct × Nat) k =>
    if s.2 = 0 then s else phase ps free (2 ^ k) s.2 { s.1 with owners := [] }) ({ prices := [], owners := [] }, cycles)).1.owners

/-- The round bound passes before the last phase ends (R274): the assignment of that cycle is used, with PARTIAL and 284. -/
def roundBoundExpiry (cycles : Nat) (d : Dev) : Dev :=
  d.when (d.up 6 && d.rounds.running && d.rounds.bound.isNone && decide (d.rounds.startAt + d.nat 0x300002 * msT ≤ d.clk.now)) (fun d =>
    (({ d with rounds := { d.rounds with bound := some cycles } }).inc32 0x302006).raise 284 0)

def execRoundBoundExpiry (dt : Nat) (cycles : Nat) (s : State) : Out := onDev s dt (roundBoundExpiry cycles)

/-- The speed limits along the antenna chainage of items (R280): from the front entering a segment to the rear leaving it. -/
def Dev.limitsOf (d : Dev) (items : List PathItem) (c : ClassRec) : List (Rat × Rat × Rat) :=
  let g := d.graph
  (items.filter (fun i => i.kind == 0)).filterMap (fun i => match g.arc i.arc with
    | none => none
    | some a =>
      let e := ends c a.gear
      match (g.segsOf a)[i.seg]? with
      | none => none
      | some s => some ((i.c0 : Rat) - e.1, (i.c1 : Rat) + e.2, (d.segSpeed g a c s : Nat)))

/-- The limit at a chainage and the lower limits ahead (R280, R281). -/
def limitAt (zones : List (Rat × Rat × Rat)) (vmax s : Rat) : Rat × List (Rat × Rat) :=
  let here := (zones.filter (fun z => decide (z.1 ≤ s ∧ s < z.2.1))).foldl (fun m z => min m z.2.2) vmax
  (here, (zones.filter (fun z => decide (s < z.1))).map (fun z => (z.1, z.2.2)))

/-- One leg of a nominal profile: its time in ms, the chainage, and the motion from there. -/
structure Leg where
  time   : Nat
  s      : Rat
  v      : Rat
  a      : Rat
  phases : List Phase

/-- The state of motion `m` ms after the start of a leg. -/
def Leg.at (x : Leg) (m : Nat) : Rat × Rat × Rat := runPhases x.phases ((m : Rat) / 1000) x.s x.v x.a

/-- The greatest number below `2 ^ k` after `m` at which a test that stays true once it is true is still false. -/
def lastFalse (f : Nat → Bool) : Nat → Nat → Nat
  | 0, m => m
  | k + 1, m => lastFalse f k (if f (m + 2 ^ k) then m else m + 2 ^ k)

/-- The nominal profile (R276, R282): from rest to the target, planned afresh where a speed limit begins or ends. -/
def nominal (l : MotionLim) (zones : List (Rat × Rat × Rat)) (target : Rat) : Nat → Nat → Rat → Rat → Rat → List Leg
  | 0, t, s, v, a => [{ time := t, s := s, v := v, a := a, phases := [] }]
  | k + 1, t, s, v, a =>
    let lim := limitAt zones l.vmax s
    let ps := planPhases { l with vmax := lim.1 } ((target, 0) :: lim.2) s v a
    let x : Leg := { time := t, s := s, v := v, a := a, phases := ps }
    let edges := (zones.flatMap (fun z => [z.1, z.2.1])).filter (fun c => decide (s < c ∧ c < target))
    match edges with
    | [] => [x, { time := t + (spanOf ps * 1000).ceil.toNat, s := target, v := 0, a := 0, phases := [] }]
    | c :: cs =>
      let c := cs.foldl min c
      let m := lastFalse (fun m => decide (c ≤ (x.at m).1)) 24 0 + 1
      let r := kept (x.at m)
      x :: nominal l zones target k (t + m) r.1 r.2.1 r.2.2

/-- The ms in which a profile reaches a chainage, rounded up or down; its last time where it does not. -/
def whenAt (up : Bool) (c : Rat) : List Leg → Nat
  | [] => 0
  | x :: xs =>
    if c ≤ x.s then x.time
    else match xs with
      | [] => x.time
      | y :: _ =>
        if c ≤ y.s then
          x.time + min (y.time - x.time) (if up then lastFalse (fun m => decide (c ≤ (x.at m).1)) 24 0 + 1
            else lastFalse (fun m => decide (c < (x.at m).1)) 24 0)
        else whenAt up c xs

/-- The items of a plan over given arcs, timed from departure in ms (R276). `depart` is on fleet time in ms after `base`. -/
def Dev.planItems (d : Dev) (n : Nat) (arcs : List Nat) (fromTrack : Option (Nat × Nat × Int)) (depart : Nat) : List ResItem :=
  let g := d.graph
  let c := d.cls (d.slotClass n)
  let gear := ((arcs.head?).bind (fun x => (g.arc x).map (·.gear))).getD false
  let e := ends c gear
  let all := itemsOfArcs g arcs
  let all := match fromTrack with
    | none => all
    | some t => all.dropWhile (fun i => i.arc == t.1 && i.kind == 0 && (match g.arc t.1 with
        | some a => match (g.segsOf a)[i.seg]? with
          | some s => decide (s.2.1 < t.2.1)
          | none => false
        | none => false))
  let base : Int := match fromTrack with
    | some t => -(t.2.1 : Int)
    | none => 0
  let cs := stretches g 0 base all
  let stop : Int := ((cs.getLast?).map (·.c1)).getD 0
  let s0 : Rat := if fromTrack.isSome then 0 else -(e.1 : Rat)
  let l : MotionLim := { vmax := if gear then c.vmaxRev else c.vmax, accel := c.accel, decel := c.decel, jerk := c.jerk }
  let zones := d.limitsOf cs c
  let prof := nominal l zones ((stop : Rat) - e.1) (2 * zones.length + 1) 0 s0 0 0
  let slack (t : Nat) : Nat := t + (t * d.roundSet 7 + 99) / 100
  let seg (i : PathItem) : Nat × Nat := (depart + whenAt false ((i.c0 : Rat) - e.1) prof, depart + slack (whenAt true ((i.c1 : Rat) + e.2) prof))
  let timed := (all.zip cs).map (fun p => if p.2.kind = 0 then seg p.2 else (0, 0))
  -- node and park items take the START of the last segment item before them; a node item the END of the next segment item
  let rec fill : List (ResItem × (Nat × Nat)) → (Nat × Nat) → List ResItem
    | [], _ => []
    | (it, t) :: rest, prev =>
      match it.kind with
      | 0 => { it with start := t.1, stop := t.2 } :: fill rest t
      | 1 =>
        let next := match rest.find? (fun r => r.1.kind == 0) with
          | some r => r.2.2
          | none => prev.2
        { it with start := prev.1, stop := next } :: fill rest prev
      | _ => { it with start := prev.1, stop := 0xFFFFFFFF } :: fill rest prev
  fill (all.zip timed) (depart, depart)

/-- The outcome of a plan. -/
structure Plan where
  ok       : Bool
  attempts : Nat
  depart   : Nat

/-- The request of a planned path and its repetition (R277), at most `fuel` attempts. `delay` is the delay so far in ms. -/
def Dev.tryPlan (d : Dev) (n op : Nat) (arcs : List Nat) (fromTrack : Option (Nat × Nat × Int)) (depart0 : Nat) :
    Nat → Nat → Nat → Dev × Plan
  | 0, used, delay => (d, { ok := false, attempts := used, depart := depart0 + delay })
  | k + 1, used, delay =>
    let base := d.fleetNs / 1000000000
    let items := d.planItems n arcs fromTrack (depart0 + delay)
    let r : ResReq := { slot := n, path := n, count := items.length, stepLow := d.nat 0x220006 % 256, baseS := base
                        length := 24 + 16 * items.length, items := items }
    let res := d.request op r
    if res.2.code = 0 then (res.1, { ok := true, attempts := used + 1, depart := depart0 + delay })
    else match res.2.code, res.2.hit with
      | 13, some h =>
        if h.open_ then (res.1, { ok := false, attempts := used + 1, depart := depart0 + delay })
        else
          let m : Nat := ((d.graph.group h.group).map (·.1)).getD 0
          let want := (d.toReqHigh base h.stop + 1).toNat
          let have_ := ((items[res.2.index]?).map (·.start)).getD 0 - m
          let delay' := delay + (want - have_)
          if d.roundSet 8 * 1000 < delay' ∨ want ≤ have_ then (res.1, { ok := false, attempts := used + 1, depart := depart0 + delay })
          else res.1.tryPlan n op arcs fromTrack depart0 k (used + 1) delay'
      | _, _ => (res.1, { ok := false, attempts := used + 1, depart := depart0 + delay })

/-- The ms until a vehicle on a path comes to rest at its park by the nominal profile from where it is (R277). -/
def Dev.restsIn (d : Dev) (n : Nat) : Nat :=
  let c := d.car n
  match c.path with
  | none => 0
  | some p =>
    let k := d.cls (d.slotClass n)
    let zones := d.limitsOf p.items k
    let l : MotionLim := { vmax := if d.inReverse n then k.vmaxRev else k.vmax, accel := k.accel, decel := c.decel, jerk := c.jerk }
    let target : Rat := ((((p.items.getLast?).map (·.c1)).getD 0 - d.lead n : Int) : Rat)
    (((nominal l zones target (2 * zones.length + 1) 0 c.s c.v c.a).getLast?).map (·.time)).getD 0

/-- Plan a path over arcs for a vehicle and request it (R276 to R278): a grant on OK, event source 287 without. A vehicle that is not yet at rest at its
park extends its path, as if it departed after coming to rest there (R277). -/
def Dev.planPath (d : Dev) (n : Nat) (arcs : List Nat) (earliest : Nat) : Dev × Plan :=
  let c := d.car n
  let park := d.parkOf n
  let ext := park.isSome && c.path.isSome && !(d.holdsOf n).all (fun h => h.kind == .park)
  let base := d.fleetNs / 1000000000
  let nowMs := d.fleetNs / 1000000 - base * 1000
  let depart0 := max (earliest / 1000000 - base * 1000) (nowMs + (if ext then d.restsIn n else 0) + d.roundSet 6)
  let fromTrack := if park.isSome then none else c.track
  if d.stopped ∨ !d.serving ∨ arcs = [] then (d, { ok := false, attempts := 0, depart := depart0 })
  else
    let res := d.tryPlan n (if ext then 2 else 1) arcs fromTrack depart0 (d.roundSet 5) 0 0
    if res.2.ok then
      let d := res.1
      let departNs := (base * 1000 + res.2.depart) * 1000000
      let d := match (d.car n).path with
        | some p => if ext then d else d.setCar n { d.car n with path := some { p with depart := d.toEngLow base res.2.depart } }
        | none => d
      let d := if ext then d else (d.setN (slotKey n 0x11 2) 1).setN (slotKey n 0x11 5) (roundRat (d.car n).s + d.lead n)
      (d.grantPath n ext arcs (if ext then 0 else departNs), res.2)
    else (res.1.raise 287 n, res.2)

/-- Plan the leg of a task that its vehicle holds (R276): to PICK in ASSIGNED by the pass of the round, to DROP in TO_DROP by a search
made at that moment. -/
def Dev.planTask (d : Dev) (j : Nat) : Dev :=
  let t := d.task j
  let n := t.slot
  match (if t.state = 3 then (tabGet d.rounds.passes n).bind (fun p => d.routeBy p n t.leg) else d.route n t.leg) with
  | none => d
  | some arcs =>
    let d := d.setN (slotKey n 0x11 1) j
    let res := d.planPath n arcs (if t.state = 3 then t.earliest else 0)
    let d := res.1.setTask j { (res.1.task j) with attempts := res.2.attempts }
    if res.2.ok ∧ t.state = 3 then d.moveTask j 4 0 else d

/-- Apply one pair of the result (R275): a vehicle no longer free or a task no longer open is skipped and a round asked for; a
task taken from its former vehicle raises 285. -/
def Dev.allot (d : Dev) (x : Nat × Nat × Nat) : Dev :=
  let n := x.1
  let j := x.2.1
  let t := d.task j
  if !d.isFree n ∨ (t.state ≠ 2 ∧ t.state ≠ 3) then d.askRound
  else
    let old := d.nat (slotKey n 0x11 1)
    -- the vehicle's former task, where another one is allotted to it, is OPEN again
    let d := if old ≠ 0xFFFF ∧ old ≠ j ∧ (d.task old).state = 3 ∧ (d.task old).slot = n then d.moveTask old 2 0 else d
    let moved := decide (t.state = 3 ∧ t.slot ≠ n)
    let d := if moved ∧ t.slot < 128 then d.setN (slotKey t.slot 0x11 1) 0xFFFF else d
    let d := d.raiseIf moved 285 j
    let d := d.setTask j { t with state := 3, slot := n, cost := x.2.2 }
    let d := d.setN (slotKey n 0x11 1) j
    let d := if t.state = 3 ∧ t.slot = n then d else d.taskStatus j n
    d.planTask j

/-- 5011:08 shows the lowest stop cause in force (R290). -/
def Dev.showStop (d : Dev) (n : Nat) : Dev :=
  d.setN (slotKey n 0x11 8) (((List.range 6).find? (fun i => (d.car n).stops.testBit i)).getD 0 : Nat)

/-- A task ASSIGNED to a vehicle that has stopped being free is OPEN again (R266). -/
def Dev.unassign (d : Dev) (n : Nat) : Dev :=
  let j := d.nat (slotKey n 0x11 1)
  if j ≠ 0xFFFF ∧ (d.task j).state = 3 ∧ !d.isFree n then d.moveTask j 2 0 else d

/-- A stop cause of R290 comes into force: event source 291 with the cause and the slot. -/
def Dev.stopCar (d : Dev) (n cause : Nat) : Dev :=
  let c := d.car n
  if c.stops.testBit cause then d
  else (((d.setCar n { c with stops := c.stops ||| 2 ^ cause }).showStop n).raise 291 (n * 256 + cause)).unassign n

/-- Stop causes end, given as a mask; the profile resumes from rest (R286, R289). -/
def Dev.endStops (d : Dev) (n mask : Nat) : Dev :=
  let c := d.car n
  ((d.setCar n { c with stops := c.stops - (c.stops &&& mask) }).showStop n).asksIfFree d n

/-- The arc on which a vehicle at rest at its park arrived. -/
def Dev.arrived (d : Dev) (n : Nat) : Option ArcRec :=
  match (d.car n).path with
  | some p => (p.arcs.getLast?).bind (fun x => d.graph.arc x.1)
  | none => none

/-- The vehicle is at rest and its path holds only a park. -/
def Dev.parked (d : Dev) (n : Nat) : Bool :=
  decide ((d.car n).v = 0) && (d.parkOf n).isSome && (d.holdsOf n).all (fun h => h.kind == .park)

/-- The target of command 3 from rest at a park (R289, R292): the route is requested; one that begins on the REVERSE of the
arriving arc waits for REV_DWELL on OK, and without REVERSING or OK holds the vehicle with cause 5 and source 289. It is marked
as tried: further requests are left to the auction rounds. -/
def Dev.tryTarget (d : Dev) (n : Nat) : Dev :=
  match (d.car n).target with
  | none => d
  | some node =>
    if !d.parked n then d
    else
      let d := d.setCar n { d.car n with tried := true }
      match d.route n node with
      | none => d
      | some [] => (d.setCar n { d.car n with target := none }).endStops n 32
      | some (a :: rest) =>
        let back := match d.arrived n with
          | some r => decide (r.rev = a ∧ a ≠ 0xFFFF)
          | none => false
        let refuse (d : Dev) : Dev := if (d.car n).stops.testBit 5 then d else (d.stopCar n 5).raise 289 n
        if back && !(d.cls (d.slotClass n)).reversing then refuse d
        else
          let r := d.planPath n (a :: rest) 0
          if r.2.ok then
            let d := (r.1.setCar n { r.1.car n with target := none }).endStops n 32
            if back then (d.setCar n { d.car n with dwellAt := d.clk.now }).setN (slotKey n 0x11 2) 5 else d
          else if back then refuse r.1 else r.1

/-- The result of a round is applied in slot order (R275), tasks without a feasible pair are reported, and legs to a drop node
not yet granted, and targets of command 3 (R292), are planned again. -/
def auctionRoundEnd (hundredths : Nat) (d : Dev) : Dev :=
  d.when (d.up 6 && d.rounds.running) (fun d =>
    let ps := d.pairs
    let free := d.rounds.free
    let partial_ := d.rounds.bound.isSome
    let owners := auction ps free (d.rounds.bound.getD 1000000)
    let won := owners.map (fun o => (o.2, o.1, ((ps.find? (fun p => p.1 == o.2 && p.2.1 == o.1)).map (·.2.2.2)).getD 0))
    let won := free.filterMap (fun n => won.find? (fun w => w.1 == n))
    let d := { d with rounds := { d.rounds with running := false } }
    let d := (d.setN 0x302002 (min hundredths 65535 : Nat)).setN 0x302003 (if partial_ then 1 else 0)
    let d := won.foldl Dev.allot d
    let d := d.setN 0x302004 won.length
    let minute := 60 * secT
    let d := d.tasks.foldl (fun (d : Dev) (x : Nat × Task) =>
      let lonely := decide (x.2.state = 2) && free.any (fun n => x.2.classes.testBit (d.slotClass n)) && !ps.any (fun p => p.2.1 == x.1)
        && (match x.2.warned with
          | some t => decide (t + minute ≤ d.clk.now)
          | none => true)
      if lonely then (d.setTask x.1 { d.task x.1 with warned := some d.clk.now }).raise 286 x.1 else d) d
    let d := (List.range 128).foldl Dev.tryTarget d
    let d := d.tasks.foldl (fun (d : Dev) (x : Nat × Task) =>
      if x.2.state = 6 ∧ x.2.slot < 128 ∧ (d.holdsOf x.2.slot).all (fun h => h.kind == .park) ∧ d.ready x.2.slot then d.planTask x.1 else d) d
    { d with rounds := { d.rounds with passes := [], set := [], times := [] } })

def execAuctionRoundEnd (dt : Nat) (hundredths : Nat) (s : State) : Out := onDev s dt (auctionRoundEnd hundredths)

/-- A service ends (R266, R279): AT_PICK leads to TO_DROP, planned at once, or to DONE; AT_DROP to DONE. -/
def Dev.serviceEnd (d : Dev) (j : Nat) : Dev :=
  let t := d.task j
  if t.state = 5 ∧ t.drop ≠ 0xFFFF then (d.moveTask j 6 0).planTask j
  else if t.state = 5 ∨ t.state = 7 then (d.moveTask j 8 0).askRound
  else d

/-- The service time of a TIMED_SERVICE task has passed at rest (R279). -/
def serviceTimeExpiry (n : Nat) (d : Dev) : Dev :=
  d.when (d.up 6) (fun d =>
    let j := d.nat (slotKey n 0x11 1)
    let t := d.task j
    let svc := if t.state = 5 then t.pickSvc else t.dropSvc
    if j ≠ 0xFFFF ∧ t.timed ∧ (d.car n).v = 0 ∧ (d.car n).restAt + svc * 100 * msT ≤ d.clk.now then d.serviceEnd j else d)

def execServiceTimeExpiry (dt : Nat) (slot : Fin 128) (s : State) : Out := onDev s dt (serviceTimeExpiry slot.val)

end Sys2Proof.Machine
end

