-- ==== Sys2Proof/Machine/Drive.lean ====
section
/-!
DEFINITION. Vehicle motion (R280 to R292): authority, setpoint blocks, stops and vehicle commands; permissions (R306, R341,
R342), acknowledgements (R345) and task status reports (R347); and the reservation requests of the dictionary (R246 to R252).
-/
namespace Sys2Proof.Machine

/-- R253: the authority of a vehicle extends into an item's group. The second part tells a wait on another. -/
def Dev.extends (d : Dev) (n : Nat) (i : PathItem) : Bool × Bool :=
  let order := d.order i.group
  match order.findIdx? (fun h => h.path == n) with
  | none => (false, false)
  | some k =>
    let mine := (order[k]?).map (·.start)
    let begun := match mine with
      | some t => decide (t ≤ d.engMs)
      | none => false
    let clear := (order.take k).all (fun h => decide (h.kind = .supervisor ∧ h.stop ≤ d.engMs))
    (begun && clear, begun && !clear)

/-- The authority limit of a path (R253, R285, R489): the start of the first group into which the authority does not extend,
or the end at the park; within the END_CHAIN of the newest released grant. Also the group waited for. -/
def Dev.authority (d : Dev) (n : Nat) (p : Path) : Int × Option Nat :=
  let rear : Int := d.num (slotKey n 0x11 3) - d.trail n
  let ahead := p.items.filter (fun i => decide (rear ≤ i.c1))
  let endC : Int := ((p.items.getLast?).map (·.c1)).getD 0
  let c := d.car n
  let grantEnd : Int := match p.grants.find? (fun g => !c.heldBack.any (fun h => h.1 == g.id)) with
    | some g => g.stop
    | none => if p.grants = [] then endC else d.num (slotKey n 0x11 5)
  match ahead.find? (fun i => !(d.extends n i).1) with
  | some i => (min i.c0 grantEnd, if (d.extends n i).2 then some i.group else none)
  | none => (min endC grantEnd, none)

/-- The authority of a slot is brought up to date, frozen in a Whiteout and under stop cause 1 (R286, R306); event source 260
is raised once for each wait (R253). -/
def Dev.advance (d : Dev) (n : Nat) : Dev :=
  let c := d.car n
  match c.path with
  | none => d
  | some p =>
    if d.stopped ∨ c.stops.testBit 1 then d
    else
      let a := d.authority n p
      let d := d.setN (slotKey n 0x11 5) a.1
      match a.2 with
      | none => if c.waits = none then d else d.setCar n { c with waits := none }
      | some g => if c.waits = some g then d else (d.setCar n { c with waits := some g }).raise 260 n

/-- The arc of a path at an antenna chainage: arc, arc chainage and gear (R340). -/
def Path.arcAt (p : Path) (g : Graph) (s : Int) : Nat × Int × Bool :=
  match ((p.arcs.filter (fun x => decide (x.2 ≤ s))).getLast?).or p.arcs.head? with
  | none => (0xFFFF, 0, false)
  | some x => (x.1, s - x.2, ((g.arc x.1).map (·.gear)).getD false)

/-- What a block plans with: limits, speed zones along the path, rest target, and whether the vehicle brakes. -/
structure Course where
  lim    : MotionLim
  zones  : List (Rat × Rat × Rat)
  target : Rat
  brake  : Bool
  still  : Bool
  wait   : Nat

/-- One step of 20 ms of a course, of which the first `held` ms pass at rest before departure. -/
def Course.step (x : Course) (held : Nat) (st : Rat × Rat × Rat) : Rat × Rat × Rat :=
  let (s, v, a) := st
  if (x.still || decide (20 ≤ held)) && decide (v = 0) then (s, 0, 0)
  else if x.brake then (if v = 0 then (s, 0, 0) else brakeStep x.lim (1 / 50) s v a)
  else
    let l := limitAt x.zones x.lim.vmax s
    motionStep { x.lim with vmax := l.1 } l.2 x.target (if v = 0 then (20 - held : Nat) / 1000 else 1 / 50) s v a

/-- The states at the next `k` steps, `wait` ms before departure. -/
def Course.run (x : Course) : Nat → Nat → Rat × Rat × Rat → List (Rat × Rat × Rat)
  | 0, _, _ => []
  | k + 1, wait, st => x.step wait st :: x.run k (wait - 20) (x.step wait st)

/-- DECEL and JERK of a slot against its class record (R291): new ones apply where the stop with them still fits, and always at
rest; else the earlier ones stay, 5011:07 reads 1 and event source 288 is raised. -/
def Dev.newLimits (d : Dev) (n : Nat) (target : Rat) : Dev :=
  let c := d.car n
  let k := d.cls (d.slotClass n)
  if c.decel = k.decel ∧ c.jerk = k.jerk then d.setN (slotKey n 0x11 7) 0
  else if c.v = 0 ∨ stopDist k.decel k.jerk c.v c.a ≤ target - c.s then
    (d.setCar n { c with decel := k.decel, jerk := k.jerk }).setN (slotKey n 0x11 7) 0
  else if d.nat (slotKey n 0x11 7) = 1 then d
  else (d.setN (slotKey n 0x11 7) 1).raise 288 n

/-- A vehicle at rest with its front at the end of its path, its park, has arrived (R266, R276): a task whose leg ends there passes to
AT_PICK or AT_DROP. Task states do not change during a stop (R313). -/
def Dev.arrive (d : Dev) (n : Nat) (p : Path) : Dev :=
  let c := d.car n
  let j := d.nat (slotKey n 0x11 1)
  let endC : Int := ((p.items.getLast?).map (·.c1)).getD 0
  let node := ((d.parkOf n).map (·.2)).getD 0xFFFF
  let t := d.task j
  if c.v = 0 ∧ roundRat c.s + d.lead n = endC ∧ j ≠ 0xFFFF ∧ (t.state = 4 ∨ t.state = 6) ∧ t.leg = node ∧ !d.stopped then
    (d.setCar n { c with restAt := d.clk.now }).moveTask j (t.state + 1) 0
  else d

/-- A stale permission or setpoint block of a recovery of the switch island (R350): source 446 once for each recovery. -/
def Dev.staleTele (d : Dev) (n : Nat) : Dev :=
  if d.island 7 = 4 ∧ !d.tele.stale ∧ (d.destOf n).isSome then
    ({ d with tele := { d.tele with stale := true } }).raise 446 n
  else d

/-- The setpoint block of one slot with a path (R280 to R285, R287, R288, R291, R313, R317). -/
def Dev.block (d : Dev) (n : Nat) (late : Bool) : Dev :=
  match (d.car n).path with
  | none => d
  | some p =>
    let d := d.advance n
    let d := if (d.car n).tried then d else d.tryTarget n
    let c := d.car n
    let p := c.path.getD p
    let g := d.graph
    let k := d.cls (d.slotClass n)
    let auth := d.num (slotKey n 0x11 5)
    let endC : Int := ((p.items.getLast?).map (·.c1)).getD 0
    let target : Rat := max c.s ((min auth endC - d.lead n : Int) : Rat)
    let d := d.newLimits n target
    let c := { d.car n with woStop := (d.stopped || (d.car n).woStop) && decide ((d.car n).v ≠ 0) }
    let d := d.setCar n c
    let rev := d.inReverse n
    let emergency := d.stopped && decide (d.woLevel = 3)
    let lim : MotionLim :=
      { vmax := if rev then k.vmaxRev else k.vmax, accel := k.accel
        decel := if emergency then k.emerg else c.decel, jerk := if emergency then 4 * c.jerk else c.jerk }
    let braking := d.stopped || c.woStop || decide (c.stops ≠ 0)
    let dwell := decide (d.nat (slotKey n 0x11 2) = 5)
    let zones := d.limitsOf p.items k
    let here := (limitAt zones lim.vmax c.s).1
    let beyond := decide (here + 1 < c.v)
    let d := d.raiseIf (beyond && !c.beyond) 294 n
    let course : Course := { lim := lim, zones := zones, target := target, brake := braking
                             still := dwell, wait := (p.depart - d.engMs).toNat }
    let plan := course.run 10 course.wait (c.s, c.v, c.a)
    let state : Nat :=
      if dwell then 5
      else if c.v ≠ 0 then (if braking then 3 else 2)
      else if auth < endC ∧ target ≤ c.s then 4 else 1
    let rest : Rat := if braking then c.s + stopDist lim.decel lim.jerk c.v c.a else target
    let d := ((d.setN (slotKey n 0x11 2) state).setN (slotKey n 0x11 3) (roundRat c.s)).setN (slotKey n 0x11 4) (roundRat c.v)
    let d := (d.setN (slotKey n 0x11 6) (roundRat rest)).arrive n p
    let next := plan.head?.getD (c.s, 0, 0)
    let flds := plan.flatMap (fun x =>
      let s := roundRat x.1
      let r := p.arcAt g s
      [s, (r.1 : Int), if r.2.2 then 1 else 0, r.2.1, roundRat x.2.1, roundRat x.2.2])
    let d := d.staleTele n
    let c' := d.car n
    let d := d.setCar n { c' with s := next.1, v := next.2.1, a := next.2.2, beyond := beyond }
    let d := if d.reachQ n then
        let c := d.car n
        (d.setCar n { c with seqBlock := (c.seqBlock + 1) % 2 ^ 32 }).tell n .setpoints c.seqBlock
          ([((d.fleetNs / 20000000 * 20000000 : Nat) : Int), d.grantInForce n, 10, state] ++ flds)
      else d.unsent n true
    let due := match (d.car n).lateAt with
      | none => true
      | some t => decide (t + secT ≤ d.clk.now)
    if late && due then (d.setCar n { d.car n with lateAt := some d.clk.now }).raise 293 n else d

/-- The scale of block and period instants: fleet time, and the engine scale while there is none (R85). -/
def Dev.instantNs (d : Dev) : Nat := if d.timeState = 0 then d.engNs.toNat else d.fleetNs

/-- The number of the block instant T, a multiple of 20 ms (R284). -/
def Dev.blockNum (d : Dev) : Nat := d.instantNs / 20000000

/-- A block instant (R284): one block for every slot with a path. -/
def setpointBlock (late : List Nat) (d : Dev) : Dev :=
  d.when (d.up 6 && d.serving && decide (d.lastOf .block ≠ some d.blockNum)) (fun d =>
    (List.range 128).foldl (fun d n => d.block n (late.contains n)) (d.mark .block d.blockNum))

def execSetpointBlock (dt : Nat) (late : List Nat) (s : State) : Out := onDev s dt (setpointBlock late)

/-- GO of R342. -/
def Dev.go (d : Dev) (n : Nat) : Bool :=
  let c := d.car n
  !d.stopped && d.ready n && c.path.isSome && !c.stops.testBit 3 && !c.woStop

/-- The period 3410:01 in ns. -/
def Dev.periodNs (d : Dev) : Nat := d.nat 0x341001 * 1000000

/-- The number of the period instant, a multiple of 3410:01 (R306, R341). -/
def Dev.periodNum (d : Dev) : Nat := d.instantNs / d.periodNs

/-- One permission telegram (R341). -/
def Dev.permission (d : Dev) (n : Nat) : Dev :=
  let c := d.car n
  let c := { c with periods := min (c.periods + 1) 65535, resent := false }
  let d := (d.setCar n c).staleTele n
  if d.reach n then
    let d := d.setCar n { c with seqPerm := (c.seqPerm + 1) % 2 ^ 32 }
    d.tell n .permission c.seqPerm [(d.fleetNs / d.periodNs * d.periodNs : Nat), d.num 0x341001, if d.go n then 1 else 0, d.num 0x380102, d.num (slotKey n 1 9)
      , d.num 0x380103, d.grantInForce n, if c.path.isSome then d.num (slotKey n 0x11 5) else 0, d.num (slotKey n 0 4)
      , d.num (slotKey n 0x11 8), d.num 0x220006]
  else d.unsent n false

/-- At the first period of a new term the grant of every path held is sent as one new path of that term (R338). -/
def Dev.regrant (d : Dev) (n : Nat) : Dev :=
  match (d.car n).path with
  | none => d
  | some p => d.grantPath n false (p.arcs.map (·.1)) 0

/-- A period instant (R306, R342): one permission for every enabled slot, and the permission latency of R305. -/
def permissionPeriod (d : Dev) : Dev :=
  d.when (d.up 6 && d.serving && decide (d.lastOf .period ≠ some d.periodNum)) (fun d =>
    let d := d.mark .period d.periodNum
    let d := if d.tele.newTerm then
        { ((List.range 128).foldl Dev.regrant d) with tele := { d.tele with newTerm := false } }
      else d
    let was := d
    let d := d.settleHolds
    let d := d.slotsOn.foldl (fun d n => ((d.asksIfFree was n).advance n).permission n) d
    let d := if d.pair.firstPerm.isNone ∧ d.nat 0x440201 = 2 then { d with pair := { d.pair with firstPerm := some d.clk.now } } else d
    match d.wo.refAt with
    | some t =>
      if d.stopped ∧ !d.wo.reported.testBit 2 ∧ d.slotsOn.any (fun n => (d.car n).path.isSome && d.reach n) then
        let d := { d with wo := { d.wo with reported := d.wo.reported ||| 4 } }
        let took := d.clk.now - t
        (d.setN 0x38010B (min (took / 125000) 65535 : Nat)).raiseIf (decide ((d.wo.refP + 1) * msT < took)) 330 3
      else d
    | none => d)

def execPermissionPeriod (dt : Nat) (s : State) : Out := onDev s dt permissionPeriod

/-- A slot enters or leaves READY (R286): leaving it with a path stops the vehicle with cause 1; READY again ends that stop. -/
def Dev.carReady (d : Dev) (n : Nat) (isReady : Bool) : Dev :=
  let c := d.car n
  if isReady then
    if c.unready.isSome ∨ c.stops.testBit 1 then (d.setCar n { c with unready := none }).endStops n 2
    else if d.isFree n then d.askRound else d
  else if c.path.isSome ∧ c.unready.isNone then (d.setCar n { c with unready := some d.clk.now }).stopCar n 1
  else d.unassign n

/-- A slot that holds a path has not been READY again within 3410:02 (R286). -/
def readinessTimeout (n : Nat) (d : Dev) : Dev :=
  let due := match (d.car n).unready with
    | some t => decide (t + d.nat 0x341002 * secT ≤ d.clk.now)
    | none => false
  d.when (d.up 6 && due && (d.car n).path.isSome && !d.ready n) (fun d =>
    let d := d.setCar n { d.car n with unready := none }
    let d := (d.releasePath n).raise 292 n
    let j := d.nat (slotKey n 0x11 1)
    match (d.task j).state with
    | 4 => d.moveTask j 2 0
    | 6 => d.moveTask j 10 3
    | 7 => d.moveTask j 10 3
    | _ => d)

def execReadinessTimeout (dt : Nat) (slot : Fin 128) (s : State) : Out := onDev s dt (readinessTimeout slot.val)

/-- The route to a node from where the vehicle runs begins behind it (R292): the shortest time over the REVERSE of the arc
under the antenna is below that over its path. -/
def Dev.behind (d : Dev) (n node : Nat) : Bool :=
  let g := d.graph
  let c := d.car n
  let k := d.slotClass n
  match c.path with
  | none => false
  | some p =>
    let at_ := p.arcAt g (roundRat c.s)
    match g.arc at_.1 with
    | none => false
    | some a =>
      let time (from_ lead : Nat) : Option Nat :=
        (tabGet (relax (d.nat 0x301001) (d.arcsFor k) (g.nNodes + 1) [(from_, (lead, 0xFFFE, from_))]) node).map (·.1)
      let fwd := (d.restTime g at_.1 k at_.2.1).bind (time a.to_)
      let back := if (d.arcTime g a.rev k (d.cls k)).isNone then none else (d.restTime g a.rev k ((a.len : Int) - at_.2.1)).bind (time a.from_)
      match fwd, back with
      | _, none => false
      | none, some _ => true
      | some f, some b => decide (b < f)

/-- Vehicle command 3 (R289, R292): it replaces an earlier one. A moving vehicle with the route behind it gives up its path
beyond the first safe-park node it can stop at, and plans from there once it is at rest. -/
def Dev.goTo (d : Dev) (n node : Nat) : Dev :=
  let d := (d.setCar n { d.car n with target := some node, tried := false }).endStops n 32
  if d.parked n then d.tryTarget n
  else if d.behind n node then d.releasePath n
  else match d.route n node with
    | none => d
    | some arcs =>
      let r := d.planPath n arcs 0
      if r.2.ok then r.1.setCar n { r.1.car n with target := none } else r.1

/-- A write of 5013:01 of a slot (R289). An unknown code, a reserved field set or a node that does not exist is RANGE, and so
is command 4 in TO_DROP or AT_DROP. -/
def vehicleCommand (n : Nat) (v : DVal) (d : Dev) : Dev × Nat :=
  let w := v.int.toNat
  let arg := w % 65536
  let j := d.nat (slotKey n 0x11 1)
  match bitsOf w 31 24 with
    | 1 => ((d.setCar n { d.car n with target := none }).stopCar n 2, 0)
    | 2 => (d.endStops n 0x1C, 0)
    | 3 => if arg < d.graph.nNodes then (d.goTo n arg, 0) else (d, 8)
    | 4 =>
      match (d.task j).state with
      | 3 => (d.cancelTask j 4, 0)
      | 4 => (d.cancelTask j 4, 0)
      | 5 => (d.cancelTask j 4, 0)
      | 6 => (d, 8)
      | 7 => (d, 8)
      | _ => (d, 0)
    | _ => (d, 8)

/-- A vehicle command as it is written: its code, its reserved bits and its argument. -/
def Dev.carWrite (d : Dev) (q : Req) (n code rsv arg : Nat) : Dev :=
  d.command q (0x5013 + 32 * n) 1 (leBytes 2 arg ++ leBytes 1 rsv ++ leBytes 1 code) (vehicleCommand n)

def execVehicleHold (dt : Nat) (q : Req) (slot : Fin 128) (rsv arg : Nat) (s : State) : Out :=
  onDev s dt (fun d => d.carWrite q slot.val 1 rsv arg)
def execVehicleResume (dt : Nat) (q : Req) (slot : Fin 128) (rsv arg : Nat) (s : State) : Out :=
  onDev s dt (fun d => d.carWrite q slot.val 2 rsv arg)
def execVehicleGoToNode (dt : Nat) (q : Req) (slot : Fin 128) (rsv node : Nat) (s : State) : Out :=
  onDev s dt (fun d => d.carWrite q slot.val 3 rsv node)
def execVehicleGiveUpTask (dt : Nat) (q : Req) (slot : Fin 128) (rsv arg : Nat) (s : State) : Out :=
  onDev s dt (fun d => d.carWrite q slot.val 4 rsv arg)

/-- REV_DWELL ends at rest (R292): reverse motion begins. -/
def revDwellEnd (n : Nat) (d : Dev) : Dev :=
  let due := decide ((d.car n).dwellAt + (d.cls (d.slotClass n)).dwell * msT ≤ d.clk.now)
  d.when (d.up 6 && due && decide (d.nat (slotKey n 0x11 2) = 5) && decide ((d.car n).v = 0)) (fun d =>
    (d.setN (slotKey n 0x11 2) 1).raise 290 n)

def execRevDwellEnd (dt : Nat) (slot : Fin 128) (s : State) : Out := onDev s dt (revDwellEnd slot.val)

/-- Resend grants to a slot (R338): those after the one held, or the missing parts of the one in force; at most once in a
permission period, with event source 444. -/
def Dev.resend (d : Dev) (n held missing : Nat) : Dev :=
  let c := d.car n
  match c.path with
  | none => d
  | some p =>
    let inForce := d.grantInForce n
    if c.resent ∨ inForce = 0 ∨ (held = inForce ∧ missing = 0) then d
    else
      let out := (p.grants.filter (fun g => !c.heldBack.any (fun h => h.1 == g.id))).reverse
      let gs := if missing ≠ 0 then out.filter (fun g => g.id == inForce)
        else if out.any (fun g => g.id == held) then out.filter (fun g => decide (held < g.id)) else out
      let d := d.setCar n { c with resent := true }
      (gs.foldl (fun d g => d.sendGrant n g true (if missing ≠ 0 then missing else 15)) d).raise 444 n

/-- An acknowledgement (R344, R345): its content is kept, the absence ends, and a path taken from a Cairn is no longer
inherited once its vehicle acknowledges in the new term (R493). -/
def acknowledgement (addr port : Nat) (b : List Byte) (d : Dev) : Dev :=
  let t := teleOf addr port b
  let a := ackOf b
  d.when (d.up 8 && d.up 7) (fun d =>
    match d.checkTele t (·.rxAck) with
    | .error r => d.dropTele t r
    | .ok n => if t.typ ≠ 7 then d else
      let d := d.setCar n { d.car n with rxAck := some t.seq }
      let d := d.acceptTele t n
      if !d.serving then d
      else
        let d := d.setCar n { d.car n with ackPerm := a.permSeq, ackGrant := a.grant, ackState := a.state, ackLevel := a.level
                                           periods := 0, absent := false }
        -- R497: an acknowledgement of a lower term shows that the old active was still followed (log 21)
        let d := match d.pair.firstPerm with
          | some t0 => if t.term < d.nat 0x440203 then d.setN 0x44020E (min ((d.clk.now - t0) / 1250000) 65535 : Nat) else d
          | none => d
        let first := decide (t.term = d.nat 0x440203) && d.pair.inherited.contains n
        let d := if first then { d with pair := { d.pair with inherited := d.pair.inherited.filter (fun x => x != n) } } else d
        if t.term = d.nat 0x440203 then d.resend n a.grant a.missing else d)

def execAcknowledgement (dt : Nat) (addr port : Nat) (telegram : List Byte) (s : State) : Out :=
  onDev s dt (acknowledgement addr port telegram)

/-- A task status report of a vehicle (R347). A report for a task that the vehicle does not hold is counted (R279). -/
def taskReport (addr port : Nat) (b : List Byte) (d : Dev) : Dev :=
  let t := teleOf addr port b
  let r := reportOf b
  d.when (d.up 8 && d.up 7 && d.up 6) (fun d =>
    match d.checkTele t (·.rxTask) with
    | .error e => d.dropTele t e
    | .ok n => if t.typ ≠ 8 then d else
      let d := d.setCar n { d.car n with rxTask := some t.seq }
      let d := d.acceptTele t n
      if !d.serving then d
      else
        let k := d.task r.task
        if !(decide (d.nat (slotKey n 0x11 1) = r.task) && decide (k.id = r.id) && decide (1 ≤ k.state ∧ k.state ≤ 7)) then
          d.inc32 0x302008
        else
          let old := k.state
          let d := match r.event, old with
            | 1, 5 => d.serviceEnd r.task
            | 2, 7 => d.serviceEnd r.task
            | 3, 6 => d.moveTask r.task 10 2
            | 3, 7 => d.moveTask r.task 10 2
            | 3, _ => d.cancelTask r.task 4
            | _, _ => d
          -- a change of state has sent task status; else the report is answered by one
          if (d.task r.task).state = old then d.taskStatus r.task n else d)

def execTaskStatusReport (dt : Nat) (addr port : Nat) (telegram : List Byte) (s : State) : Out :=
  onDev s dt (taskReport addr port telegram)

/-- 3420:04 period instants have passed without an acknowledgement (R345): event source 443, once for each absence. -/
def ackTimeout (n : Nat) (d : Dev) : Dev :=
  d.when (d.up 6 && d.slotOn n && decide (d.nat 0x342004 ≤ (d.car n).periods) && !(d.car n).absent) (fun d =>
    (d.setCar n { d.car n with absent := true }).raise 443 n)

def execAckTimeout (dt : Nat) (slot : Fin 128) (s : State) : Out := onDev s dt (ackTimeout slot.val)

/-- The link table 3431:01 (R351). -/
def Dev.linkTable (d : Dev) : List Byte :=
  (List.range 128).flatMap (fun n =>
    let c := d.car n
    leBytes 4 (c.seqPerm - 1) ++ leBytes 4 c.ackPerm ++ leBytes 4 c.ackGrant ++ leBytes 2 c.periods ++ leBytes 1 c.ackState
      ++ leBytes 1 c.ackLevel)

/-- A reservation request written to 2E10:01. The grant of an accepted RESERVE or EXTEND of a vehicle path is sent
(R336). Requests of supervisors are executed in a stop as usual (R313). -/
def reservation (op : Nat) (v : DVal) (d : Dev) : Dev × Nat :=
  let b := v.bytes
  let r := (parseReq b).2
  let before := (((d.car r.path).path).map (·.arcs.length)).getD 0
  let res := d.dictRequest op r
  let d := res.1
  if res.2.code = 0 ∧ (op = 1 ∨ op = 2) ∧ r.path < 128 then
    let arcs := (((d.car r.path).path).map (·.arcs.map (·.1))).getD []
    let fresh := if op = 2 then arcs.drop before else arcs
    (d.grantPath r.path (decide (op = 2)) fresh 0, 0)
  else (d, 0)

/-- A write of 2E10:01 with an OP. -/
def Dev.resWrite (d : Dev) (q : Req) (op : Nat) (r : ResReq) : Dev := d.command q 0x2E10 1 (reqBytes op r) (reservation op)

def execReserve (dt : Nat) (q : Req) (r : ResReq) (s : State) : Out := onDev s dt (fun d => d.resWrite q 1 r)
def execExtend (dt : Nat) (q : Req) (r : ResReq) (s : State) : Out := onDev s dt (fun d => d.resWrite q 2 r)
def execRelease (dt : Nat) (q : Req) (r : ResReq) (s : State) : Out := onDev s dt (fun d => d.resWrite q 3 r)
def execLookup (dt : Nat) (q : Req) (r : ResReq) (s : State) : Out := onDev s dt (fun d => d.resWrite q 4 r)

/-- A force release (R252): every hold of a path goes, with event source 267 and a Moraine entry. A vehicle whose path goes has
none; a task in TO_DROP or AT_DROP fails with REASON 6 (R265). -/
def forceRelease (v : DVal) (d : Dev) : Dev × Nat :=
  let p := v.int.toNat
  let d := (d.dropHolds (fun h => h.path == p)).raiseM 267 p 6
  if p < 128 then
    let j := d.nat (slotKey p 0x11 1)
    let d := d.setCar p { d.car p with path := none, s := 0, v := 0, a := 0, target := none, waits := none, woStop := false
                                       unready := none, heldBack := [], beyond := false }
    let d := [2, 3, 4, 5, 6, 7].foldl (fun d i => d.setN (slotKey p 0x11 i) 0) d
    let st := (d.task j).state
    let d := if j ≠ 0xFFFF ∧ (st = 6 ∨ st = 7) then d.moveTask j 10 6 else d
    (if d.isFree p then d.askRound else d, 0)
  else (d, 0)

def execForceRelease (dt : Nat) (q : Req) (data : List Byte) (s : State) : Out :=
  onDev s dt (fun d => d.command q 0x2E14 1 data forceRelease)

end Sys2Proof.Machine
end

