-- ==== Sys2Proof/Machine/Linear.lean ====
section
/-!
DEFINITION. Arithmetic on vectors and matrices of rationals, logarithms and normal and chi-square tails by comparison and series, and the
positions that the receiver and the position engine work from (R157, R159, R195, R218). The rule of rounding is that of Geometry.lean (log 14).
-/
namespace Sys2Proof.Machine

/-- A matrix by rows. -/
abbrev Mat := List (List Rat)

/-- An entry of a vector, 0 beyond its end. -/
def vget (v : List Rat) (i : Nat) : Rat := (v[i]?).getD 0
/-- An entry of a matrix, 0 beyond its end. -/
def mget (m : Mat) (i j : Nat) : Rat := vget ((m[i]?).getD []) j
/-- A vector by its entries. -/
def vecOf (n : Nat) (f : Nat → Rat) : List Rat := (List.range n).map f
/-- A matrix by its entries. -/
def matOf (n m : Nat) (f : Nat → Nat → Rat) : Mat := (List.range n).map (fun i => vecOf m (f i))
/-- Inner product. -/
def vdot (a b : List Rat) : Rat := ((a.zip b).map (fun p => p.1 * p.2)).sum
/-- Transpose of a matrix with `m` columns. -/
def mtrans (m : Nat) (a : Mat) : Mat := matOf m a.length (fun i j => mget a j i)
/-- Product with the transpose: `a * bᵀ`. -/
def mulT (a b : Mat) : Mat := a.map (fun r => b.map (fun c => vdot r c))
/-- Product with a matrix of `m` columns. -/
def mmul (m : Nat) (a b : Mat) : Mat := mulT a (mtrans m b)
/-- Matrix times vector. -/
def mvec (a : Mat) (v : List Rat) : List Rat := a.map (fun r => vdot r v)
/-- Sum of vectors. -/
def vadd (a b : List Rat) : List Rat := (a.zip b).map (fun p => p.1 + p.2)
/-- Difference of vectors. -/
def vsub (a b : List Rat) : List Rat := (a.zip b).map (fun p => p.1 - p.2)
/-- Sum of matrices. -/
def madd (a b : Mat) : Mat := (a.zip b).map (fun p => vadd p.1 p.2)
/-- Difference of matrices. -/
def msub (a b : Mat) : Mat := (a.zip b).map (fun p => vsub p.1 p.2)

/-- One step of Gauss-Jordan elimination on an augmented matrix: column `c`. -/
def elimStep (a : Mat) (c : Nat) : Option Mat :=
  match ((List.range a.length).drop c).find? (fun i => mget a i c ≠ 0) with
  | none => none
  | some p =>
    let rp := (a[p]?).getD []
    let rc := (a[c]?).getD []
    let piv := rp.map (fun x => x / vget rp c)
    some (a.mapIdx (fun i r =>
      if i = c then piv
      else
        let r := if i = p then rc else r
        vsub r (piv.map (fun x => x * vget r c))))

/-- Inverse of a square matrix, where it has one. -/
def minv (a : Mat) : Option Mat :=
  let n := a.length
  let aug := a.mapIdx (fun i r => r ++ vecOf n (fun j => if i = j then 1 else 0))
  ((List.range n).foldl (fun (m : Option Mat) c => m.bind (fun m => elimStep m c)) (some aug)).map (fun m => m.map (fun r => r.drop n))

/-- Speed of light in m/s. -/
def cLight : Rat := 299792458

/-- The Benchmark in m (2490:01). -/
def Dev.bench (d : Dev) : List Rat :=
  let b := d.oct 0x249001
  [(fieldI b 0 8 : Rat) / 10000, (fieldI b 8 8 : Rat) / 10000, (fieldI b 16 8 : Rat) / 10000]

/-- Steps of the geodetic latitude of a point at distance `p` from the axis and height `z` on WGS 84. -/
def latStep : Nat → Rat → Rat → Rat → Rat
  | 0, _, _, phi => phi
  | k + 1, p, z, phi =>
    let e2 : Rat := (2 - 1000000000 / 298257223563) * 1000000000 / 298257223563
    let s := sinR phi
    let n := sharp (6378137 / rootR (sharp (1 - e2 * s * s)))
    latStep k p z (atan2R (sharp (z + e2 * n * s)) p)

/-- The rotation from ECEF to the grid: E, N and U rows (R218, R219). -/
def gridBasis (bench : List Rat) (theta : Rat) : Mat :=
  let x := vget bench 0
  let y := vget bench 1
  let z := vget bench 2
  let p := rootR (x * x + y * y)
  let phi := latStep 8 p z (atan2R z p)
  let lam := atan2R y x
  let sl := sinR lam
  let cl := cosR lam
  let sp := sinR phi
  let cp := cosR phi
  let e := [-sl, cl, 0]
  let n := [-(sp * cl), -(sp * sl), cp]
  let u := [cp * cl, cp * sl, sp]
  let s := sinR theta
  let c := cosR theta
  [vadd (e.map (· * c)) (n.map (· * s)), vsub (n.map (· * c)) (e.map (· * s)), u].map (fun r => r.map sharp)

/-- Receiver and base position of an antenna in ECEF: Benchmark plus the grid position. -/
def ecefOf (bench : List Rat) (m : Mat) (p : List Rat) : List Rat :=
  (vadd bench (vecOf 3 (fun i => vget p 0 * mget m 0 i + vget p 1 * mget m 1 i + vget p 2 * mget m 2 i))).map sharp

/-- The reference point of an antenna in ECEF (R157): the Benchmark, for antenna 1 with the baseline 2490:05. -/
def Dev.antPoint (d : Dev) (a : Nat) : List Rat :=
  if a = 0 then d.bench
  else
    let b := d.oct 0x249005
    vadd d.bench (vecOf 3 (fun i => (fieldI b (4 * i) 4 : Rat) / 10000))

/-- The mean phase centre of band-antenna pair `p` (R157, R195): a reference point with the offset of 2491, whose north, east and up are those
of the local frame at it. -/
def Dev.phaseCentre (d : Dev) (p : Nat) (point : List Rat) : List Rat :=
  let o := d.oct (0x249101 + p)
  ecefOf point (gridBasis point 0) [(fieldI o 4 4 : Rat) / 10000, (fieldI o 0 4 : Rat) / 10000, (fieldI o 8 4 : Rat) / 10000]

/-- The base's phase centre in band `b` (R195). -/
def Dev.baseCentre (d : Dev) (b : Nat) : List Rat := d.phaseCentre b d.bench

/-- Length of a vector in ECEF. -/
def norm3 (v : List Rat) : Rat := rootR (sharp (vdot v v))

/-- Sine of an elevation in 0.1°. -/
def sinEl (el : Int) : Rat := sinR ((el : Rat) * halfPi / 900)

/-- The largest number below 2^`bits`, added to `m`, whose power of 10 does not exceed `num / den`. -/
def logBits : Nat → Nat → Nat → Nat → Nat
  | 0, m, _, _ => m
  | b + 1, m, num, den =>
    let k := m + 2 ^ b
    if 10 ^ k * den ≤ num then logBits b k num den else logBits b m num den

/-- The floor of `k` times the common logarithm of a rational of at least 1; 0 below. -/
def logFloor (k : Nat) (x : Rat) : Nat := if x < 1 then 0 else logBits 16 0 (x.num.toNat ^ k) (x.den ^ k)

/-- `k` times the common logarithm of a positive rational, to nearest. -/
def logRound (k : Nat) (x : Rat) : Int :=
  if 1 ≤ x then ((logFloor (2 * k) x + 1) / 2 : Nat)
  else if x ≤ 0 then 0
  else -((logFloor (2 * k) (1 / x) + 1) / 2 : Nat)

/-- The sum of `k` terms of a series whose term `i + 1` is `y / f i` times its term `i`, from the term `t` numbered `i`. -/
def ratioSum (f : Nat → Rat) (y : Rat) : Nat → Nat → Rat → Rat
  | 0, _, _ => 0
  | k + 1, i, t => t + ratioSum f y k (i + 1) (sharp (t * y / f i))

/-- The exponential of a rational that is not negative, by its series. -/
def expR (y : Rat) : Rat := ratioSum (fun i => (i : Rat) + 1) y (3 * y.ceil.toNat + 60) 0 1

/-- Two over the square root of π. -/
def twoOverRootPi : Rat := sharp (2 / rootR circle)

/-- The probability that a chi-square variable of `k` degrees of freedom exceeds `x` (R164, R197). Past `2 k + 200` it is below 10^-20. -/
def chiTail (k : Nat) (x : Rat) : Rat :=
  let y := sharp (x / 2)
  if k = 0 ∨ x ≤ 0 then (if x ≤ 0 then 1 else 0)
  else if 2 * (k : Rat) + 200 < x then 0
  else
    let m := k / 2
    let n := m + 3 * y.ceil.toNat + 60
    if k % 2 = 0 then ratioSum (fun i => (i : Rat) + 1) y m 0 1 / expR y
    else
      let h (i : Nat) : Rat := (i : Rat) + 3 / 2
      let t0 := sharp (rootR y * twoOverRootPi)
      1 - (ratioSum h y n 0 t0 - ratioSum h y m 0 t0) / expR y

/-- The probability that a normal variable lies within `x` standard deviations of its mean: 2 Φ(x) − 1 (R201). -/
def normalWithin (x : Rat) : Rat := 1 - chiTail 1 (x * x)

/-- Samples of the last `span` ticks with a new one at their end. -/
def slide (l : List (Nat × Rat)) (now span : Nat) (v : Rat) : List (Nat × Rat) :=
  (l.filter (fun e => decide (now < e.1 + span))) ++ [(now, v)]

/-- The mean of samples. -/
def meanOf (l : List (Nat × Rat)) : Rat := if l = [] then 0 else (l.map (·.2)).sum / l.length

end Sys2Proof.Machine
end

