-- ==== Sys2Proof/Machine/Receiver.lean ====
section
/-!
DEFINITION. The reference receiver's antenna feeds, interference handling, channels, loops and reserve channels (R121 to R144,
R153 to R156), with its restarts. What its inputs show (currents, samples, correlator sums, satellites in view) are operands.
-/
namespace Sys2Proof.Machine

/-- The start of a run of a condition: kept while it holds. -/
def runOf (c : Bool) (old : Option Nat) (start : Nat) : Option Nat := if c then some (old.getD start) else none

/-- True where a run has lasted `ms`. -/
def ranFor (r : Option Nat) (now ms : Nat) : Bool :=
  match r with
  | some t => decide (t + msTicks ms ≤ now)
  | none => false

/-- The channel with a number: channels 384 to 415 are reserve until they have been brought in (R144, R155). -/
def Dev.chan (d : Dev) (c : Nat) : Chan := tabGetD d.rx.chans c { chan0 with state := if c < 384 ∨ c ∈ d.rx.joined then 0 else 6 }

/-- Change a channel. -/
def Dev.setChan (d : Dev) (c : Nat) (x : Chan) : Dev := { d with rx := { d.rx with chans := tabPut d.rx.chans c x } }

/-- A channel enters a state (R137): the run marks start again. -/
def Dev.chanTo (d : Dev) (c st : Nat) : Dev :=
  d.setChan c { d.chan c with state := st, since := d.clk.now, pullAt := none, highAt := none, lowAt := none, weakAt := none }

/-- The searches that wait for the bank, 2430:06: the one at the front is being served. -/
def Dev.bankStatus (d : Dev) : Dev := d.setN 0x243006 (d.rx.queue.length - 1 : Nat)

/-- The feed entries of antenna `a`: enable, state and current (R123). -/
def feedKey (sub a : Nat) : Key := 0x240000 + sub + a

/-- The state a bias that is applied shows at a current in 0.1 mA (R123). -/
def feedOf (current : Nat) : Nat := if 1200 < current then 3 else if current < 50 then 2 else 1

/-- A feed takes a state (R124): 110 on open and short, 111 on a return to normal. -/
def Dev.setFeed (d : Dev) (a st current : Nat) : Dev :=
  let old := d.nat (feedKey 3 a)
  let d := (d.setN (feedKey 3 a) (st : Nat)).setN (feedKey 5 a) (current : Nat)
  if old = st then d
  else if st = 2 ∨ st = 3 then d.raise 110 (a * 256 + st)
  else if st = 1 ∧ 2 ≤ old then d.raise 111 a
  else d

/-- The current of a feed passes 120 mA: its bias is cut (R124). -/
def feedShort (a current : Nat) (d : Dev) : Dev :=
  d.when (d.up 4 && d.flag (feedKey 1 a) && decide (1200 < current) && decide (d.nat (feedKey 3 a) ≠ 3)) (fun d =>
    ((d.setFeed a 3 current).mark (.feed a) d.clk.now).emit .feedBias [a] [0])

/-- Every 10 s the bias of a shorted feed is applied again for 1 ms; where the short has cleared it stays applied (R124). -/
def feedRetry (a current : Nat) (d : Dev) : Dev :=
  d.when (d.up 4 && d.flag (feedKey 1 a) && decide (d.nat (feedKey 3 a) = 3) && d.dueIn (.feed a) (10 * secT)) (fun d =>
    let d := (d.mark (.feed a) d.clk.now).emit .feedBias [a] [1]
    if 1200 < current then (d.setN (feedKey 5 a) (current : Nat)).emit .feedBias [a] [0]
    else d.setFeed a (feedOf current) current)

/-- A feed changes to open or to normal (R124). -/
def feedStateChange (a current : Nat) (d : Dev) : Dev :=
  d.when (d.up 4 && d.flag (feedKey 1 a) && decide (current ≤ 1200) && decide (d.nat (feedKey 3 a) ≠ 3)) (fun d =>
    d.setFeed a (feedOf current) current)

/-- The feed follows its enable at a commit or at the island's start: off, or bias applied. -/
def Dev.feedEnable (d : Dev) (a : Nat) : Dev :=
  if d.flag (feedKey 1 a) then (if d.nat (feedKey 3 a) = 0 then (d.setN (feedKey 3 a) 1).emit .feedBias [a] [1] else d)
  else if d.nat (feedKey 3 a) = 0 then d
  else ((d.setN (feedKey 3 a) 0).setN (feedKey 5 a) 0).emit .feedBias [a] [0]

def execFeedShort (dt : Nat) (ant : Fin 2) (current : Nat) (s : State) : Out := onDev s dt (feedShort ant.val current)
def execFeedRetry (dt : Nat) (ant : Fin 2) (current : Nat) (s : State) : Out := onDev s dt (feedRetry ant.val current)
def execFeedStateChange (dt : Nat) (ant : Fin 2) (current : Nat) (s : State) : Out :=
  onDev s dt (feedStateChange ant.val current)

/-- The setting `sub` of pair `p` (R125). -/
def bandSet (p sub : Nat) : Key := (0x2410 + p) * 256 + sub

/-- The status entry `sub` of pair `p` (R129). -/
def bandKey (p sub : Nat) : Key := (0x2420 + p) * 256 + sub

/-- Set the state of a notch: engaging raises 108, releasing 109 (R126). -/
def Dev.setNotch (d : Dev) (p n st : Nat) (centre : Int) : Dev :=
  let old := d.nat (bandKey p (5 + n))
  let d := (d.setN (bandKey p (1 + n)) centre).setN (bandKey p (5 + n)) (st : Nat)
  if old = 0 ∧ st ≠ 0 then d.raise 108 (4 * p + n) else if old ≠ 0 ∧ st = 0 then d.raise 109 (4 * p + n) else d

/-- A notch follows its mode at a commit or at the island's start (R126): a fixed notch is always engaged at its frequency. -/
def Dev.notchMode (d : Dev) (p n : Nat) : Dev :=
  let mode := d.nat (bandSet p (1 + n))
  let st := d.nat (bandKey p (5 + n))
  if mode = 2 then d.setNotch p n 2 (d.num (bandSet p (5 + n)))
  else if st = 2 ∨ (mode = 0 ∧ st = 1) then d.setNotch p n 0 0
  else d

/-- The band state of a pair. -/
def Dev.band (d : Dev) (p : Nat) : Band := tabGetD d.rx.bands p band0

/-- Change the band state of a pair. -/
def Dev.setBand (d : Dev) (p : Nat) (b : Band) : Dev := { d with rx := { d.rx with bands := tabPut d.rx.bands p b } }

/-- An engaged notch of a pair other than `n` takes a frequency already: its centre is within half the notch width (R126). -/
def Dev.notched (d : Dev) (p : Nat) (freq : Int) (n : Option Nat) : Bool :=
  (List.range 4).any (fun i => !(n == some i) && decide (d.nat (bandKey p (5 + i)) ≠ 0)
    && decide ((d.num (bandKey p (1 + i)) - freq).natAbs * 2 ≤ d.nat (bandSet p 0x0A) * 1000))

/-- A component rises to the detection threshold, `level` in 0.1 dB over the noise floor: the lowest idle adaptive notch engages on it, unless a
notch has it already (R126). -/
def notchEngage (p : Nat) (freq level : Int) (d : Dev) : Dev :=
  d.when (d.up 4 && decide (freq.natAbs ≤ 30000000) && decide (10 * d.num (bandSet p 9) < level) && !d.notched p freq none) (fun d =>
    match (List.range 4).find? (fun n => decide (d.nat (bandSet p (1 + n)) = 1) && decide (d.nat (bandKey p (5 + n)) = 0)) with
    | some n =>
      let b := d.band p
      (d.setBand p { b with moved := tabPut b.moved n d.clk.now, weak := tabDel b.weak n }).setNotch p n 1 freq
    | none => d)

/-- An engaged adaptive notch sees its component (R126): its centre follows at up to 1 MHz/s, never onto a component that another notch takes,
and the time since which the component has stood 3 dB below the threshold is kept. -/
def Dev.followNotch (d : Dev) (p n : Nat) (freq level : Int) : Dev :=
  if d.nat (bandKey p (5 + n)) ≠ 1 then d
  else
    let b := d.band p
    let was := tabGetD b.moved n d.clk.now
    let most : Int := ((d.clk.now - was) / 1250 : Nat)
    let old := d.num (bandKey p (1 + n))
    let low := decide (level + 30 ≤ 10 * d.num (bandSet p 9))
    let weak := if low then (if (tabGet b.weak n).isSome then b.weak else tabPut b.weak n d.clk.now) else tabDel b.weak n
    let d := d.setBand p { b with moved := tabPut b.moved n d.clk.now, weak := weak }
    if freq.natAbs ≤ 30000000 ∧ !low ∧ !d.notched p freq (some n) then
      d.setN (bandKey p (1 + n)) (max (old - most) (min (old + most) freq))
    else d

/-- A component has stayed 3 dB or more below the threshold for 1 s: its adaptive notch releases (R126). -/
def notchRelease (p n : Nat) (d : Dev) : Dev :=
  d.when (d.up 4 && decide (d.nat (bandKey p (5 + n)) = 1) && ranFor (tabGet (d.band p).weak n) d.clk.now 1000) (fun d => d.setNotch p n 0 0)

def execNotchEngage (dt : Nat) (pair : Fin 6) (freq level : Int) (s : State) : Out := onDev s dt (notchEngage pair.val freq level)
def execNotchRelease (dt : Nat) (pair : Fin 6) (notch : Fin 4) (s : State) : Out := onDev s dt (notchRelease pair.val notch.val)

/-- One sample through the pulse blanker (R127), from its squared magnitude: zeroed above the threshold `thr` in 0.1 × noise RMS and for `hold`
samples after it. A window of 1 ms, 102,300 samples, of which none was blanked gives the noise RMS. -/
def Band.blank (on : Bool) (thr hold : Nat) (b : Band) (m2 : Nat) : Band :=
  let hot := on && (match b.rms2 with
    | some r => decide ((thr * thr : Nat) * r < 100 * (m2 : Rat))
    | none => false)
  let off := hot || (on && decide (0 < b.hold))
  let b : Band := { b with
    hold := if hot then hold else b.hold - 1, bad := b.bad + (if off then 1 else 0), all := b.all + 1
    sum := b.sum + m2, count := b.count + 1, dirty := b.dirty || off }
  if b.count < 102300 then b
  else { b with rms2 := if b.dirty then b.rms2 else some ((b.sum : Rat) / 102300), sum := 0, count := 0, dirty := false }

/-- The samples of a pair through the blanker, with the counts of the last second (R127, 2420:0B). The hold is that of 2410:0D in whole samples
of 102.3 Msps. -/
def Dev.blankAll (d : Dev) (p : Nat) (mags2 : List Nat) : Dev :=
  let b := d.band p
  let on := d.flag (bandSet p 0x0B)
  let x := mags2.foldl (Band.blank on (d.nat (bandSet p 0x0C)) (d.nat (bandSet p 0x0D) * 1023 / 10000)) b
  let log := (b.log.filter (fun e => decide (d.clk.now < e.1 + secT))) ++ [(d.clk.now, x.bad - b.bad, x.all - b.all)]
  let all := (log.map (fun e => e.2.2)).sum
  (d.setBand p { x with log := log }).setN (bandKey p 0x0B) ((log.map (fun e => e.2.1)).sum * 10000 / all : Nat)

/-- The jamming indicator of a J/N in 0.25 dB (R128). -/
def jammingIndicator (jn : Nat) : Nat := min 255 (min jn 400 * 255 / 400)

/-- J/N, JI and the peak are written (R128, R129). -/
def Dev.showJn (d : Dev) (p jn : Nat) : Dev :=
  let ji := jammingIndicator jn
  let d := (d.setN (bandKey p 0x0A) (min jn 400 : Nat)).setN (bandKey p 9) (ji : Nat)
  if d.nat (bandKey p 0x0E) < ji then d.setN (bandKey p 0x0E) (ji : Nat) else d

/-- What a pair gives at a moment (R126 to R129): its samples are blanked, its notches follow, and J/N is the power other than thermal noise that
the AGC and the notches show against the noise-only calibration, averaged over 100 ms, in whole steps of 0.25 dB. -/
def Dev.sampleBand (d : Dev) (p : Nat) (s : BandSample) : Dev :=
  let d := d.blankAll p s.mags2
  let d := (s.parts.zip (List.range 4)).foldl (fun (d : Dev) x => d.followNotch p x.2 x.1.1 x.1.2) d
  let b := d.band p
  let jn := slide b.jn d.clk.now (msTicks 100) (s.power + s.notched - 1)
  let gain : Int := -(logRound 100 s.power)
  let agc := slide b.agc d.clk.now secT gain
  let d := (d.showJn p (logFloor 40 (meanOf jn))).setN (bandKey p 0x0C) gain
  let low := runOf (decide (d.nat (bandKey p 9) + 16 < d.nat (bandKey p 0x0D))) b.low d.clk.now
  d.setBand p { b with jn := jn, agc := agc, low := low }

/-- JI stands at its threshold or above: event source 96 + p, once until the falling event (R130). -/
def Dev.judgeRise (d : Dev) (p : Nat) : Dev :=
  let ji := d.nat (bandKey p 9)
  if d.nat (bandKey p 0x0D) ≤ ji ∧ !d.rx.jamUp.contains p then
    ({ d with rx := { d.rx with jamUp := p :: d.rx.jamUp } }).raise (96 + p) ji
  else d

/-- JI has stayed below its threshold less 16 for 1 s after a rise: event source 102 + p (R130). -/
def Dev.judgeFall (d : Dev) (p : Nat) : Dev :=
  if d.rx.jamUp.contains p ∧ ranFor (d.band p).low d.clk.now 1000 then
    ({ d with rx := { d.rx with jamUp := d.rx.jamUp.filter (fun x => x != p) } }).raise (102 + p) 0
  else d

/-- JI rises to its threshold (R130). -/
def jammingRise (p : Nat) (s : BandSample) (d : Dev) : Dev := d.when (d.up 4) (fun d => (d.sampleBand p s).judgeRise p)

/-- JI has stayed below its threshold less 16 for 1 s (R130). -/
def jammingClear (p : Nat) (s : BandSample) (d : Dev) : Dev := d.when (d.up 4) (fun d => (d.sampleBand p s).judgeFall p)

def execJammingRise (dt : Nat) (pair : Fin 6) (b : BandSample) (s : State) : Out := onDev s dt (jammingRise pair.val b)
def execJammingClear (dt : Nat) (pair : Fin 6) (b : BandSample) (s : State) : Out := onDev s dt (jammingClear pair.val b)

/-- The signals of each system (R122): GPS 0, Galileo 1, BeiDou 2, QZSS 3. -/
def signalOk (sys sig : Nat) : Bool :=
  if sys = 0 ∨ sys = 3 then decide (sig ≤ 3) else if sys = 1 then decide (4 ≤ sig ∧ sig ≤ 6) else decide (sys = 2 ∧ 7 ≤ sig ∧ sig ≤ 10)

/-- The data-only signals: those without a pilot component (R122). -/
def dataOnly (sig : Nat) : Bool := sig == 0 || sig == 7 || sig == 10

/-- Loop class of a signal (R142). -/
def loopClass (sig : Nat) : Nat :=
  if sig = 0 ∨ sig = 7 ∨ sig = 10 then 0 else if sig = 1 ∨ sig = 4 ∨ sig = 8 then 1 else if sig = 2 then 2 else 3

/-- The setting `sub` of a loop class (R142). -/
def Dev.loopSet (d : Dev) (sig sub : Nat) : Nat := d.nat ((0x2440 + loopClass sig) * 256 + sub)

/-- Carrier of a signal in Hz, its code rate in chips per second, and its offset from the band centre (R122). -/
def carrierHz (sig : Nat) : Nat :=
  match sig with
  | 2 => 1227600000 | 3 => 1176450000 | 5 => 1176450000 | 6 => 1207140000 | 7 => 1561098000
  | 9 => 1176450000 | 10 => 1207140000 | _ => 1575420000

/-- Chip rate of the tracked component, from the code length and its duration (R122). -/
def chipHz (sig : Nat) : Nat :=
  match sig with
  | 2 => 511500 | 3 => 10230000 | 5 => 10230000 | 6 => 10230000 | 7 => 2046000 | 9 => 10230000 | 10 => 2046000 | _ => 1023000

/-- The intermediate frequency of a signal: its offset from the band centre (R122). -/
def offsetHz (sig : Nat) : Int :=
  match sig with
  | 2 => 0 | 3 => -15345000 | 5 => -15345000 | 6 => 15345000 | 7 => -7161000 | 9 => -15345000 | 10 => 15345000 | _ => 7161000

/-- The band of a signal (R121, R122). -/
def bandOf (sig : Nat) : Nat :=
  if sig = 2 then 1 else if sig = 3 ∨ sig = 5 ∨ sig = 6 ∨ sig = 9 ∨ sig = 10 then 2 else 0

/-- The observation code of a signal, its two characters as bytes (R122). -/
def obsCode (sig : Nat) : List Nat :=
  match sig with
  | 0 => [0x31, 0x43] | 1 => [0x31, 0x4C] | 2 => [0x32, 0x4C] | 3 => [0x35, 0x51] | 4 => [0x31, 0x43] | 5 => [0x35, 0x51]
  | 6 => [0x37, 0x51] | 7 => [0x32, 0x49] | 8 => [0x31, 0x50] | 9 => [0x35, 0x50] | _ => [0x37, 0x49]

/-- Half the width in Hz of a signal's main lobe about its carrier: the chip rate of a BPSK signal, for L2C that of its two multiplexed
components together, and twice the chip rate of BOC(1,1), whose two main lobes reach so far (PRESUMED, log 73). -/
def lobeHz (sig : Nat) : Nat :=
  match sig with
  | 0 => 1023000 | 1 => 2046000 | 2 => 1023000 | 4 => 2046000 | 8 => 2046000 | _ => chipHz sig

/-- Period of the tracked primary code in ms (R122). -/
def codeMs (sig : Nat) : Nat :=
  match sig with
  | 1 => 10 | 2 => 1500 | 4 => 4 | 8 => 10 | _ => 1

/-- True while a channel tracks. -/
def Chan.tracks (x : Chan) : Bool := x.state == 3 || x.state == 4

/-- The signal of a channel. -/
def Chan.signal (x : Chan) : Sig := { sys := x.sys, sig := x.sig, sat := x.sat, ant := x.ant }

/-- A channel that an allocator's signal has taken: SEARCH to COAST. -/
def Chan.busy (x : Chan) : Bool := decide (1 ≤ x.state ∧ x.state ≤ 5)

/-- A search of the acquisition bank (R131): coherent time in ms, code bins and how many lie in a chip, Doppler bins and their width in Hz, and
passes. -/
structure Search where
  ms      : Nat
  bins    : Nat
  perChip : Nat
  dopBins : Nat
  width   : Rat
  passes  : Nat
deriving DecidableEq, Repr

/-- The search of R131 for a signal, unaided or by handover. -/
def searchOf (sig : Nat) (unaided : Bool) : Search :=
  match unaided, sig with
  | true, 4 => { ms := 4, bins := 16368, perChip := 4, dopBins := 161, width := 125, passes := 81 }
  | true, 7 => { ms := 1, bins := 4092, perChip := 2, dopBins := 41, width := 500, passes := 6 }
  | true, _ => { ms := 1, bins := 2046, perChip := 2, dopBins := 41, width := 500, passes := 3 }
  | false, _ =>
    let t := min (codeMs sig) 10
    { ms := t, bins := 9, perChip := 2, dopBins := 5, width := 1000 / t, passes := 1 }

/-- R131 has an unaided search of a signal. -/
def hasUnaided (sig : Nat) : Bool := sig == 0 || sig == 4 || sig == 7

/-- The time of a search in ticks (R131): an unaided dwell sums 2430:02 integrations; a handover dwell is one. -/
def Dev.searchTicks (d : Dev) (sig : Nat) (unaided : Bool) : Nat :=
  let r := searchOf sig unaided
  msTicks (r.ms * r.passes * (if unaided then d.nat 0x243002 else 1))

/-- A time in s reduced to the longest primary code period. -/
def codeMod (t : Rat) : Rat := t - 3 / 2 * ((t * 2 / 3).floor : Rat)

/-- The code time of a channel now, run on at its code rate. -/
def Chan.codeNow (x : Chan) (now : Nat) : Rat :=
  codeMod (x.codeT + ((now - x.codeAt : Nat) : Rat) * 8 / 10000000000 * x.fCode / chipHz x.sig)

/-- The carrier Doppler of a channel in Hz, from beta (R140). -/
def Chan.dopp (x : Chan) : Rat := x.beta / (2 * circle)

/-- Load a channel with a Doppler in Hz and a code time: what its loops start from (R133). -/
def Chan.load (x : Chan) (now : Nat) (dopp codeT : Rat) : Chan :=
  { x with
    alpha := 0, beta := 2 * circle * dopp, gamma := 0, lastI := 0, lastQ := 0, fNco := offsetHz x.sig + dopp
    fCode := chipHz x.sig * (1 + dopp / carrierHz x.sig), codeT := codeMod codeT, codeAt := now, cn0s := [], inds := []
    doppler := max (-32768) (min 32767 (roundRat dopp)) }

/-- A tracked signal of a channel's satellite (R132): one of its own antenna first, then the lowest channel. -/
def Dev.sibling (d : Dev) (c : Nat) (x : Chan) : Option Chan :=
  let l := d.rx.chans.filter (fun (e : Nat × Chan) => e.1 != c && e.2.tracks && e.2.sys == x.sys && e.2.sat == x.sat)
  ((l.find? (fun e => e.2.ant == x.ant)).or l.head?).map (·.2)

/-- The projection of the baseline 2490:05 onto a direction, in s. -/
def Dev.baseTime (d : Dev) (dir : List Rat) : Rat := vdot (vsub (d.antPoint 1) d.bench) dir / cLight

/-- What a tracked signal predicts for a channel of its satellite (R132): the Doppler by the ratio of the carriers, the code time alike, since the
signals of a satellite leave together, and for the other antenna shifted by the baseline projection. -/
def Dev.predictFrom (d : Dev) (x y : Chan) : Chan :=
  let shift := if x.ant = y.ant then 0 else if x.ant = 1 then d.baseTime x.dir else -(d.baseTime x.dir)
  x.load d.clk.now (y.dopp * carrierHz x.sig / carrierHz y.sig) (y.codeNow d.clk.now + shift)

/-- Queue a search for a channel (R131, R132): a handover centred on what a tracked signal of the satellite predicts, else an unaided one. The
bank begins at once where it is idle. -/
def Dev.queueSearch (d : Dev) (c : Nat) : Dev :=
  let x := d.chan c
  let sib := d.sibling c x
  let d := d.setChan c (match sib with
    | some y => d.predictFrom x y
    | none => x.load d.clk.now 0 0)
  ({ d with rx := { d.rx with
    queue := d.rx.queue ++ [(c, sib.isNone)], bankAt := if d.rx.queue = [] then d.clk.now else d.rx.bankAt } }).bankStatus

/-- Take a channel's searches out of the bank's queue; the one behind the front begins where the front goes. -/
def Dev.unqueue (d : Dev) (c : Nat) : Dev :=
  let front := (d.rx.queue.head?).elim false (fun e => e.1 == c)
  ({ d with rx := { d.rx with
    queue := d.rx.queue.filter (fun e => e.1 != c), bankAt := if front then d.clk.now else d.rx.bankAt } }).bankStatus

/-- A channel goes idle (R137). -/
def Dev.chanIdle (d : Dev) (c : Nat) : Dev := (d.unqueue c).setChan c chan0

/-- A channel goes idle and its signal waits 10 s (R137). -/
def Dev.chanFailed (d : Dev) (c : Nat) : Dev :=
  let it := (d.chan c).signal
  ({ d with rx := { d.rx with requeue := d.rx.requeue ++ [(d.clk.now + msTicks 10000, it)] } }).chanIdle c

/-- A channel goes back to SEARCH (R137). Of a signal that no tracked one of its satellite can hand over and that R131 has no unaided search of,
the search ends as one without detection (log 74). -/
def Dev.searchAgain (d : Dev) (c : Nat) : Dev :=
  let d := d.chanTo c 1
  if (d.sibling c (d.chan c)).isSome || hasUnaided (d.chan c).sig then d.queueSearch c else d.chanFailed c

/-- Before in the allocator's order of R135: antenna 0 first, then descending elevation, then ascending code. -/
def chanBefore (a b : Chan) : Bool :=
  decide (a.ant < b.ant) || (a.ant == b.ant && (decide (b.elev < a.elev) || (decide (a.elev = b.elev) && decide (a.sig < b.sig))))

/-- Insert a channel's claim in the allocator's order. -/
def insertChan (x : Chan) : List Chan → List Chan
  | [] => [x]
  | y :: ys => if chanBefore x y then x :: y :: ys else y :: insertChan x ys

/-- What the allocator wants, in its order (R135): every signal of R122 of every satellite above the mask, on both antennas. -/
def Dev.claims (d : Dev) (sky : List SkySat) : List Chan :=
  let one (s : SkySat) (a sig : Nat) : Chan :=
    { chan0 with state := 1, sys := s.sys, sig := sig, sat := s.sat, ant := a, elev := s.elev, dir := s.dir, since := d.clk.now }
  let up := sky.filter (fun s => decide (d.num 0x243001 ≤ s.elev))
  (up.flatMap (fun s => [0, 1].flatMap (fun a => (s.sigs.filter (signalOk s.sys)).map (one s a)))).foldl (fun acc x => insertChan x acc) []

/-- A signal has a channel, or one that waits to be swapped, or waits its 10 s. -/
def Dev.hasSignal (d : Dev) (it : Sig) : Bool :=
  d.rx.chans.any (fun (e : Nat × Chan) => e.2.busy && e.2.signal == it) || d.rx.requeue.any (fun r => r.2 == it)
    || d.rx.swaps.any (fun s => s.chan.state == 4 && s.chan.signal == it)

/-- The busy channel that stands last in the allocator's order. -/
def Dev.lastChan (d : Dev) : Option (Nat × Chan) :=
  (d.rx.chans.filter (fun (e : Nat × Chan) => e.2.busy)).foldl (fun m e => match m with
    | none => some e
    | some w => if chanBefore w.2 e.2 then some e else some w) none

/-- The satellites in view are seen: elevations and directions are kept, and a channel whose satellite stands 2° below the mask goes idle (R135). -/
def Dev.seeSky (d : Dev) (sky : List SkySat) : Dev :=
  let see (x : Chan) : Chan := match sky.find? (fun s => s.sys == x.sys && s.sat == x.sat) with
    | some s => { x with elev := s.elev, dir := s.dir }
    | none => x
  let d : Dev := { d with rx := { d.rx with chans := d.rx.chans.map (fun (e : Nat × Chan) => (e.1, if e.2.busy then see e.2 else e.2)) } }
  let low := d.rx.chans.filter (fun (e : Nat × Chan) => e.2.busy && decide (e.2.elev < d.num 0x243001 - 20))
  low.foldl (fun (d : Dev) e => d.chanIdle e.1) d

/-- The allocator gives the first signal in its order that has no channel an idle active one, or where none is idle the one that stands last in
the order behind it, and queues its search (R135, R137). A signal is wanted where a tracked one of its satellite can hand over or R131 has an
unaided search of it. -/
def channelAssign (sky : List SkySat) (d : Dev) : Dev :=
  d.when (d.up 4) (fun d =>
    let d := d.seeSky sky
    match (d.claims sky).find? (fun x => !d.hasSignal x.signal && ((d.sibling 416 x).isSome || hasUnaided x.sig)) with
    | none => d
    | some x =>
      match (List.range 416).find? (fun c => decide ((d.chan c).state = 0)), d.lastChan with
      | some c, _ => (d.setChan c x).queueSearch c
      | none, some w => if chanBefore x w.2 then ((d.chanIdle w.1).setChan w.1 x).queueSearch w.1 else d
      | none, none => d)

/-- A cell's power exceeds the detection threshold 2430:03, in 0.1 dB above the mean noise cell power (R133). -/
def Dev.detects (d : Dev) (power noise : Nat) : Bool := decide (noise ^ 100 * 10 ^ d.nat 0x243003 < power ^ 100)

/-- The search at the front of the bank's queue completes (R131, R133), its time having passed. `power` is the sum of its strongest cell and
`verify1` and `verify2` those of the two verification dwells on it. Detection is confirmed where the dwell and at least one of the two exceed
the threshold, and the channel enters PULL_IN with the cell's code phase and Doppler; else it goes idle and its signal waits 10 s. Of an unaided
cell the whole code periods of the code time are open: a free number of them. -/
def acqSearchComplete (codeBin dopBin power noise v1 v2 : Nat) (d : Dev) : Dev :=
  match d.rx.queue with
  | [] => d
  | (c, unaided) :: _ =>
    let x := d.chan c
    d.when (d.up 4 && decide (d.rx.bankAt + d.searchTicks x.sig unaided ≤ d.clk.now)) (fun d =>
      let r := searchOf x.sig unaided
      let d := d.unqueue c
      if x.state ≠ 1 then d
      else if d.detects power noise && (d.detects v1 noise || d.detects v2 noise) && decide (codeBin < r.bins ∧ dopBin < r.dopBins) then
        let dopp := x.dopp + ((dopBin : Rat) - ((r.dopBins / 2 : Nat) : Rat)) * r.width
        let chips : Rat := (codeBin : Rat) / r.perChip - (if unaided then 0 else 2)
        let whole : Rat := if unaided then ((d.freeN % (1500 / codeMs x.sig) * codeMs x.sig : Nat) : Rat) / 1000 else x.codeNow d.clk.now
        let d := if unaided then d.used else d
        (d.setChan c (x.load d.clk.now dopp (whole + chips / chipHz x.sig))).chanTo c 2
      else d.chanFailed c)

/-- 10 s after an unsuccessful search its signal may be assigned again (R137). -/
def signalRequeue (d : Dev) : Dev :=
  d.when (d.up 4) (fun d => { d with rx := { d.rx with requeue := d.rx.requeue.filter (fun r => decide (d.clk.now < r.1)) } })

def execChannelAssign (dt : Nat) (sky : List SkySat) (s : State) : Out := onDev s dt (channelAssign sky)
def execAcqSearchComplete (dt : Nat) (codeBin dopBin power noise verify1 verify2 : Nat) (s : State) : Out :=
  onDev s dt (acqSearchComplete codeBin dopBin power noise verify1 verify2)
def execSignalRequeue (dt : Nat) (s : State) : Out := onDev s dt signalRequeue

/-- The discriminators of R138 and of the loop equations: phase, frequency and code. `pilot` selects the pure four-quadrant
form. `spacing` is in 0.01 chip; `early` and `late` are powers. -/
structure Discr where
  ph : Rat
  fr : Rat
  co : Rat
deriving DecidableEq, Repr

/-- Compute the discriminators of an integration of `t` seconds. -/
def discriminators (x : Chan) (t pI pQ early late : Rat) (spacing : Nat) : Discr :=
  let ph := if dataOnly x.sig then (if pI = 0 then 0 else atan2R (if pI < 0 then -pQ else pQ) (if pI < 0 then -pI else pI))
    else atan2R pQ pI
  let cross := x.lastI * pQ - pI * x.lastQ
  let dot := x.lastI * pI + x.lastQ * pQ
  { ph := ph, fr := if t = 0 then 0 else atan2R cross dot / t
    co := if early + late = 0 then 0 else (early - late) / (early + late) * (2 - (spacing : Rat) / 100) / 2 }

/-- The carrier loop of R139 over one integration: alpha, beta, and the frequency term of the phase error in rad/s. -/
def carrierLoop (x : Chan) (e : Discr) (t bp bf : Rat) (order3 fll2 : Bool) : Rat × Rat × Rat :=
  let wp := if order3 then bp * 10000 / 7845 else bp * 100 / 53
  let wf := bf * 100 / 53
  let alpha := x.alpha + t * ((if order3 then wp * wp * wp * e.ph else 0) + (if fll2 then wf * wf * e.fr else 0))
  let beta := x.beta + t * (alpha + (if order3 then 24 / 10 else 1414 / 1000) * wp * wp * e.ph
    + (if fll2 then 1414 / 1000 * wf else 4 * bf) * e.fr)
  (alpha, beta, if order3 then 11 / 10 * wp * e.ph else wp * wp * e.ph * t)

/-- Both loops at the end of an integration (R139, R140): in PULL_IN the PLL terms are zero and the FLL has the pull-in
bandwidth; in PHASE and LOCKED it has the assist bandwidth, 0 removing it. -/
def Dev.loops (d : Dev) (x : Chan) (t pI pQ early late : Rat) : Chan :=
  let e := discriminators x t pI pQ early late (d.loopSet x.sig 8)
  let pull := decide (x.state = 2)
  let bp : Rat := if pull then 0 else (d.loopSet x.sig 2 : Rat) / 10
  let bf : Rat := (d.loopSet x.sig (if pull then 4 else 5) : Rat) / 10
  let r := carrierLoop x e t bp bf (decide (d.loopSet x.sig 1 = 3)) (decide (d.loopSet x.sig 3 = 2))
  let two := decide (d.loopSet x.sig 6 = 2)
  let bc : Rat := (d.loopSet x.sig 7 : Rat) / 100
  let wc := bc * 100 / 53
  let gamma := if two then x.gamma + t * wc * wc * e.co else 0
  let dopp := r.2.1 / (2 * circle)
  { x with
    alpha := r.1, beta := r.2.1, gamma := gamma, lastI := pI, lastQ := pQ
    fNco := offsetHz x.sig + (r.2.1 + r.2.2) / (2 * circle)
    fCode := chipHz x.sig * (1 + dopp / carrierHz x.sig) + gamma + (if two then 1414 / 1000 * wc else 4 * bc) * e.co
    doppler := max (-32768) (min 32767 (roundRat dopp)) }

/-- Coherent time in µs in PHASE and LOCKED (R142, R143): a D2 satellite's B1I or B2I integrates over 2 ms, whatever its class setting. -/
def Dev.coherentUs (d : Dev) (sig : Nat) (d2 : Bool) : Nat :=
  if d2 && (sig == 7 || sig == 10) then 2000 else d.loopSet sig 9 * 1000

/-- The loss threshold of a signal's class in 0.01 dB-Hz (R137). -/
def Dev.lossCn0 (d : Dev) (sig : Nat) : Nat := d.loopSet sig 0x0A * 10

/-- The state of a channel is judged after an integration (R137). The half-cycle ambiguity is resolved on entry to PHASE on a pilot, and on a
data-only signal by the preamble, which `sync` says; leaving PHASE or LOCKED loses it there (R138). -/
def Dev.judgeChan (d : Dev) (c : Nat) (sync : Bool) : Dev :=
  let x := d.chan c
  let now := d.clk.now
  let pilot := !dataOnly x.sig
  let enter (st : Nat) (slip half : Bool) : Dev :=
    (let d := d.chanTo c st; d.setChan c { d.chan c with slip := x.slip || slip, half := half, lockAt := now })
  match x.state with
  | 2 => if ranFor x.pullAt now 100 then enter 3 false pilot else d
  | 3 =>
    if ranFor x.weakAt now 200 then enter 5 false pilot
    else if ranFor x.highAt now 100 ∧ sync then enter 4 false true
    else if sync then d.setChan c { x with half := true }
    else d
  | 4 => if ranFor x.weakAt now 200 then enter 5 true pilot else if ranFor x.lowAt now 40 then enter 3 true pilot else d
  | 5 => if d.lossCn0 x.sig + 300 ≤ x.cn0 ∧ now ≤ x.since + msTicks 2000 then enter 3 false pilot else d
  | _ => d

/-- The squared magnitude of a correlator sum. -/
def power2 (z : Int × Int) : Rat := ((z.1 * z.1 + z.2 * z.2 : Int) : Rat)

/-- The indicators of an integration of `t` seconds: C/N0 averaged over 1 s in 0.01 dB-Hz (R141), the PLL lock indicator averaged over 100 ms
(R137), the multipath metric (R150) and the symbol of the data component (R122). `e` stands in for a C/N0 or a metric that has none: one whose
prompt power does not exceed the noise. -/
def Chan.indicate (x : Chan) (k : Corr) (t : Rat) (now e : Nat) : Chan :=
  let p := power2 k.p
  let n := power2 k.n
  let est : Rat := if 0 < n ∧ n < p ∧ 0 < t then ((logFloor 1000 ((p - n) / (n * t)) : Nat) : Rat) else ((e % 65536 : Nat) : Rat)
  let cn0s := slide x.cn0s now secT est
  let inds := slide x.inds now (msTicks 100) (if p = 0 then 0 else ((k.p.1 * k.p.1 - k.p.2 * k.p.2 : Int) : Rat) / p)
  let mp : Int := if p = 0 then (e % 65536 : Nat) - 32768 else roundRat ((rootR (power2 k.ve) - rootR (power2 k.vl)) / rootR p * 10000)
  let sym := if dataOnly x.sig then k.p.1 else k.d.1
  { x with
    cn0s := cn0s, inds := inds, cn0 := min (meanOf cn0s).floor.toNat 65535, ind := roundRat (meanOf inds * 1000)
    mp := max (-32768) (min 32767 mp), bits := (x.bits ++ [decide (0 ≤ sym)]).drop (x.bits.length + 1 - 64) }

/-- A reserve channel that takes part in the shadow test. -/
def Dev.shadows (d : Dev) (c : Nat) : Bool := (d.rx.shadow).elim false (fun s => s.res == c || s.before.contains c)

/-- A coherent integration of a channel ends (R137 to R141): its loops update, its indicators are taken, its state is judged. In COAST the loops
run on unchanged; a reserve in the shadow test tracks as in LOCKED. A satellite 2° below the mask frees the channel. `us` is the length in
PULL_IN, for which the spec gives no figure. -/
def loopIntegration (c us : Nat) (d2 sync : Bool) (k : Corr) (d : Dev) : Dev :=
  let x := d.chan c
  d.when (d.up 4 && (decide (2 ≤ x.state ∧ x.state ≤ 5) || (x.state == 6 && d.shadows c))) (fun d =>
    if x.state ≠ 6 ∧ x.elev < d.num 0x243001 - 20 then d.chanIdle c
    else
      let n := if x.state = 2 then us else d.coherentUs x.sig d2
      let t : Rat := (n : Rat) / 1000000
      let start := d.clk.now - n * 1250
      let e := discriminators x t k.p.1 k.p.2 (power2 k.e) (power2 k.l) (d.loopSet x.sig 8)
      let fErr := e.fr / (2 * circle)
      let free := d.freeN
      let ran : Chan := { x with codeT := x.codeNow d.clk.now, codeAt := d.clk.now }
      let y := (if x.state = 5 then ran else d.loops ran t k.p.1 k.p.2 (power2 k.e) (power2 k.l)).indicate k t d.clk.now free
      let d := d.used
      let weak := decide (y.cn0 < d.lossCn0 x.sig)
      let y := { y with
        pullAt := runOf (decide (d.lossCn0 x.sig < y.cn0) && decide (-5 < fErr ∧ fErr < 5)) x.pullAt start
        highAt := runOf (decide (850 < y.ind)) x.highAt start
        lowAt := runOf (decide (y.ind < 600)) x.lowAt start
        weakAt := runOf weak x.weakAt start }
      let d := d.setChan c y
      if x.state = 6 then d else d.judgeChan c sync)

/-- 1 s in PULL_IN, or 2 s in COAST, without what R137 asks: back to SEARCH. -/
def Dev.backToSearch (d : Dev) (c from_ ms : Nat) : Dev :=
  let x := d.chan c
  d.when (d.up 4 && decide (x.state = from_) && decide (x.since + msTicks ms ≤ d.clk.now)) (fun d => d.searchAgain c)

/-- The PULL_IN bound of R137. -/
def pullInTimeout (c : Nat) (d : Dev) : Dev := d.backToSearch c 2 1000
/-- The COAST bound of R137. -/
def coastTimeout (c : Nat) (d : Dev) : Dev := d.backToSearch c 5 2000

def execLoopIntegration (dt : Nat) (chan : Fin 416) (us : Nat) (d2 sync : Bool) (k : Corr) (s : State) : Out :=
  onDev s dt (loopIntegration chan.val us d2 sync k)
def execPullInTimeout (dt : Nat) (chan : Fin 416) (s : State) : Out := onDev s dt (pullInTimeout chan.val)
def execCoastTimeout (dt : Nat) (chan : Fin 416) (s : State) : Out := onDev s dt (coastTimeout chan.val)

/-- The shadow test under way, if any, is dropped: its reserves are as before it. -/
def Dev.dropShadow (d : Dev) : Dev :=
  match d.rx.shadow with
  | none => d
  | some s =>
    let d : Dev := { d with rx := { d.rx with shadow := none } }
    (s.res :: s.before).foldl (fun (d : Dev) r => if (d.chan r).state = 6 then d.setChan r { chan0 with state := 6 } else d) d

/-- The receiver restarts its channels (R133, R137): each active one goes idle, the bank's queue empties, and the time to first
fix runs again. A retired channel waits on for its replacement, which will be idle. -/
def Dev.restartChans (d : Dev) : Dev :=
  let d := d.dropShadow
  let chans := d.rx.chans.map (fun (e : Nat × Chan) => (e.1, if e.2.state = 6 ∨ e.2.state = 7 then e.2 else chan0))
  let swaps := d.rx.swaps.map (fun s => ({ s with shadow := false, chan := chan0 } : Swap))
  let d := { d with rx := { d.rx with chans := chans, queue := [], requeue := [], swaps := swaps, startAt := d.clk.now, fixed := false } }
  (d.setN 0x243005 65535).bankStatus

/-- The restart command 2430:04 (R133): 1 cold, 2 warm, 3 hot; its other values change nothing. -/
def receiverRestart (v : DVal) (d : Dev) : Dev × Nat :=
  let d := d.setN 0x243004 v.int
  match v.int.toNat with
  | 1 => (({ d with rx := { d.rx with almanac := false, eph := [], coarse := false } }).restartChans, 0)
  | 2 => (({ d with rx := { d.rx with eph := [] } }).restartChans, 0)
  | 3 => (d.restartChans, 0)
  | _ => (d, 0)

def execRestartCold (dt : Nat) (q : Req) (s : State) : Out := onDev s dt (fun d => d.command q 0x2430 4 [1] receiverRestart)
def execRestartWarm (dt : Nat) (q : Req) (s : State) : Out := onDev s dt (fun d => d.command q 0x2430 4 [2] receiverRestart)
def execRestartHot (dt : Nat) (q : Req) (s : State) : Out := onDev s dt (fun d => d.command q 0x2430 4 [3] receiverRestart)

/-- Mark a channel retired in 2460:04. -/
def Dev.markRetired (d : Dev) (c : Nat) : Dev :=
  let b := d.oct 0x246004
  d.setO 0x246004 (b.mapIdx (fun i x => if i = c / 8 then x ||| BitVec.ofNat 8 (2 ^ (c % 8)) else x))

/-- A reserve channel that is free to be brought in: one that does not shadow, where there is one. -/
def Dev.freeReserve (d : Dev) : Option Nat :=
  let l := ((List.range 32).map (· + 384)).filter (fun c => decide ((d.chan c).state = 6) && !d.rx.swaps.any (fun s => s.new == c))
  (l.find? (fun c => !d.shadows c)).or l.head?

/-- An active channel is retired (R155, R156, R547): its signal passes to a reserve at the next epoch boundary, or loses its place. `shadow` is
the reserve that shadowed it. -/
def Dev.retireActive (d : Dev) (c cause : Nat) (shadow : Option Nat) : Dev :=
  let x := d.chan c
  let repl := shadow.or d.freeReserve
  let d := if shadow.isNone && repl.elim false d.shadows then d.dropShadow else d
  let d := ((d.markRetired c).retire 1 c cause 4 repl).unqueue c
  let d := d.setChan c { chan0 with state := 7, since := d.clk.now }
  match repl with
  | some r =>
    let d := d.setN 0x246003 (d.nat 0x246003 - 1 : Nat)
    { d with rx := { d.rx with
      swaps := d.rx.swaps ++ [{ old := c, new := r, shadow := shadow.isSome, chan := x }], joined := d.rx.joined ++ [r] } }
  | none =>
    let d := (d.raise 122 0).setN 0x246002 (d.nat 0x246002 - 1 : Nat)
    if x.state = 0 then d
    else match d.lastChan with
      | none => d
      | some w => if chanBefore w.2 x then d else d.chanIdle w.1

/-- Retire a channel (R153, R154): a reserve channel is retired as unusable, and its count falls (R549). -/
def Dev.retireChan (d : Dev) (c cause : Nat) (shadow : Option Nat) : Dev :=
  match (d.chan c).state with
  | 7 => d
  | 6 =>
    if d.rx.swaps.any (fun s => s.new == c) then d
    else
      let d := ((d.markRetired c).setChan c { chan0 with state := 7, since := d.clk.now }).retire 1 c cause 4 none
      let d := (d.setN 0x246003 (d.nat 0x246003 - 1 : Nat)).setN 0x484001 (d.nat 0x484001 - 1 : Nat)
      if cause = 4 then d.raise 123 c else d
  | _ => d.retireActive c cause shadow

/-- A swap that waits is made at an epoch boundary (R155): a shadow goes on as the signal's channel with its own phase and the old lock time;
after an error a LOCKED channel's reserve enters PHASE from its last propagated state, with SLIP; in another state the reserve is idle and the
signal is assigned anew. -/
def Dev.makeSwap (d : Dev) (s : Swap) : Dev :=
  let x := s.chan
  let y : Chan :=
    if s.shadow then { d.chan s.new with state := 4, since := x.since, lockAt := x.lockAt, half := x.half, slip := x.slip, swapped := true }
    else if x.state = 4 then
      { x with state := 3, since := d.clk.now, swapped := true, slip := true, half := !dataOnly x.sig, highAt := none, lowAt := none
               weakAt := none, pullAt := none, lockAt := d.clk.now }
    else chan0
  (d.setChan s.new y).raiseM 121 s.old 4

/-- Every swap that waits. -/
def Dev.makeSwaps (d : Dev) : Dev :=
  let l := d.rx.swaps
  let d := { d with rx := { d.rx with swaps := [] } }
  l.foldl Dev.makeSwap d

/-- A channel's correlator memory reports an uncorrectable error (R154). -/
def channelRetire (c : Nat) (d : Dev) : Dev := d.when (d.up 4) (fun d => d.retireChan c 1 none)

/-- A shadow test begins where none runs (R153): on the next active channel in LOCKED in ascending number, with a reserve loaded with its state. -/
def Dev.beginShadow (d : Dev) : Dev :=
  let l := (d.rx.chans.filter (fun (e : Nat × Chan) => e.2.state == 4)).map (·.1)
  match d.rx.shadow, (l.find? (fun c => decide (d.rx.shadowNext ≤ c))).or l.head?, d.freeReserve with
  | none, some c, some r =>
    let t : Shadow := { chan := c, res := r, at_ := d.clk.now, before := [], bad := [false] }
    let d := d.setChan r { d.chan c with state := 6 }
    { d with rx := { d.rx with shadow := some t, shadowNext := c + 1 } }
  | _, _, _ => d

/-- What the reserve under way and another channel of the test give at an epoch disagrees (R153): carrier phases by more than 0.02 cycle, or code
phases by more than 0.01 chip. `m` gives the pseudorange in m and the carrier in cycles of a channel. -/
def disagree (sig : Nat) (a b : Option (Rat × Rat)) : Bool :=
  match a, b with
  | some a, some b =>
    let dc := a.2 - b.2
    let dp := (a.1 - b.1) / cLight * chipHz sig
    decide (1 / 50 < dc ∨ dc < -1 / 50) || decide (1 / 100 < dp ∨ dp < -1 / 100)
  | _, _ => false

/-- The shadow test sees an epoch (R153). Where its channel has left LOCKED the test is dropped. -/
def Dev.seeShadow (d : Dev) (m : Nat → Option (Rat × Rat)) : Dev :=
  match d.rx.shadow with
  | none => d
  | some t =>
    if (d.chan t.chan).state ≠ 4 then d.dropShadow
    else
      let sig := (d.chan t.chan).sig
      let bad := ((t.chan :: t.before).zip t.bad).map (fun x => x.2 || disagree sig (m x.1) (m t.res))
      { d with rx := { d.rx with shadow := some { t with bad := bad } } }

/-- A shadow test of 10 s ends (R153). Where the reserve agrees with a channel of the test, whoever disagrees with it is retired, but for the first
test, whose disagreement leads to a second reserve. One that agrees with none leads to the next, and the third ends the test with a log entry. -/
def shadowTestEnd (d : Dev) : Dev :=
  match d.rx.shadow with
  | none => d
  | some t =>
    d.when (d.up 4 && decide ((d.chan t.chan).state = 4) && decide (t.at_ + 10 * secT ≤ d.clk.now)) (fun d =>
      let parties := (t.chan :: t.before).zip t.bad
      if parties.any (fun x => !x.2) then
        let out := (parties.filter (fun x => x.2)).map (·.1)
        let d := out.foldl (fun (d : Dev) c => d.retireChan c 4 (if c = t.chan then some t.res else none)) d
        if out.contains t.chan then
          let d : Dev := { d with rx := { d.rx with shadow := some { t with res := (t.before.head?).getD t.res, before := t.before.drop 1 } } }
          let keep := d.chan t.res
          d.dropShadow.setChan t.res keep
        else d.dropShadow
      else if t.before.length = 2 then (d.dropShadow).offer 516 2 4 (4 * 256 + 4) (4 * 256 + 4) t.chan
      else
        match d.freeReserve with
        | some r =>
          if d.shadows r then d.dropShadow
          else
            let n : Shadow := { chan := t.chan, res := r, at_ := d.clk.now, before := t.before ++ [t.res], bad := (false :: t.bad).map (fun _ => false) }
            let d := d.setChan r { d.chan t.chan with state := 6 }
            { d with rx := { d.rx with shadow := some n } }
        | none => d.dropShadow)

def execChannelRetire (dt : Nat) (chan : Fin 416) (s : State) : Out := onDev s dt (channelRetire chan.val)
def execShadowTestEnd (dt : Nat) (s : State) : Out := onDev s dt shadowTestEnd

/-- The RF island starts (R134, R154): channels anew but for the retired ones, feeds and notches by their settings. Reserves that have been
brought in stay active, and a survey under way goes on. -/
def Dev.startReceiver (d : Dev) : Dev :=
  let b := d.oct 0x246004
  let retired (c : Nat) : Bool := ((b[c / 8]?).getD 0).getLsbD (c % 8)
  let chans : Tab Chan := ((List.range 416).filter retired).map (fun c => (c, { chan0 with state := 7 }))
  let r := d.rx
  let fresh : Receiver := { receiver0 with
    chans := chans, almanac := r.almanac, eph := r.eph, coarse := r.coarse, startAt := d.clk.now, station := r.station, dropTimes := r.dropTimes }
  let kept : Receiver := { fresh with
    joined := r.joined, surveyN := r.surveyN, surveySum := r.surveySum, surveySq := r.surveySq, surveyAt := r.surveyAt, hour := r.hour
    far := r.far }
  let d := { d with rx := kept }
  let d := (List.range 2).foldl Dev.feedEnable ((d.setN 0x243005 65535).setN 0x243006 0)
  let d := (List.range 24).foldl (fun (d : Dev) i => (d.setN (bandKey (i / 4) (5 + i % 4)) 0).notchMode (i / 4) (i % 4)) d
  ((d.setN 0x248101 0).setN 0x248103 0).setN 0x248104 0

/-- The channel table 2460:01 (R144). -/
def Dev.chanTable (d : Dev) : List Byte :=
  (List.range 416).flatMap (fun c =>
    let x := d.chan c
    let lock := if x.state = 4 then min ((d.clk.now - x.lockAt) / 1250000) 0xFFFFFFFF else 0
    leBytes 2 (c + x.ant * 32768) ++ leBytes 1 (x.sig + x.sys * 16) ++ leBytes 1 x.sat ++ leBytes 1 x.state ++ [0]
      ++ leBytes 2 (ofSigned 16 x.doppler) ++ leBytes 2 (ofSigned 16 x.ind) ++ leBytes 2 x.cn0 ++ leBytes 4 lock)

end Sys2Proof.Machine
end

