-- ==== Sys2Proof/Machine/Measure.lean ====
section
/-!
DEFINITION. What the receiver gives: measurement epochs and base records (R145 to R152), the Benchmark and the self-survey
(R157 to R162), the time solution with its consistency checks (R163 to R168), and RTCM output (R169 to R175).
-/
namespace Sys2Proof.Machine

/-- The period of the measurement rate 2470:01 in ns (R151). -/
def measPeriod (rate : Nat) : Nat :=
  match rate with
  | 0 => 1000000000 | 1 => 500000000 | 2 => 200000000 | 3 => 100000000 | 4 => 50000000 | 5 => 20000000 | _ => 10000000

/-- The whole multiple of a period nearest to fleet time: the nominal instant of an epoch (R145). -/
def Dev.nominal (d : Dev) (period : Nat) : Nat := (d.fleetNs + period / 2) / period * period

/-- The clock group of a system: 0 GPS and QZSS, 1 Galileo, 2 BeiDou (R163, 2481:03). -/
def groupOf (sys : Nat) : Nat := if sys = 3 then 0 else sys

/-- An exclusion applies to a signal (R164). -/
def Excl.hits (x : Excl) (sys sig sat : Nat) : Bool :=
  if x.scope = 0 then decide (x.what = sys * 4096 + sig * 256 + sat)
  else if x.scope = 1 then decide (x.what % 256 = sig)
  else decide (x.what % 256 = groupOf sys)

/-- A signal is excluded (R166). -/
def Dev.excluded (d : Dev) (sys sig sat : Nat) : Bool := d.rx.excl.any (fun x => x.hits sys sig sat)

/-- The delay in s between the antenna reference point and the correlators of a signal of band `b` on antenna `a` (R148): the cable delay 2210:0A
or 2210:0B and the factory-calibrated group delay of the front end. -/
def Dev.inputDelay (d : Dev) (a b : Nat) : Rat := (d.num (0x22100A + a) : Rat) / 10000000000 + Config.frontEnd (3 * a + b)

/-- What a channel latches, at the epoch instant and referred to the antenna reference point (R145, R148): moved from the sample by the channel's
code and carrier rates, less the delays between. The carrier phase falls where the Doppler is positive, as the pseudorange does. -/
def Dev.latchChan (d : Dev) (x : Chan) (m : ChanSample) : Rat × Rat :=
  let t : Rat := -(m.offPs : Rat) / 1000000000000
  let del := d.inputDelay x.ant (bandOf x.sig)
  (m.pr + cLight * t * (1 - x.fCode / chipHz x.sig) - cLight * del, m.carrier - x.dopp * t - carrierHz x.sig * del)

/-- The pseudorange in m and carrier in cycles of a channel at an epoch (R145): from the sample latched, or where none is given, from its last
measurement moved on with its rates. -/
def Dev.measured (d : Dev) (l : List ChanSample) (c : Nat) : Option (Rat × Rat) :=
  let x := d.chan c
  match l.find? (fun m => m.chan == c), x.held with
  | some m, _ => some (d.latchChan x m)
  | none, some (t, pr, car) =>
    let dt : Rat := ((d.clk.now - t : Nat) : Rat) * 8 / 10000000000
    some (pr + cLight * dt * (1 - x.fCode / chipHz x.sig), car - x.dopp * dt)
  | none, none => none

/-- A notch is engaged within a signal's main lobe (R150). -/
def Dev.lobeNotched (d : Dev) (x : Chan) : Bool :=
  let p := 3 * x.ant + bandOf x.sig
  (List.range 4).any (fun n => decide (d.nat (bandKey p (5 + n)) ≠ 0) && decide ((d.num (bandKey p (1 + n)) - offsetHz x.sig).natAbs ≤ lobeHz x.sig))

/-- More than 5 % of a band's samples were blanked in the epoch interval (R150). -/
def Dev.bandBlanked (d : Dev) (x : Chan) : Bool :=
  let b := d.band (3 * x.ant + bandOf x.sig)
  decide (b.all < 20 * b.bad)

/-- One signal entry at an epoch (R150), from what channel `c` has measured; flags are bits [41:32] from bit 0. -/
def Dev.measEntry (d : Dev) (c : Nat) (v : Rat × Rat) (unhealthy : Bool) : MeasEntry :=
  let x := d.chan c
  let locked := decide (x.state = 4)
  let b (c : Bool) (n : Nat) : Nat := if c then 2 ^ n else 0
  { chan := c, sys := x.sys, sig := x.sig, sat := x.sat, ant := x.ant, pr := (roundRat (v.1 * 4096)).toNat % 2 ^ 40
    carrier := if locked then roundRat (v.2 * 65536) else 0, doppler := roundRat (x.dopp * 1024), cn0 := x.cn0, mp := x.mp
    lockMs := if locked then min ((d.clk.now - x.lockAt) / 1250000) 0xFFFFFFFF else 0
    flags := 1 + b locked 1 + b x.half 2 + b x.slip 3 + b (d.excluded x.sys x.sig x.sat) 4 + b (d.lobeNotched x) 5 + b (d.bandBlanked x) 6
      + b (dataOnly x.sig) 7 + b x.swapped 8 + b unhealthy 9 }

/-- Flags [55:48] of a record's header: DROPPED_BEFORE, FALLBACK_EXCL, SUSPECT and the antennas (R149). -/
def Dev.measFlags (d : Dev) : Nat :=
  let ant (a : Nat) : Bool := d.nat (feedKey 3 a) == 1 || d.nat (feedKey 3 a) == 2
  (if d.rx.dropped = some (d.nat 0x247001) then 8 else 0) + (if d.rx.excl = [] then 0 else 16) + (if d.flag 0x248101 then 32 else 0)
    + (if ant 0 then 64 else 0) + (if ant 1 then 128 else 0)

/-- What each band-antenna pair gives at an epoch is taken, with the events of the jamming indicator (R126 to R130). -/
def Dev.seeBands (d : Dev) (bands : List BandSample) : Dev :=
  (bands.zip (List.range 6)).foldl (fun (d : Dev) b => ((d.sampleBand b.2 b.1).judgeRise b.2).judgeFall b.2) d

/-- An epoch's marks are used up: SLIP and SWAPPED of the channels listed, and the sample counts of the bands. -/
def Dev.epochDone (d : Dev) (entries : List MeasEntry) (v : Nat → Option (Rat × Rat)) : Dev :=
  let shown := entries.map (·.chan)
  let chans := d.rx.chans.map (fun (e : Nat × Chan) => (e.1, if shown.contains e.1 then
    { e.2 with slip := false, swapped := false, held := (v e.1).map (fun x => (d.clk.now, x.1, x.2)) } else e.2))
  let bands := d.rx.bands.map (fun (e : Nat × Band) => (e.1, ({ e.2 with bad := 0, all := 0 } : Band)))
  { d with rx := { d.rx with chans := chans, bands := bands } }

/-- A measurement epoch (R145, R147): swaps are made at the boundary, then every channel with a valid pseudorange is latched, and the shadow test
sees the epoch (R153). A channel whose phase no sample has ever given has a free one. -/
def measurementEpoch (chans : List ChanSample) (bands : List BandSample) (d : Dev) : Dev :=
  let at_ := d.nominal (measPeriod (d.nat 0x247001))
  d.when (d.up 4 && decide (d.timeState ≠ 0) && decide (d.lastOf .epoch ≠ some at_)) (fun d =>
    let d := (d.mark .epoch at_).makeSwaps.seeBands bands
    let free : Rat × Rat := ((d.freeN : Rat), (d.freeI : Rat))
    let v (c : Nat) : Option (Rat × Rat) := d.measured chans c
    let sick (c : Nat) : Bool := (chans.find? (fun m => m.chan == c)).elim false (·.unhealthy)
    let seq := (d.nat 0x247003 + 1) % 65536
    let rate := d.nat 0x247001
    let entries := (List.range 416).filterMap (fun c =>
      if (d.chan c).tracks then some (d.measEntry c ((v c).getD free) (sick c)) else none)
    let m : Meas :=
      { seq := seq, rate := rate, timeSt := d.timeState, flags := d.measFlags, time := at_, tick := d.clk.tick
        steps := d.nat 0x220006, at_ := d.clk.now, entries := entries }
    let d := ((d.seeShadow v).epochDone entries v).used
    let d := { d with rx := { d.rx with latch := some m, dropped := none } }
    d.beginShadow.setN 0x247003 (seq : Nat))

/-- The bytes of a record: its header (R149) and its signal entries (R150). -/
def Meas.bytes (m : Meas) : List Byte :=
  leBytes 2 0x4D42 ++ leBytes 2 m.seq ++ leBytes 1 m.rate ++ leBytes 1 m.timeSt ++ leBytes 1 m.flags ++ [0]
    ++ leBytes 2 m.entries.length ++ time80Bytes m.time ++ leBytes 8 m.tick ++ leBytes 4 m.steps
    ++ m.entries.flatMap (fun e =>
      leBytes 1 e.sat ++ leBytes 3 (e.sys + e.sig * 16 + e.ant * 256 + e.chan * 512) ++ leBytes 2 e.flags ++ leBytes 2 (ofSigned 16 e.mp)
        ++ leBytes 2 e.cn0 ++ leBytes 4 e.lockMs ++ leBytes 4 (ofSigned 32 e.doppler) ++ leBytes 6 (ofSigned 48 e.carrier)
        ++ leBytes 5 e.pr ++ zeros 3)

/-- The Benchmark entries (R157): a change to any of them is also a change of the site grid's origin. -/
def benchKeys : List Key := (List.range 10).map (fun i => 0x249001 + i) ++ (List.range 6).map (fun i => 0x249101 + i)

/-- The Benchmark is committed (R160). -/
def Dev.benchmark (d : Dev) : Bool := decide (d.nat 0x249003 ≠ 0)

/-- The Benchmark counts as surveyed (R159). -/
def Dev.surveyed (d : Dev) : Bool := decide (d.nat 0x249003 = 2) || (decide (d.nat 0x249003 = 1) && decide (d.nat 0x249004 ≤ 300))

/-- SLIP in a base record concerns the ambiguities of its signals in every slot, at the first epoch whose base record is this one or a later one
(R192). -/
def Dev.noteSlips (d : Dev) (tag : Int) (entries : List MeasEntry) : Dev :=
  let l := entries.filter (fun e => e.ant == 0 && e.flags.testBit 3)
  let mark (s : Sd) : Sd := if l.any (fun e => e.sys == s.sys && e.sat == s.sat && e.sig == s.sig) then { s with cuts := s.cuts ++ [tag] } else s
  let slot (x : Slot) : Slot := { x with filt := x.filt.map (fun f => ({ f with sds := f.sds.map mark } : Filt)) }
  if l = [] then d else { d with slots := d.slots.map (fun (e : Nat × Slot) => (e.1, slot e.2)) }

/-- A base record reaches the position engine (R147, R160, R190, R191): it keeps those of the last 2 s with their tags. -/
def Dev.takeBase (d : Dev) (m : Meas) : Dev :=
  if m.timeSt < 2 ∨ !d.benchmark then d
  else if d.up 5 then
    let e := d.eng_
    let r : BaseRec :=
      { num := e.baseNum, time := m.time, tag := (m.time : Int) - 19000000000 - e.gnssC, timeSt := m.timeSt, suspect := m.flags.testBit 5
        excluded := m.entries.any (fun x => x.flags.testBit 4), at_ := d.clk.now, entries := m.entries }
    let late := match e.baseAt with
      | some t => decide (t + 2 * secT ≤ d.clk.now)
      | none => true
    let kept := (r :: e.bases).filter (fun b => decide (d.clk.now < b.at_ + 2 * secT))
    let d := { d with eng_ := { e with
      bases := kept, baseNum := e.baseNum + 1, baseAt := some d.clk.now, runAt := if late then some d.clk.now else e.runAt } }
    (d.noteSlips r.tag m.entries).setN 0x280109 (kept.length : Nat)
  else d.notReady 5

/-- The base record of the epoch latched is complete (R146, R147): within 2 ms of its instant it is written to 2470:02 and
delivered. -/
def baseRecordComplete (d : Dev) : Dev :=
  match d.rx.latch with
  | none => d
  | some m =>
    d.when (d.up 4 && decide (d.clk.now ≤ m.at_ + msTicks 2)) (fun d =>
      let d := ({ d with rx := { d.rx with latch := none, last := some m } }).setO 0x247002 m.bytes
      d.takeBase m)

/-- An epoch not complete within 2 ms is dropped whole (R146). -/
def epochDrop (d : Dev) : Dev :=
  d.when (d.up 4 && d.rx.latch.isSome) (fun d =>
    let times := (d.clk.now :: d.rx.dropTimes).filter (fun t => decide (d.clk.now < t + secT))
    let d := { d with rx := { d.rx with latch := none, dropped := d.rx.latch.map Meas.rate, dropTimes := times } }
    (d.inc32 0x247004).raise 129 times.length)

def execMeasurementEpoch (dt : Nat) (chans : List ChanSample) (bands : List BandSample) (s : State) : Out :=
  onDev s dt (measurementEpoch chans bands)
def execBaseRecordComplete (dt : Nat) (s : State) : Out := onDev s dt baseRecordComplete
def execEpochDrop (dt : Nat) (s : State) : Out := onDev s dt epochDrop

/-- Whole seconds of the survey so far. -/
def Dev.surveySecs (d : Dev) : Nat := (d.clk.now - d.rx.surveyAt) / secT

/-- The survey command 2492:01 (R161): 1 starts, discarding any earlier result; 2 stops. Other values change nothing. -/
def surveyCommand (v : DVal) (d : Dev) : Dev × Nat :=
  let d := d.setN 0x249201 v.int
  match v.int.toNat with
  | 1 =>
    let d := { d with rx := { d.rx with surveyAt := d.clk.now, surveyN := 0, surveySum := [0, 0, 0], surveySq := [0, 0, 0] } }
    ((((d.setN 0x249204 1).setO 0x249205 (zeros 24)).setN 0x249206 0).setN 0x249207 0, 0)
  | 2 => if d.nat 0x249204 = 1 then (((d.setN 0x249204 3).setN 0x249207 (d.surveySecs : Nat)).raise 125 0, 0) else (d, 0)
  | _ => (d, 0)

def execSurveyStart (dt : Nat) (q : Req) (s : State) : Out := onDev s dt (fun d => d.command q 0x2492 1 [1] surveyCommand)
def execSurveyStop (dt : Nat) (q : Req) (s : State) : Out := onDev s dt (fun d => d.command q 0x2492 1 [2] surveyCommand)

/-- The mean of the survey's positions in m, and the three-dimensional standard deviation of that mean in mm, rounded up (R161); none with fewer
than two positions. -/
def Dev.surveyMean (d : Dev) : Option (List Rat × Nat) :=
  let n : Rat := d.rx.surveyN
  if d.rx.surveyN < 2 then none
  else
    let mean := d.rx.surveySum.map (· / n)
    let var := vsub (d.rx.surveySq.map (· / n)) (mean.map (fun m => m * m))
    some (mean, (rootR (max 0 (var.sum / (n - 1))) * 1000).ceil.toNat)

/-- The survey meets its minimum duration and its target (R161). -/
def surveyComplete (d : Dev) : Dev :=
  match d.surveyMean with
  | none => d
  | some (mean, acc) =>
    d.when (d.up 4 && decide (d.nat 0x249204 = 1) && decide (d.nat 0x249202 ≤ d.surveySecs) && decide (acc ≤ d.nat 0x249203)) (fun d =>
      let b := mean.flatMap (fun x => leBytes 8 (ofSigned 64 (roundRat (x * 10000))))
      ((((d.setN 0x249204 2).setO 0x249205 b).setN 0x249206 (acc : Nat)).setN 0x249207 (d.surveySecs : Nat)).raise 124 0)

/-- Ten times the minimum duration has passed without the target (R161). -/
def surveyTimeout (d : Dev) : Dev :=
  d.when (d.up 4 && decide (d.nat 0x249204 = 1) && decide (10 * d.nat 0x249202 ≤ d.surveySecs)) (fun d =>
    ((d.setN 0x249204 3).setN 0x249207 (d.surveySecs : Nat)).raise 125 0)

def execSurveyComplete (dt : Nat) (s : State) : Out := onDev s dt surveyComplete
def execSurveyTimeout (dt : Nat) (s : State) : Out := onDev s dt surveyTimeout

/-- The distance in mm of the mean of the last hour's antenna 0 positions from the Benchmark (R162); none without a position. -/
def Dev.hourMm (d : Dev) : Option Nat :=
  let l := (d.rx.hour.filter (fun e => decide (d.clk.now < e.1 + 3600 * secT))).map (·.2)
  if l = [] then none
  else
    let sum := l.foldl vadd [0, 0, 0]
    some (roundRat (norm3 (vsub (sum.map (· / l.length)) d.bench) * 1000)).toNat

/-- The one-hour mean is compared with the Benchmark (R162): 126 beyond 10 m, again only after it has fallen below 8 m. -/
def benchmarkMeanCheck (d : Dev) : Dev :=
  match d.hourMm with
  | none => d
  | some mm =>
    d.when (d.up 4 && d.benchmark) (fun d =>
      if 10000 < mm ∧ !d.rx.far then ({ d with rx := { d.rx with far := true } }).raiseM 126 (min (mm / 1000) 65535) 4 mm
      else if mm < 8000 ∧ d.rx.far then { d with rx := { d.rx with far := false } }
      else d)

def execBenchmarkMeanCheck (dt : Nat) (s : State) : Out := onDev s dt benchmarkMeanCheck

/-- A signal of an antenna as the time solution and the checks see it (R163, R164): its entry, its elevation in 0.1°, and the pseudorange in m
corrected by the satellite's clock, the troposphere and the broadcast ionosphere. `unit` points to the satellite. -/
structure SolSig where
  ent   : MeasEntry
  pos   : SkyPos
  one   : Rat
  unit  : List Rat
deriving DecidableEq, Repr

/-- The number of a signal in events 113 and 114. -/
def SolSig.what (x : SolSig) : Nat := x.ent.sys * 4096 + x.ent.sig * 256 + x.ent.sat

/-- The broadcast ionosphere delay on a signal: the L1 figure scaled by the square of the frequency. -/
def ionoOn (sig : Nat) (l1 : Rat) : Rat := l1 * (1575420000 * 1575420000) / ((carrierHz sig : Rat) * carrierHz sig)

/-- The signals of an antenna in a record whose satellites' positions are known, seen from a point: the pseudoranges less the distance of the
phase centre of their band (R159, R163). -/
def Dev.solSigs (d : Dev) (m : Meas) (t : TimeSol) (ant : Nat) (point : List Rat) : List SolSig :=
  let centre := [0, 1, 2].map (fun b => d.phaseCentre (3 * ant + b) point)
  (m.entries.filter (fun e => e.ant == ant)).filterMap (fun e =>
    (t.sky.find? (fun p => p.sys == e.sys && p.sat == e.sat)).map (fun p =>
      let v := vsub [p.x, p.y, p.z] ((centre[bandOf e.sig]?).getD point)
      let rho := norm3 v
      let code := (e.pr : Rat) / 4096 + p.clk - Config.troposphere p.elev
      { ent := e, pos := p, one := sharp (code - ionoOn e.sig p.iono - rho), unit := v.map (fun x => if rho = 0 then 0 else sharp (x / rho)) }))

/-- The partner of a signal in the ionosphere-free combination (R163): the signal of its satellite whose carrier lies farthest from its own, the
lower code where two do. -/
def partner (l : List SolSig) (x : SolSig) : Option SolSig :=
  let far (y : SolSig) : Nat := ((carrierHz y.ent.sig : Int) - carrierHz x.ent.sig).natAbs
  (l.filter (fun y => y.ent.sys == x.ent.sys && y.ent.sat == x.ent.sat && decide (far y ≠ 0))).foldl (fun m y => match m with
    | none => some y
    | some z => if far z < far y then some y else some z) none

/-- The corrected pseudorange that a signal gives to the solution, in m: ionosphere-free where another frequency of its satellite is tracked, else
with the broadcast ionosphere (R163), and brought to GPS time by its group's broadcast offset. -/
def solValue (l : List SolSig) (bring : List Rat) (x : SolSig) : Rat :=
  let plain (y : SolSig) : Rat := y.one + ionoOn y.ent.sig y.pos.iono
  let v := match partner l x with
    | none => x.one
    | some y =>
      let a : Rat := (carrierHz x.ent.sig : Rat) * carrierHz x.ent.sig
      let b : Rat := (carrierHz y.ent.sig : Rat) * carrierHz y.ent.sig
      (a * plain x - b * plain y) / (a - b)
  sharp (v - vget bring (groupOf x.ent.sys))

/-- The weight of a signal in the solution: positive, from its C/N0 and elevation; the spec gives no rule for it. -/
def solWeight (x : SolSig) : Rat := ((1 + Config.weight x.ent.cn0 x.pos.elev : Nat) : Rat) / 1000000

/-- The weighted mean of some signals' values: the least-squares clock offset in m with the position held; none of no signal. -/
def clockOf (l : List (Rat × Rat)) : Option Rat :=
  let w := (l.map (·.2)).sum
  if w = 0 then none else some (sharp ((l.map (fun x => x.1 * x.2)).sum / w))

/-- The clock offsets in m of the three groups, in the bit order of 2481:03. -/
def groupClocks (l : List SolSig) (bring : List Rat) : List (Option Rat) :=
  [0, 1, 2].map (fun g => clockOf ((l.filter (fun x => groupOf x.ent.sys == g)).map (fun x => (solValue l bring x, solWeight x))))

/-- The squared normalised residuals of the solution's signals against their group's clock (R164, check 5). -/
def residuals (l : List SolSig) (bring : List Rat) : List (SolSig × Rat) :=
  let clocks := groupClocks l bring
  l.map (fun x =>
    let r := solValue l bring x - ((clocks[groupOf x.ent.sys]?).getD none).getD 0
    (x, sharp (r * r * solWeight x)))

/-- The test of check 5 passes at false-alarm probability 10^-n: `k` unknowns are estimated. -/
def chiPasses (n k : Nat) (l : List (SolSig × Rat)) : Bool :=
  l.length ≤ k || decide (1 ≤ chiTail (l.length - k) ((l.map (·.2)).sum) * (10 ^ n : Nat))

/-- Satellites among some signals. -/
def satsOf (l : List SolSig) : List (Nat × Nat) := (l.map (fun x => (x.ent.sys, x.ent.sat))).eraseDups

/-- Check 5 (R164): the signal with the largest normalised residual is taken out and the test repeated, `most` times at the most, while 5
satellites remain: the signals left, those taken out, and whether it passes at last. -/
def check5 (n : Nat) (bring : List Rat) : Nat → List SolSig → List SolSig → List SolSig × List SolSig × Bool
  | most, l, out =>
    let r := residuals l bring
    let k := ((l.map (fun x => groupOf x.ent.sys)).eraseDups).length
    if chiPasses n k r then (l, out, true)
    else match most, r with
      | most + 1, a :: as =>
        let w := as.foldl (fun m x => if m.2 < x.2 then x else m) a
        let left := l.filter (fun x => x.ent.chan != w.1.ent.chan)
        if (satsOf left).length < 5 then (l, out, false) else check5 n bring most left (out ++ [w.1])
      | _, _ => (l, out, false)
termination_by structural most => most

/-- Gauss-Newton steps for an antenna's position with a clock for each group, from ionosphere-free codes weighted by elevation (R160, R161): the
position in m. `sigs` gives the signals seen from a point. -/
def positionSteps (sigs : List Rat → List SolSig) (bring : List Rat) : Nat → List Rat → Option (List Rat)
  | 0, p => some p
  | k + 1, p =>
    let l := sigs p
    let dual := l.filter (fun x => (partner l x).isSome)
    let h := dual.map (fun x => (x.unit.map (fun u => -u)) ++ [0, 1, 2].map (fun g => if groupOf x.ent.sys = g then (1 : Rat) else 0))
    let w := dual.map (fun x => sinEl x.pos.elev * sinEl x.pos.elev)
    let hw : Mat := (h.zip w).map (fun r => r.1.map (fun a => a * r.2))
    -- a group without a signal has a clock of 0
    let ata := matOf 6 6 (fun i j => sharp (((h.zip hw).map (fun r => vget r.1 i * vget r.2 j)).sum)
      + (if i = j ∧ 3 ≤ i ∧ !dual.any (fun x => groupOf x.ent.sys + 3 == i) then 1 else 0))
    let aty := vecOf 6 (fun i => sharp (((hw.zip (dual.map (solValue l bring))).map (fun r => vget r.1 i * r.2)).sum))
    (minv ata).bind (fun q => positionSteps sigs bring k ((vadd p ((mvec q aty).take 3)).map sharp))

/-- A failure of a check at an update: scope, check, what. -/
abbrev Failure := Nat × Nat × Nat

/-- The signal codes of R122. -/
def codes : List Nat := List.range 11

/-- A fraction of a cycle in the range −0.5 to 0.5. -/
def fracOf (x : Rat) : Rat := x - ((x + 1 / 2).floor : Rat)

/-- Insert into a rising list. -/
def insertR (x : Rat) : List Rat → List Rat
  | [] => [x]
  | y :: ys => if x ≤ y then x :: y :: ys else y :: insertR x ys

/-- A list in rising order. -/
def rising (l : List Rat) : List Rat := l.foldl (fun acc x => insertR x acc) []

/-- The common term that minimises the sum of squared residuals (R164): fractions lie on a circle, so the least mean is sought for each place at
which the circle may be cut. -/
def commonTerm (l : List Rat) : Rat :=
  let s := rising (l.map (fun x => x - (x.floor : Rat)))
  let n : Rat := s.length
  let cost (c : Rat) : Rat := (s.map (fun x => fracOf (x - c) * fracOf (x - c))).sum
  let at_ (k : Nat) : Rat := (s.sum + k) / n
  if s = [] then 0
  else ((List.range s.length).map at_).foldl (fun m c => if cost c < cost m then c else m) (at_ 0)

/-- The direction-of-arrival residuals of a code in cycles (R164): every satellite whose signal is in LOCKED on both antennas, the between-antenna
difference of its carrier phases, which are phase ranges, against the baseline projection, less the common term. -/
def Dev.doa (d : Dev) (m : Meas) (l : List SolSig) (code : Nat) : List (SolSig × Rat) :=
  let b := vsub (d.antPoint 1) d.bench
  let raw := (l.filter (fun x => x.ent.sig == code && x.ent.flags.testBit 1)).filterMap (fun x =>
    (m.entries.find? (fun e => e.sys == x.ent.sys && e.sat == x.ent.sat && e.sig == code && e.ant != x.ent.ant && e.flags.testBit 1)).map (fun e =>
      let z := if x.ent.ant = 0 then (x.ent, e) else (e, x.ent)
      (x, ((z.1.carrier - z.2.carrier : Int) : Rat) / 65536 - vdot b x.unit * carrierHz code / cLight)))
  let c := commonTerm (raw.map (·.2))
  raw.map (fun r => (r.1, fracOf (r.2 - c)))

/-- Check 1, direction of arrival (R164): codes with at least 6 satellites in LOCKED on both antennas. The runs of updates in which more than a
third fail are counted for each code. With the failures come the runs and all residuals. -/
def Dev.check1 (d : Dev) (m : Meas) (l : List SolSig) : List Failure × Tab Nat × List Rat :=
  if !d.bit 0x248001 0 || d.oct 0x249005 == zeros 12 || !d.benchmark then ([], [], [])
  else
    let lim : Rat := (d.num 0x248002 : Rat) / 100
    let all := (codes.map (fun c => (c, d.doa m l c))).filter (fun x => decide (6 ≤ x.2.length))
    let bad (r : List (SolSig × Rat)) : List (SolSig × Rat) := r.filter (fun x => decide (lim < x.2 ∨ x.2 < -lim))
    let ss : List Failure := all.flatMap (fun x => (bad x.2).map (fun s => (0, 1, s.1.what)))
    let runs : Tab Nat := all.filterMap (fun x =>
      if x.2.length < 3 * (bad x.2).length then some (x.1, tabGetD d.rx.doaRuns x.1 0 + 1) else none)
    let ts : List Failure := (runs.filter (fun r => decide (d.nat 0x248003 ≤ r.2))).map (fun r => (1, 1, 256 + r.1))
    (ss ++ ts, runs, all.flatMap (fun x => x.2.map (·.2)))

/-- The median of a list. -/
def median (l : List Rat) : Rat :=
  let s := rising l
  let n := s.length
  if n = 0 then 0 else (vget s ((n - 1) / 2) + vget s (n / 2)) / 2

/-- Check 2, pseudoranges against the disciplined clock (R164), in states 3 to 5. A common offset is accepted once it has persisted within 2480:05
for 2480:06 updates. Returns the failures, whether G fails, and the jump under confirmation in ns. -/
def Dev.check2 (d : Dev) (l : List SolSig) (t : TimeSol) : List Failure × Bool × Option (Int × Nat) :=
  if !d.bit 0x248001 1 || decide (d.timeState < 3) || l.isEmpty || !d.benchmark then ([], false, none)
  else
    let res (x : SolSig) : Rat := x.one - vget t.bring (groupOf x.ent.sys) + (t.shift : Rat) * cLight / 1000000000
    let med := median (l.map res)
    let lim : Rat := d.num 0x248004
    let ss : List Failure := (l.filter (fun s => decide (lim < res s - med ∨ res s - med < -lim))).map (fun s => (0, 2, s.what))
    let ns : Int := roundRat (med * 1000000000 / cLight)
    let most := max (d.nat 0x248005) (3 * d.estError)
    if ns.natAbs ≤ most then (ss, false, none)
    else match d.rx.jump with
      | some (v, n) =>
        if (ns - v).natAbs ≤ d.nat 0x248005 then (ss, decide (n + 1 < d.nat 0x248006), some (v, n + 1)) else (ss, true, some (ns, 0))
      | none => (ss, true, some (ns, 0))

/-- Check 3, agreement between clock groups with 3 or more surviving satellites (R164). -/
def Dev.check3 (d : Dev) (l : List SolSig) (bring : List Rat) : List Failure × Bool :=
  if !d.bit 0x248001 2 then ([], false)
  else
    let clocks := groupClocks l bring
    let sats (g : Nat) : Nat := (satsOf (l.filter (fun s => groupOf s.ent.sys == g))).length
    let have_ := [0, 1, 2].filter (fun g => decide (3 ≤ sats g) && ((clocks[g]?).getD none).isSome)
    let off (g : Nat) : Rat := (((clocks[g]?).getD none).getD 0) * 1000000000 / cLight
    let far (a b : Nat) : Bool := decide ((d.num 0x248007 : Rat) < off a - off b ∨ (d.num 0x248007 : Rat) < off b - off a)
    match have_ with
    | [a, b] => ([], far a b)
    | [a, b, c] =>
      if far a b && far a c && far b c then ([], true)
      else if far a b && far a c then ([(2, 3, 768 + a)], false)
      else if far a b && far b c then ([(2, 3, 768 + b)], false)
      else if far a c && far b c then ([(2, 3, 768 + c)], false)
      else ([], false)
    | _ => ([], false)

/-- The mean C/N0 of a band on an antenna in a record, in 0.01 dB-Hz. -/
def bandMean (m : Meas) (p : Nat) : Option Rat :=
  let l := m.entries.filter (fun e => 3 * e.ant + bandOf e.sig == p)
  if l = [] then none else some (((l.map (·.cn0)).sum : Rat) / l.length)

/-- The AGC gain of a pair has fallen by 3 dB or more within 1 s while the mean C/N0 of its band rises from the last update (R164). -/
def Dev.agcFell (d : Dev) (m : Meas) (p : Nat) : Bool :=
  let l := ((d.band p).agc.filter (fun e => decide (d.clk.now ≤ e.1 + secT))).map (·.2)
  match l.getLast?, bandMean m p, tabGet d.rx.bandCn0 p with
  | some g, some now, some was => l.any (fun x => decide (g + 30 ≤ x)) && decide (was < now)
  | _, _, _ => false

/-- Check 4, signal power (R164). The spread is the standard deviation over the satellites above 20°. -/
def Dev.check4 (d : Dev) (m : Meas) (l : List SolSig) : List Failure :=
  if !d.bit 0x248001 3 then []
  else
    let ss : List Failure := (l.filter (fun s => decide (d.nat 0x248008 * 10 < s.ent.cn0))).map (fun s => (0, 4, s.what))
    let lim := d.nat 0x248009 * 10
    let fell := [0, 1, 2].filter (fun b => d.agcFell m b || d.agcFell m (3 + b))
    let ts := codes.filter (fun c =>
      let x := (l.filter (fun s => s.ent.sig == c && decide (200 < s.pos.elev))).map (·.ent.cn0)
      let n := x.length
      let sum := x.sum
      let sq := (x.map (fun v => v * v)).sum
      fell.contains (bandOf c) || decide (lim ≠ 0 ∧ 6 ≤ n ∧ n * sq - sum * sum < lim * lim * n * n))
    ss ++ ts.map (fun c => (1, 4, 1024 + c))

/-- Event sources of an exclusion's start, by scope; the next number is its clearing (R167). -/
def exclEvent (scope : Nat) : Nat := 113 + 2 * scope

/-- An exclusion starts, or its check fails again (R166, R167). -/
def Dev.exclude (d : Dev) (f : Failure) : Dev :=
  let same (x : Excl) : Bool := x.scope == f.1 && x.check == f.2.1 && x.what == f.2.2
  if d.rx.excl.any same then
    { d with rx := { d.rx with excl := d.rx.excl.map (fun x => if same x then { x with pass := none } else x) } }
  else
    let fresh := !(d.rx.excl.any (fun x => x.scope == f.1 && x.what == f.2.2))
    let x : Excl := { scope := f.1, check := f.2.1, what := f.2.2, pass := none }
    let d := { d with rx := { d.rx with excl := d.rx.excl ++ [x] } }
    d.raiseIf fresh (exclEvent f.1) f.2.2

/-- Exclusions whose check passes count towards 2480:0B, one update a second, and clear there (R167). -/
def Dev.clearExcl (d : Dev) (fails : List Failure) : Dev :=
  let moved : List Excl := d.rx.excl.map (fun (x : Excl) =>
    if fails.contains (x.scope, x.check, x.what) then x else { x with pass := some (match x.pass with
      | some n => n + 1
      | none => 0) })
  let done (x : Excl) : Bool := match x.pass with
    | some n => decide (d.nat 0x24800B ≤ n)
    | none => false
  let left := moved.filter (fun x => !done x)
  let d := { d with rx := { d.rx with excl := left } }
  (moved.filter done).foldl (fun (d : Dev) x =>
    if left.any (fun y => y.scope == x.scope && y.what == x.what) then d else d.raise (exclEvent x.scope + 1) x.what) d

/-- The maps of excluded groups and codes, 2481:03 and 2481:04. -/
def Dev.showExcl (d : Dev) : Dev :=
  let mask (scope : Nat) (n : Nat) : Nat := ((List.range n).map (fun i =>
    if d.rx.excl.any (fun x => x.scope == scope && x.what % 256 == i) then 2 ^ i else 0)).sum
  (d.setN 0x248103 (mask 2 3 : Nat)).setN 0x248104 (mask 1 11 : Nat)

/-- The suspect state (R165 to R167): entered when a check of scope G fails, with 119 and the MSM suspension 127; left when
every check has passed for 2480:0C updates, with 120. -/
def Dev.judgeSuspect (d : Dev) (g clean : Bool) (failing : Nat) : Dev :=
  let run := if clean then d.rx.clean + 1 else 0
  let d := { d with rx := { d.rx with clean := run } }
  if g then
    if d.flag 0x248101 then d
    else
      let d := d.setN 0x248101 1
      (({ d with rx := { d.rx with msmOff := true } }).raise 119 failing).raise 127 0
  else if d.flag 0x248101 ∧ d.nat 0x24800C + 1 ≤ run then (d.setN 0x248101 0).raise 120 0
  else d

/-- Root mean square of the direction-of-arrival residuals, in 0.001 cycle (2481:06). -/
def doaRms (l : List Rat) : Nat :=
  if l = [] then 0 else (roundRat (rootR ((l.map (fun v => v * v)).sum / l.length) * 1000)).toNat

/-- The exclusions of check 5 do not persist where its test still fails (R164): they clear with their event. -/
def Dev.dropFive (d : Dev) : Dev :=
  let gone := d.rx.excl.filter (fun x => x.check == 5)
  let left := d.rx.excl.filter (fun x => x.check != 5)
  let d : Dev := { d with rx := { d.rx with excl := left } }
  gone.foldl (fun (d : Dev) x => if left.any (fun y => y.scope == x.scope && y.what == x.what) then d else d.raise (exclEvent x.scope + 1) x.what) d

/-- An unusable update (R165): the run of usable ones breaks, and event source 130 is raised with the failing check, at most once in 10 s. -/
def Dev.unusable (d : Dev) (failing : Nat) : Dev :=
  let n := ((List.range 5).find? (fun i => failing.testBit i)).elim 0 (· + 1)
  let d := d.breakRun 1
  if (match d.rx.badAt with
    | some x => decide (x + 10 * secT ≤ d.clk.now)
    | none => true) then ({ d with rx := { d.rx with badAt := some d.clk.now } }).raise 130 n
  else d

/-- A usable update (R134, R165): what it shows, event source 112 after a start, and the phase error that source 1 delivers to the servo. -/
def Dev.usable (d : Dev) (sats : List (Nat × Nat)) (err : Int) (utc : Option Int) : Dev :=
  let d := d.setN 0x248105 (min sats.length 255 : Nat)
  let d := { d with rx := { d.rx with eph := (d.rx.eph ++ sats).eraseDups, almanac := true, coarse := true } }
  let d := if d.rx.fixed then d
    else
      let secs := min ((d.clk.now - d.rx.startAt) / secT) 65535
      (({ d with rx := { d.rx with fixed := true } }).setN 0x243005 (secs : Nat)).raise 112 secs
  (d.keepRun 1).offerTime 1 err utc

/-- A position of antenna 0 enters the survey, where one runs, and the last hour (R161, R162). -/
def Dev.notePosition (d : Dev) (p : List Rat) : Dev :=
  let hour := (d.rx.hour.filter (fun e => decide (d.clk.now < e.1 + 3600 * secT))) ++ [(d.clk.now, p)]
  let d : Dev := { d with rx := { d.rx with hour := hour } }
  if d.nat 0x249204 = 1 then
    let n := d.rx.surveyN + 1
    let sum := vadd d.rx.surveySum p
    let sq := vadd d.rx.surveySq (p.map (fun x => x * x))
    ({ d with rx := { d.rx with surveyN := n, surveySum := sum, surveySq := sq } }).setN 0x249207 (d.surveySecs : Nat)
  else d

/-- The antenna 0 position of an epoch from its codes, from the last one known (R160, R161). -/
def Dev.codePosition (d : Dev) (m : Meas) (t : TimeSol) (ant : Nat) : Option (List Rat) :=
  let good (l : List SolSig) : List SolSig := l.filter (fun x => !x.ent.flags.testBit 9 && decide (d.num 0x24800D ≤ x.pos.elev)
    && !d.excluded x.ent.sys x.ent.sig x.ent.sat)
  let start := ((d.rx.hour.getLast?).map (·.2)).getD (if d.benchmark then d.bench else [0, 0, 0])
  positionSteps (fun p => good (d.solSigs m t ant p)) t.bring 8 start

/-- The whole-second time solution of a record and its checks (R163 to R168), on the timing antenna 2210:09. -/
def Dev.timeSolution (d : Dev) (m : Meas) (t : TimeSol) : Dev :=
  let ant := d.nat 0x221009
  let here := d.codePosition m t 0
  let point : List Rat := if d.benchmark then d.antPoint ant else ((d.codePosition m t ant).or here).getD [0, 0, 0]
  let all := d.solSigs m t ant point
  let up (x : SolSig) : Bool := !x.ent.flags.testBit 9 && decide (d.num 0x24800D ≤ x.pos.elev)
  let l := all.filter up
  let d := match here with
    | some p => d.notePosition p
    | none => d
  let c1 := d.check1 m all
  let c2 := d.check2 l t
  let hit (fs : List Failure) (x : SolSig) : Bool := fs.any (fun f => (f.1 == 0 && f.2.2 == x.what)
    || ({ scope := f.1, check := f.2.1, what := f.2.2, pass := none } : Excl).hits x.ent.sys x.ent.sig x.ent.sat)
  let c4 := d.check4 m all
  let f124 := c1.1 ++ c2.1 ++ c4
  let left3 := l.filter (fun x => !hit f124 x && !d.excluded x.ent.sys x.ent.sig x.ent.sat)
  let c3 := d.check3 left3 t.bring
  let left5 := left3.filter (fun x => !hit c3.1 x)
  let five := d.bit 0x248001 4
  let r5 := if five then check5 (d.nat 0x24800A) t.bring (left5.length / 3) left5 [] else (left5, [], true)
  let f5 : List Failure := if r5.2.2 then r5.2.1.map (fun x => (0, 5, x.what)) else []
  let fails := f124 ++ c3.1 ++ f5
  let f (n : Nat) : Bool := fails.any (fun x => x.2.1 == n)
  let failing := (if f 1 then 1 else 0) + (if f 2 || c2.2.1 then 2 else 0) + (if f 3 || c3.2 then 4 else 0) + (if f 4 then 8 else 0)
    + (if f 5 || !r5.2.2 then 16 else 0)
  let cn0 := (List.range 6).filterMap (fun p => (bandMean m p).map (fun v => (p, v)))
  let d : Dev := { d with rx := { d.rx with doaRuns := c1.2.1, jump := c2.2.2, bandCn0 := cn0 } }
  let d := (fails.foldl Dev.exclude d).clearExcl fails
  let d := (if r5.2.2 then d else d.dropFive).showExcl
  let g1 := 2 ≤ (d.rx.excl.filter (fun x => x.scope == 1 && x.check == 1)).length
  let d := d.judgeSuspect (g1 || c2.2.1 || c3.2) (failing == 0) failing
  let clocks := groupClocks r5.1 t.bring
  let tenth (g : Nat) : Int := match (clocks[g]?).getD none with
    | some c => roundRat (c * 10000000000 / cLight) + t.shift * 10
    | none => 0
  let d := (d.setN 0x248102 (failing : Nat)).setN 0x248106 (doaRms c1.2.2 : Nat)
  let d := d.setO 0x248107 ([0, 1, 2].flatMap (fun g => leBytes 4 (ofSigned 32 (tenth g))))
  let d : Dev := match (clocks[0]?).getD none with
    | some c => { d with eng_ := { d.eng_ with gnssC := roundRat (c * 1000000000 / cLight) + t.shift } }
    | none => d
  let sats := satsOf r5.1
  match clockOf (r5.1.map (fun x => (solValue r5.1 t.bring x, solWeight x))) with
  | some c =>
    if d.flag 0x248101 || !r5.2.2 || decide (sats.length < 5) then d.unusable failing
    else d.usable sats (roundRat (c * 65536000000000 / cLight) + t.shift * 65536) t.utc
  | none => d.unusable failing

/-- The GNSS time update of a whole second, from the epoch there (R163 to R168). -/
def gnssTimeUpdate (t : TimeSol) (d : Dev) : Dev :=
  d.when (d.up 4 && decide (d.timeState ≠ 0)) (fun d =>
    match d.rx.last with
    | none => d.unusable 0
    | some m => if m.time % 1000000000 = 0 ∧ d.clk.now < m.at_ + secT then d.timeSolution m t else d.unusable 0)

def execGnssTimeUpdate (dt : Nat) (t : TimeSol) (s : State) : Out := onDev s dt (gnssTimeUpdate t)

/-- The period of the MSM rate 24C0:04 in ns (R170). -/
def msmPeriod (rate : Nat) : Nat :=
  match rate with
  | 1 => 1000000000 | 2 => 500000000 | 3 => 200000000 | _ => 100000000

/-- GPS time of week in ms of an instant of fleet time in ns: TAI less 19 s, weeks counted from 1980-01-06 (R88, R173). -/
def towMs (ns : Nat) : Nat := ((ns : Int) - 315964819000000000).toNat % 604800000000000 / 1000000

/-- The destination of RTCM output: address, port, VLAN (R170), and the UDP source port (R172). -/
def Dev.rtcmTo (d : Dev) : List Nat := [leNat (d.oct 0x24C002), d.nat 0x24C003, d.nat 0x24C008, 30514]

/-- One RTCM 3 message: what is sent, its fields, and the length of its frame in bytes. -/
structure Rtcm where
  kind : SentKind
  flds : List Int
  len  : Nat

/-- Cut the cells of a system into messages of at most 64, by satellite (R172). -/
def msmParts : List (List (List Int)) → List (List Int) → List (List (List Int))
  | [], acc => if acc = [] then [] else [acc]
  | s :: rest, acc => if acc ≠ [] ∧ 64 < acc.length + s.length then acc :: msmParts rest s else msmParts rest (acc ++ s)

/-- The observation code of a signal as one number, its first character the higher byte (R122, R169). -/
def obsNum (sig : Nat) : Int := (((obsCode sig)[0]?).getD 0 * 256 + ((obsCode sig)[1]?).getD 0 : Nat)

/-- The cells of a system at an epoch, grouped by satellite (R169, R173 to R175): satellite, observation code, pseudorange, whether phase range and
phase-range rate are valid, these two, lock time, half-cycle indicator and C/N0. `zero` sets every lock time to 0. -/
def Dev.msmCells (d : Dev) (m : Meas) (sys : Nat) (zero : Bool) : List (List (List Int)) :=
  let es := m.entries.filter (fun e => e.ant == 0 && e.sys == sys && !d.excluded e.sys e.sig e.sat && !e.flags.testBit 4)
  let sats := (es.map (·.sat)).eraseDups
  (((List.range 256).filter sats.contains)).map (fun s => (es.filter (fun e => e.sat == s)).map (fun e =>
    let whole := e.flags.testBit 1 && e.flags.testBit 2
    [(e.sat : Int), obsNum e.sig, e.pr, if whole then 1 else 0, if whole then e.carrier else 0, if whole then e.doppler else 0
      , if zero then 0 else e.lockMs, if e.flags.testBit 2 then 1 else 0, e.cn0]))

/-- The frame of an MSM7 in bytes (PRESUMED from RTCM 10403.3, log 75): 3 of header and 3 of CRC, and a message of 169 bits with the cell mask,
36 bits a satellite and 80 bits a cell. -/
def msmLen (cells : List (List Int)) : Nat :=
  let sats := ((cells.map (fun c => c.head?)).eraseDups).length
  let sigs := ((cells.map (fun x => x[1]?)).eraseDups).length
  6 + (169 + sats * sigs + 36 * sats + 80 * cells.length + 7) / 8

/-- The MSM7 messages of an epoch: message number, station, time of week, multiple message bit, IODS, steering and external clock indicators,
smoothing indicator and interval, then the cells (R172, R173). -/
def Dev.msmMessages (d : Dev) (m : Meas) : List Rtcm :=
  let zero := decide (m.steps ≠ d.rx.msmSteps)
  let ext : Int := if m.timeSt = 3 then 1 else if m.timeSt = 2 then 3 else 2
  let all := [(0, 0, (1077 : Int)), (1, 1, 1097), (3, 3, 1117), (2, 2, 1127)].flatMap (fun (x : Nat × Nat × Int) =>
    if d.bit 0x24C007 x.2.1 then (msmParts (d.msmCells m x.1 zero) []).map (fun p => (x.2.2, p)) else [])
  (all.zip (List.range all.length)).map (fun x =>
    let tow : Int := if x.1.1 = 1127 then ((towMs m.time + 604800000 - 14000) % 604800000 : Nat) else (towMs m.time : Nat)
    { kind := .rtcmMsm, len := msmLen x.1.2
      flds := [x.1.1, d.num 0x249006, tow, if x.2 + 1 = all.length then 0 else 1, 0, 1, ext, 0, 0] ++ x.1.2.flatten })

/-- A text with its length before it, as 1033 carries it. -/
def counted (b : List Byte) : List Int := (b.length : Int) :: b.map (fun c => (c.toNat : Int))

/-- The station message, 1033 and 1230 of a whole multiple of the static interval (R169, R172); 1230 is suspended with the MSMs. The fields stand in
the order of RTCM 10403.3; those that neither this spec nor its entries give are free constants (log 75). Lengths are 25, 27, 15 with the texts,
and 10 bytes. -/
def Dev.staticMessages (d : Dev) (off : Bool) : List Rtcm :=
  let b := d.oct 0x249001
  let station : List Int := [d.num 0x249006, d.num 0x24900A, if d.bit 0x24C007 0 then 1 else 0, 0, if d.bit 0x24C007 1 then 1 else 0
    , Config.rtcmField 141, fieldI b 0 8, Config.rtcmField 142, 0, fieldI b 8 8, Config.rtcmField 364, fieldI b 16 8]
  let texts := [d.oct 0x249007, d.oct 0x249008, Config.receiverText 0, Config.receiverText 1, Config.receiverText 2]
  let desc : List Int := [1033, d.num 0x249006] ++ counted (d.oct 0x249007) ++ [d.num 0x249009] ++ (texts.drop 1).flatMap counted
  (match d.nat 0x24C005 with
    | 1 => [{ kind := .rtcmStation, flds := 1005 :: station, len := 25 }]
    | 2 => [{ kind := .rtcmStation, flds := (1006 :: station) ++ [d.num 0x249002], len := 27 }]
    | _ => ([] : List Rtcm))
  ++ [{ kind := .rtcmDescriptor, flds := desc, len := 15 + (texts.map List.length).sum }]
  ++ (if off then [] else [{ kind := .rtcmBias, flds := [1230, d.num 0x249006, 0, 0, 0], len := 10 }])

/-- Whole frames are packed in order into UDP payloads of at most 1,452 bytes (R172): the number of the datagram of each, from `n` with `used`
bytes in it. -/
def packFrames : Nat → Nat → List Rtcm → List (Nat × Rtcm)
  | _, _, [] => []
  | n, used, f :: rest =>
    if used ≠ 0 ∧ 1452 < used + f.len then (n + 1, f) :: packFrames (n + 1) f.len rest else (n, f) :: packFrames n (used + f.len) rest

/-- The messages of an epoch leave, each with the number of its datagram, the model time and its length; a switch island that is not in state 3 takes none (R17). -/
def Dev.sendRtcm (d : Dev) (l : List Rtcm) : Dev :=
  if l.isEmpty then d
  else if !d.up 7 then d.notReady 7
  else (packFrames 0 0 l).foldl (fun (d : Dev) x => d.emit x.2.kind (d.rtcmTo ++ [x.1, d.clk.now, x.2.len]) x.2.flds) d

/-- An MSM epoch (R172): the static messages that are due, then the MSMs of its record; the first after a suspension raises 128
(R167). -/
def msmEpoch (d : Dev) : Dev :=
  let t := d.nominal (msmPeriod (d.nat 0x24C004))
  d.when (d.up 4 && d.flag 0x24C001 && decide (d.nat 0x24C003 ≠ 0) && d.benchmark && decide (d.timeState ≠ 0)
      && decide (d.lastOf .msm ≠ some t)) (fun d =>
    let d := d.mark .msm t
    let off := d.flag 0x248101
    let fixed := if t % (d.nat 0x24C006 * 1000000000) = 0 then d.staticMessages off else []
    if off ∨ d.timeState < 2 then d.sendRtcm fixed
    else
      let d := if d.rx.msmOff then ({ d with rx := { d.rx with msmOff := false } }).raise 128 0 else d
      match d.rx.last with
      | some m =>
        if m.time = t ∧ 2 ≤ m.timeSt then
          let d := d.sendRtcm (fixed ++ d.msmMessages m)
          { d with rx := { d.rx with msmSteps := m.steps } }
        else d.sendRtcm fixed
      | none => d.sendRtcm fixed)

def execMsmEpoch (dt : Nat) (s : State) : Out := onDev s dt msmEpoch

end Sys2Proof.Machine
end

