-- ==== Sys2Proof/Machine/Search.lean ====
section
/-!
DEFINITION. The integer least-squares search of R201 on a float vector and its covariance: decorrelation by integer Gauss transformations and
permutations, the depth-first search for the best two integer vectors within a bound on the nodes visited, and the bootstrapped success rate.
The spec names the transformations and not their order: this order is the model's (log 77).
-/
namespace Sys2Proof.Machine

/-- The factors of a covariance: unit lower triangular rows and conditional variances, the last component's variance being unconditional. -/
structure Ldl where
  l : Mat
  d : List Rat
deriving DecidableEq, Repr

/-- One step of the factorisation, for the component `i`: the row of the factor, the variance, and what is left of the matrix. -/
def ldlStep (q : Mat) (i : Nat) : List Rat × Rat × Mat :=
  let n := q.length
  let v := mget q i i
  let row := vecOf n (fun j => if j = i then 1 else if j < i ∧ v ≠ 0 then sharp (mget q i j / v) else 0)
  (row, v, matOf n n (fun a b => if a < i ∧ b < i then mget q a b - vget row a * vget row b * v else mget q a b))

/-- The factorisation, from the last component down. -/
def ldl (q : Mat) : Ldl :=
  let r := (List.range q.length).reverse.foldl (fun (acc : Mat × List Rat × Mat) i =>
    let s := ldlStep acc.2.2 i
    (s.1 :: acc.1, s.2.1 :: acc.2.1, s.2.2)) ([], [], q)
  { l := r.1, d := r.2.1 }

/-- Integer Gauss transformation of component `j` by component `i`: the factor and the rows of the transformation follow. -/
def gaussStep (acc : Mat × List (List Int)) (j i : Nat) : Mat × List (List Int) :=
  let mu := roundRat (mget acc.1 i j)
  if mu = 0 then acc
  else
    let l := acc.1.mapIdx (fun k r => if i ≤ k then r.mapIdx (fun c x => if c = j then x - mu * vget r i else x) else r)
    let zi := (acc.2[i]?).getD []
    (l, acc.2.mapIdx (fun k r => if k = j then (r.zip zi).map (fun p => p.1 - mu * p.2) else r))

/-- All integer Gauss transformations, columns from the last down. -/
def gaussAll (n : Nat) (l : Mat) (z : List (List Int)) : Mat × List (List Int) :=
  (List.range n).reverse.foldl (fun acc j => ((List.range n).filter (fun i => decide (j < i))).foldl (fun acc i => gaussStep acc j i) acc) (l, z)

/-- The covariance of transformed components. -/
def transCov (q : Mat) (z : List (List Int)) : Mat :=
  let zr : Mat := z.map (fun r => r.map (fun (x : Int) => (x : Rat)))
  (mulT (mmul q.length zr q) zr).map (fun r => r.map sharp)

/-- Two rows change places. -/
def swapRows (k : Nat) (z : List (List Int)) : List (List Int) :=
  z.mapIdx (fun i r => if i = k then (z[k + 1]?).getD r else if i = k + 1 then (z[k]?).getD r else r)

/-- Decorrelation (R201): Gauss transformations, then the last pair of neighbours whose exchange lowers a conditional variance changes places, until
none does. The rows of the result are those of Zᵀ. -/
def decorrelate (q : Mat) : Nat → List (List Int) → List (List Int)
  | 0, z => z
  | k + 1, z =>
    let n := q.length
    let f := ldl (transCov q z)
    let g := gaussAll n f.l z
    let gain (i : Nat) : Bool :=
      decide (i + 1 < n) && decide (vget f.d i + mget g.1 (i + 1) i * mget g.1 (i + 1) i * vget f.d (i + 1) < vget f.d (i + 1))
    match (List.range n).reverse.find? gain with
    | none => g.2
    | some i => decorrelate q k (swapRows i g.2)

/-- One level of the search: its component, the centre there, the integer under test and the step to the next, the sum so far, and the levels
above: the integer of each and its distance from the centre. -/
structure Level where
  i    : Nat
  c    : Rat
  z    : Int
  step : Int
  acc  : Rat
  up   : List (Int × Rat)
deriving DecidableEq, Repr

/-- A level begins at the integer nearest to its centre. -/
def startLevel (a : List Rat) (f : Ldl) (i : Nat) (acc : Rat) (up : List (Int × Rat)) : Level :=
  let c := sharp (vget a i - (up.mapIdx (fun k (y : Int × Rat) => y.2 * mget f.l (i + 1 + k) i)).sum)
  let z := roundRat c
  { i := i, c := c, z := z, step := if (z : Rat) ≤ c then 1 else -1, acc := acc, up := up }

/-- The next integer of a level, by turns on both sides of the centre. -/
def Level.next (x : Level) : Level := { x with z := x.z + x.step, step := if 0 < x.step then -x.step - 1 else -x.step + 1 }

/-- Keep the best two of the vectors found. -/
def keepTwo (x : Rat × List Int) (l : List (Rat × List Int)) : List (Rat × List Int) :=
  match l with
  | [] => [x]
  | [a] => if x.1 < a.1 then [x, a] else [a, x]
  | a :: b :: _ => if x.1 < a.1 then [x, a] else if x.1 < b.1 then [a, x] else [a, b]

/-- The depth-first search (R201): each step visits one node. The vectors found, and how many of the nodes allowed are left; none left means that
the bound ended it. -/
def searchNodes (a : List Rat) (f : Ldl) : Nat → List Level → List (Rat × List Int) → List (Rat × List Int) × Nat
  | 0, _, best => (best, 0)
  | n, [], best => (best, n)
  | n + 1, x :: rest, best =>
    let e := x.c - x.z
    let up := (x.z, e) :: x.up
    let o := x.acc + (if vget f.d x.i = 0 then 0 else sharp (e * e / vget f.d x.i))
    let within := match best with
      | [_, b] => decide (o < b.1)
      | _ => true
    if !within then searchNodes a f n rest best
    else if x.i = 0 then searchNodes a f n (x.next :: rest) (keepTwo (o, up.map (·.1)) best)
    else searchNodes a f n (startLevel a f (x.i - 1) o up :: x.next :: rest) best

/-- What a search gives: the best and second-best integer vectors with their sums, the success rate, and the nodes left. -/
structure Found where
  best   : List Int
  second : List Int
  o1     : Rat
  o2     : Rat
  rate   : Rat
  left   : Nat
deriving DecidableEq, Repr

/-- The integer least-squares search of a float vector `a` of covariance `q`, within `nodes` nodes (R177, R201); none where the bound ends it. -/
def intSearch (a : List Rat) (q : Mat) (nodes : Nat) : Option Found :=
  let n := a.length
  let zt := decorrelate q 4096 ((List.range n).map (fun i => (List.range n).map (fun j => if i = j then 1 else 0)))
  let zr : Mat := zt.map (fun r => r.map (fun (x : Int) => (x : Rat)))
  let az := mvec zr a
  let f := ldl (transCov q zt)
  let r := searchNodes az f nodes [startLevel az f (n - 1) 0 []] []
  match minv zr, r.1 with
  | some inv, [x, y] =>
    if r.2 = 0 then none
    else
      let back (z : List Int) : List Int := (mvec inv (z.map (fun (k : Int) => (k : Rat)))).map roundRat
      let one (v : Rat) : Rat := if v ≤ 0 then 1 else normalWithin (sharp (1 / (2 * rootR v)))
      some { best := back x.2, second := back y.2, o1 := x.1, o2 := y.1, rate := f.d.foldl (fun p v => sharp (p * one v)) 1, left := r.2 }
  | _, _ => none

end Sys2Proof.Machine
end

