-- ==== Sys2Proof/Machine/Filter.lean ====
section
/-!
DEFINITION. The filter of a slot as functions on its state: the grid basis in force (R218), signal choice (R187), prediction and
update (R193 to R198), pivots (R199), and the attempts of the integer search (R200 to R203). The arithmetic is on
rationals, the state kept to 2^-56; the rounding of the FP32 lanes is not given and not modelled (log 18).
-/
namespace Sys2Proof.Machine

/-- The grid basis in force. -/
def Dev.basis (d : Dev) : Mat := gridBasis d.bench ((d.num 0x2C0001 : Rat) / 100000000)

/-- The binary exponent of a positive rational: the largest power of 2 not above it, searched from -80 to 80. -/
def binExp (x : Rat) : Int :=
  ((List.range 161).map (fun (i : Nat) => (i : Int) - 80)).foldl (fun m e =>
    let p : Rat := if 0 ≤ e then (2 ^ e.toNat : Nat) else 1 / (2 ^ (-e).toNat : Nat)
    if p ≤ x then e else m) (-80)

/-- The REAL64 word of a rational of magnitude from 2^-80 to 2^80, to nearest; 0 below (R219). -/
def real64 (x : Rat) : Nat :=
  let a := if x < 0 then -x else x
  if a * (2 ^ 80 : Nat) < 1 then 0
  else
    let e := binExp a
    let k := e - 52
    let m := if 0 ≤ k then roundRat (a / (2 ^ k.toNat : Nat)) else roundRat (a * (2 ^ (-k).toNat : Nat))
    let bump := decide (m = 9007199254740992)
    let ex := (if bump then e + 1 else e) + 1023
    (if x < 0 then 2 ^ 63 else 0) + ex.toNat * 2 ^ 52 + (if bump then 0 else m.toNat - 4503599627370496)

/-- The bytes of 2C01:01: zero without a Benchmark. -/
def Dev.basisBytes (d : Dev) : List Byte :=
  if d.oct 0x249001 == zeros 24 then zeros 72 else d.basis.flatMap (fun r => r.flatMap (fun x => leBytes 8 (real64 x)))

/-- Signals of a system on a band in order of preference (R187). -/
def preference (sys band : Nat) : List Nat :=
  match band with
  | 0 => if sys = 0 ∨ sys = 3 then [1, 0] else if sys = 1 then [4] else [8, 7]
  | 1 => if sys = 0 ∨ sys = 3 then [2] else []
  | _ => if sys = 0 ∨ sys = 3 then [3] else if sys = 1 then [5, 6] else [9, 10]

/-- One signal in use at both ends, its base observables moved to the vehicle epoch (R187, R191, R192): `raw` the carrier phases in cycles where
both ends give one, `ph` those usable for phase rows, `cb` the base's carrier at its own epoch. -/
structure Obs where
  sys   : Nat
  sat   : Nat
  sig   : Nat
  band  : Nat
  lam   : Rat
  pv    : Rat
  pb    : Rat
  raw   : Option (Rat × Rat)
  ph    : Option (Rat × Rat)
  cb    : Rat
  lockV : Nat
  lockB : Nat
  halfV : Bool
  tag   : Int
  rate  : Option Rat
  geo   : SatGeo
deriving DecidableEq, Repr

/-- Clock group of an observation. -/
def Obs.group (o : Obs) : Nat := groupOf o.sys

/-- The signal of R122 that an observation code names in a system (R186). -/
def sigOfObs (sys obs : Nat) : Option Nat := (codes.filter (signalOk sys)).find? (fun s => obsNum s == (obs : Int))

/-- What a vehicle cell of signal `sig` and a base entry of the record tagged `tag` give together, `age` seconds after that tag. A cell below
30 dB-Hz gives code only; phase needs a resolved half cycle at both ends and carrier valid at the base (R186, R195). -/
def obsOf (c : VCell) (sig : Nat) (e : MeasEntry) (g : SatGeo) (tag : Int) (age : Rat) : Obs :=
  let lam := sharp (cLight / carrierHz sig)
  let dop : Rat := (e.doppler : Rat) / 1024
  let pb := sharp ((e.pr : Rat) / 4096 - lam * dop * age)
  let cb : Rat := (e.carrier : Rat) / 65536
  let raw := c.phase.bind (fun p => if 3000 ≤ c.cnr ∧ e.flags.testBit 1 then some (p, cb - dop * age) else none)
  { sys := c.sys, sat := c.sat, sig := sig, band := bandOf sig, lam := lam, pv := c.pr, pb := pb, raw := raw
    ph := if c.half ∧ e.flags.testBit 2 then raw else none, cb := cb, lockV := c.lock, lockB := e.lockMs, halfV := c.half, tag := tag
    rate := c.rate, geo := g }

/-- The satellites of some observations. -/
def Obs.code (o : Obs) : Nat := o.sys * 256 + o.sat

/-- The signals used at an epoch (R187, R192, R196): for each satellite above the mask at both ends and each band, the signal in use while it stays
valid, else the first preferred one; of the satellites that have one, at most the 64 of highest elevation at the base. -/
def Dev.observations (d : Dev) (f : Option Filt) (e : Epoch) (b : BaseRec) (geo : List SatGeo) : List Obs :=
  let age : Rat := ((e.tv - b.tag : Int) : Rat) / 1000000000
  let ok : List SatGeo := geo.filter (fun (g : SatGeo) => decide (d.num 0x280004 ≤ g.elV ∧ d.num 0x280004 ≤ g.elB))
  let all : List (SatGeo × List Obs) := ok.map (fun g => (g, [0, 1, 2].filterMap (fun band =>
    let cand : List Obs := (preference g.sys band).filterMap (fun s =>
      match e.cells.find? (fun c => c.sys == g.sys && c.sat == g.sat && sigOfObs c.sys c.obs == some s),
          b.entries.find? (fun x => x.ant == 0 && x.sys == g.sys && x.sat == g.sat && x.sig == s && x.flags.testBit 0
            && !x.flags.testBit 4 && !x.flags.testBit 9) with
      | some c, some x => some (obsOf c s x g b.tag age)
      | _, _ => none)
    let used := (f.map (·.used)).getD []
    (cand.find? (fun (o : Obs) => used.contains (o.sys, o.sat, o.sig))).or cand.head?)))
  let have_ : List (SatGeo × List Obs) := all.filter (fun x => !x.2.isEmpty)
  let top := have_.filter (fun (x : SatGeo × List Obs) => decide ((have_.filter (fun (y : SatGeo × List Obs) => decide (x.1.elB < y.1.elB))).length < 64))
  (top.take 64).flatMap (·.2)

/-- |s − r| − |s − r_b| of a satellite (R195). -/
def Obs.rho (o : Obs) (r rb : List Rat) : Rat :=
  let s := [o.geo.x, o.geo.y, o.geo.z]
  norm3 (vsub s r) - norm3 (vsub s rb)

/-- Undifferenced variance at an elevation (R196), in m²: `phase` selects sigma, `l` is the baseline in km, `tau` the age in s. -/
def Dev.variance (d : Dev) (phase : Bool) (el : Int) (sig : Nat) (l tau : Rat) : Rat :=
  let s2 := sinEl el * sinEl el
  let s2 := if s2 = 0 then 1 / 1000000 else s2
  let s0 : Rat := if phase then (d.num 0x280005 : Rat) / 10000 else (d.num 0x280006 : Rat) / 1000
  let fr : Rat := 1575420000 / carrierHz sig
  let iono := (d.num 0x280007 : Rat) / 10000 * l * fr * fr
  let age := (d.num 0x280003 : Rat) / 1000 * tau
  sharp (s0 * s0 * (1 / 2 + 1 / (2 * s2)) + iono * iono / s2 + age * age)

/-- Variance of a single difference: both ends together. -/
def Dev.sdVar (d : Dev) (phase : Bool) (o : Obs) (l tau : Rat) : Rat :=
  d.variance phase o.geo.elV o.sig l tau + d.variance phase o.geo.elB o.sig l tau

/-- The index of an ambiguity among those of a filter. -/
def Filt.sdIdx (f : Filt) (o : Obs) : Option Nat := f.sds.findIdx? (fun s => s.sys == o.sys && s.sat == o.sat && s.sig == o.sig)

/-- Prediction over `dt` seconds (R193): `qh` and `qv` in m²/s⁵. -/
def Filt.predict (f : Filt) (dt qh qv : Rat) : Filt :=
  let n := f.x.length
  let fm := matOf n n (fun i j =>
    if i = j then 1 else if i < 6 ∧ j = i + 3 then dt else if i < 3 ∧ j = i + 6 then dt * dt / 2 else 0)
  let q := matOf n n (fun i j =>
    if i < 9 ∧ j < 9 ∧ i % 3 = j % 3 then
      (if i % 3 = 2 then qv else qh) * (match i / 3 + j / 3, i / 3, j / 3 with
        | 0, _, _ => dt ^ 5 / 20 | 1, _, _ => dt ^ 4 / 8 | 2, 1, _ => dt ^ 3 / 3 | 2, _, _ => dt ^ 3 / 6
        | 3, _, _ => dt * dt / 2 | _, _, _ => dt)
    else 0)
  { f with x := (mvec fm f.x).map sharp, cov := (madd (mulT (mmul n fm f.cov) fm) q).map (fun r => r.map sharp) }

/-- The initial value of an ambiguity in cycles and its variance (R194), where both ends give a phase. -/
def Dev.sdInit (d : Dev) (o : Obs) (l tau : Rat) : Option (Rat × Rat) :=
  o.raw.map (fun p => (sharp (p.1 - p.2 - (o.pv - o.pb) / o.lam), sharp (d.sdVar false o l tau / (o.lam * o.lam))))

/-- Set an ambiguity to a value and variance with no correlation (R194, R198). -/
def Filt.setSd (f : Filt) (k : Nat) (v : Rat × Rat) : Filt :=
  { f with
    x := f.x.mapIdx (fun i y => if i = 9 + k then v.1 else y)
    cov := f.cov.mapIdx (fun i r => r.mapIdx (fun j y => if i = 9 + k ∨ j = 9 + k then (if i = j then v.2 else 0) else y)) }

/-- Add an ambiguity at the end. -/
def Filt.addSd (f : Filt) (s : Sd) (v : Rat × Rat) : Filt :=
  let n := f.x.length
  { f with x := f.x ++ [v.1], sds := f.sds ++ [s]
           cov := f.cov.map (fun r => r ++ [0]) ++ [vecOf (n + 1) (fun j => if j = n then v.2 else 0)] }

/-- R198: an ambiguity is reset at an epoch of GPS ns `t`: a fall of the lock time, a change of the half-cycle indicator, a base SLIP up to the
record in use, an absence longer than the lock time covers, or a phase that the phase-range rate does not bear out. -/
def Sd.broken (s : Sd) (o : Obs) (t : Int) : Bool :=
  let dt : Rat := ((t - s.seen : Int) : Rat) / 1000000000
  let gone := decide ((o.lockV : Int) * 1000000 < t - s.seen)
  let jump := match o.rate, o.raw with
    | some r, some p =>
      let e := p.1 - s.phase - r * dt / o.lam
      decide (1 / 2 < e ∨ e < -1 / 2)
    | _, _ => false
  decide (o.lockV < s.lock) || (s.half != o.halfV) || s.cuts.any (fun c => decide (c ≤ o.tag)) || gone || jump

/-- Take the ambiguity `k` out of a filter. -/
def Filt.dropSd (f : Filt) (k : Nat) : Filt :=
  { f with x := f.x.eraseIdx (9 + k), sds := f.sds.eraseIdx k, cov := (f.cov.eraseIdx (9 + k)).map (fun r => r.eraseIdx (9 + k)) }

/-- Ambiguities of signals no longer in use leave the filter (R193): those of a satellite and band that now use another signal. An absent signal
keeps its own, for it may return (R198). -/
def Filt.dropUnused (f : Filt) (l : List Obs) : Filt :=
  let out (s : Sd) : Bool := l.any (fun o => o.sys == s.sys && o.sat == s.sat && o.band == s.band && o.sig != s.sig)
  (List.range f.sds.length).reverse.foldl (fun (f : Filt) k => if (f.sds[k]?).elim false out then f.dropSd k else f) f

/-- The ambiguity unseen for longest at an epoch, if any. -/
def Filt.stalest (f : Filt) : Option Nat :=
  (f.sds.zip (List.range f.sds.length)).foldl (fun (m : Option (Sd × Nat)) x =>
    if x.1.seen = f.t then m else match m with
      | none => some x
      | some y => if x.1.seen < y.1.seen then some x else some y) none |>.map (·.2)

/-- One observation meets the ambiguities (R194, R198): a new one is added, in the place of one long absent where there are 192, and a broken one is
reset, or leaves where there is no phase to reset it to. -/
def Dev.trackSd (d : Dev) (len tau : Rat) (t : Int) (acc : Filt × List Obs) (o : Obs) : Filt × List Obs :=
  let s : Sd := { sys := o.sys, band := o.band, sig := o.sig, sat := o.sat, lock := o.lockV, half := o.halfV, phase := (o.raw.map (·.1)).getD 0, seen := t }
  match acc.1.sdIdx o, d.sdInit o len tau with
  | none, none => acc
  | none, some v =>
    let f := if acc.1.sds.length < 192 then some acc.1 else acc.1.stalest.map acc.1.dropSd
    (f.elim acc.1 (fun f => f.addSd s v), acc.2)
  | some k, init =>
    let was := (acc.1.sds[k]?).getD s
    let keep : Sd := { s with phase := (o.raw.map (·.1)).getD was.phase, seen := if o.raw.isSome then t else was.seen
                              cuts := was.cuts.filter (fun c => decide (o.tag < c)) }
    let f := { acc.1 with sds := acc.1.sds.set k keep }
    if was.broken o t then (match init with
      | some v => f.setSd k v
      | none => f.dropSd k, acc.2 ++ [o])
    else (f, acc.2)

/-- Ambiguities follow the observations of an epoch (R193, R198). The second part lists the observations whose ambiguity was reset. -/
def Dev.trackSds (d : Dev) (f : Filt) (l : List Obs) (len tau : Rat) (t : Int) : Filt × List Obs :=
  l.foldl (d.trackSd len tau t) (f.dropUnused l, [])

/-- The pivot of a group and band (R199): the highest satellite with a valid phase row, the present one among those of equal elevation; a band
without any phase takes the highest satellite for its code rows (log 18). -/
def pivotOf (f : Filt) (l : List Obs) (grp band : Nat) : Option Obs :=
  let here := l.filter (fun o => o.group == grp && o.band == band)
  let old (o : Obs) : Bool := f.pivots.contains (grp, band, o.sys, o.sat)
  let best (l : List Obs) : Option Obs := match l with
    | [] => none
    | o :: os => some (os.foldl (fun m x => if m.geo.elB < x.geo.elB ∨ (m.geo.elB = x.geo.elB ∧ old x ∧ !old m) then x else m) o)
  (best (here.filter (fun o => o.ph.isSome))).or (best here)

/-- One row of the update: what it measures less its geometric part, its coefficients, the variances of its own signal and of its
pivot, and a tag that rows of one pivot share. `sd` is the ambiguity of a phase row. -/
structure FRow where
  z    : Rat
  h    : List Rat
  own  : Rat
  piv  : Rat
  tag  : Nat
  sd   : Option Nat
  obs  : Option (Obs × Obs)
deriving DecidableEq, Repr

/-- The double-difference rows of an epoch (R195, R196), at the position in `f`. -/
def Dev.rows (d : Dev) (f : Filt) (l : List Obs) (m : Mat) (len tau : Rat) : List FRow :=
  let n := f.x.length
  let r := ecefOf d.bench m (f.x.take 3)
  [0, 1, 2].flatMap (fun grp => [0, 1, 2].flatMap (fun band =>
    match pivotOf f l grp band with
    | none => []
    | some i =>
      let rb := d.baseCentre band
      let unit (o : Obs) : List Rat :=
        let v := vsub [o.geo.x, o.geo.y, o.geo.z] r
        let k := norm3 v
        v.map (fun x => sharp (x / k))
      (l.filter (fun o => o.group == grp && o.band == band && !(o.sys == i.sys && o.sat == i.sat))).flatMap (fun j =>
        let geo := j.rho r rb - i.rho r rb
        let e := vsub (unit j) (unit i)
        let hp := vecOf 3 (fun a => sharp (-(vdot e ((m[a]?).getD []))))
        let code : FRow :=
          { z := (j.pv - j.pb) - (i.pv - i.pb) - geo, h := hp ++ vecOf (n - 3) (fun _ => 0), own := d.sdVar false j len tau
            piv := d.sdVar false i len tau, tag := grp * 8 + band * 2, sd := none, obs := some (j, i) }
        match j.ph, i.ph, f.sdIdx j, f.sdIdx i with
        | some pj, some pi_, some kj, some ki =>
          [code, { z := j.lam * (pj.1 - pj.2) - i.lam * (pi_.1 - pi_.2) - geo
                   h := hp ++ vecOf (n - 3) (fun a => if a = 6 + kj then j.lam else if a = 6 + ki then -i.lam else 0)
                   own := d.sdVar true j len tau, piv := d.sdVar true i len tau, tag := grp * 8 + band * 2 + 1, sd := some kj
                   obs := some (j, i) }]
        | _, _, _, _ => [code])))

/-- Covariance of the rows: own plus pivot on the diagonal, the pivot's between rows that share it (R196). -/
def rowCov (rows : List FRow) : Mat :=
  rows.mapIdx (fun i a => rows.mapIdx (fun j b =>
    if i = j then a.own + a.piv else if a.tag = b.tag ∧ a.obs.isSome ∧ b.obs.isSome then a.piv else 0))

/-- The innovation of a row: its ambiguity part taken off. -/
def FRow.nu (r : FRow) (x : List Rat) : Rat := r.z - vdot (r.h.drop 9) (x.drop 9)

/-- A pseudo-measurement of an integer between two ambiguities (R204, R212). -/
def Filt.pseudo (f : Filt) (a : Amb) (var : Rat) : Option FRow :=
  let idx (sat : Nat) : Option Nat := f.sds.findIdx? (fun s => s.band == a.band && groupOf s.sys == groupOf a.sys
    && s.sys * 256 + s.sat == sat && s.seen == f.t)
  match idx (a.sys * 256 + a.sat), idx a.pivot with
  | some j, some i =>
    some { z := (a.n : Rat), h := vecOf f.x.length (fun k => if k = 9 + j then 1 else if k = 9 + i then -1 else 0), own := var, piv := 0
           tag := 1000, sd := none, obs := none }
  | _, _ => none

/-- Innovations, their covariance and its inverse. -/
def innovate (f : Filt) (rows : List FRow) : Option (List Rat × Mat × Mat) :=
  let h := rows.map (·.h)
  let s := madd (mulT (mmul f.x.length h f.cov) h) (rowCov rows)
  (minv s).map (fun si => (rows.map (fun r => r.nu f.x), s, si))

/-- The test of R197 with at most three rows removed; a removed row's ambiguity is reset, also where the test fails at last. `passes` judges a number
of rows with the statistic. The filter with its resets, the rows left where the test has passed, and the observations reset. -/
def residualTest (passes : Nat → Rat → Bool) (init : Obs → Option (Rat × Rat)) :
    Nat → Filt → List FRow → List Obs → Filt × Option (List FRow) × List Obs
  | 0, f, _, gone => (f, none, gone)
  | k + 1, f, rows, gone =>
    match innovate f rows with
    | none => (f, none, gone)
    | some (nu, s, si) =>
      if passes rows.length (vdot nu (mvec si nu)) then (f, some rows, gone)
      else if k = 0 then (f, none, gone)
      else
        let score (i : Nat) : Rat := if mget s i i = 0 then 0 else vget nu i * vget nu i / mget s i i
        let w := (List.range rows.length).foldl (fun m i => if score m < score i then i else m) 0
        match (rows[w]?).bind (·.obs) with
        | none => residualTest passes init k f (rows.eraseIdx w) gone
        | some o =>
          let f' := match f.sdIdx o.1, init o.1 with
            | some i, some v => f.setSd i v
            | _, _ => f
          residualTest passes init k f' (rows.eraseIdx w) (gone ++ [o.1])

/-- The update of R197, in Joseph form. -/
def Filt.update (f : Filt) (rows : List FRow) : Option Filt :=
  (innovate f rows).map (fun x =>
    let n := f.x.length
    let h := rows.map (·.h)
    let k := mmul rows.length (mulT f.cov h) x.2.2
    let ikh := msub (matOf n n (fun i j => if i = j then 1 else 0)) (mmul n k h)
    { f with
      x := (vadd f.x (mvec k x.1)).map sharp
      cov := (madd (mulT (mmul n ikh f.cov) ikh) (mulT (mmul rows.length k (rowCov rows)) k)).map (fun r => r.map sharp) })

/-- Least-squares position from the double-differenced code (R194), from the position in `f`, in `k` steps: the position and its
covariance. -/
def Dev.codeFix (d : Dev) (l : List Obs) (m : Mat) (tau : Rat) : Nat → Filt → Option (List Rat × Mat)
  | 0, _ => none
  | k + 1, f =>
    let rows := (d.rows f l m (norm3 (f.x.take 3) / 1000) tau).filter (fun r => r.sd.isNone)
    let h := rows.map (fun r => r.h.take 3)
    match minv (rowCov rows) with
    | none => none
    | some wi =>
      let hw := mmul rows.length (mtrans 3 h) wi
      match minv (mmul 3 hw h) with
      | none => none
      | some q =>
        let p := (vadd (f.x.take 3) (mvec q (mvec hw (rows.map (·.z))))).map sharp
        if k = 0 then some (p, q.map (fun r => r.map sharp)) else d.codeFix l m tau k { f with x := p ++ f.x.drop 3 }

/-- The filter of a first epoch (R194). -/
def Dev.startFilt (d : Dev) (l : List Obs) (m : Mat) (tau : Rat) (t : Int) : Option Filt :=
  let f0 : Filt := { t := t, x := vecOf 9 (fun _ => 0), cov := matOf 9 9 (fun _ _ => 0), sds := [], pivots := [] }
  (d.codeFix l m tau 8 f0).map (fun r =>
    let f : Filt := { f0 with
      x := r.1 ++ vecOf 6 (fun _ => 0)
      cov := matOf 9 9 (fun i j => if i < 3 ∧ j < 3 then mget r.2 i j else if i ≠ j then 0 else if i < 6 then 100 else 9) }
    (d.trackSds f l (norm3 r.1 / 1000) tau t).1)

/-- A candidate of the integer search (R200): its signal and pivot with their indices, and its float variance. -/
structure Cand where
  j  : Obs
  i  : Obs
  kj : Nat
  ki : Nat
  q  : Rat
deriving DecidableEq, Repr

/-- The double difference of a candidate in the float state. -/
def Cand.float (c : Cand) (f : Filt) : Rat := vget f.x (9 + c.kj) - vget f.x (9 + c.ki)

/-- Every double-difference ambiguity of the float solution. -/
def allDd (f : Filt) (l : List Obs) : List Cand :=
  [0, 1, 2].flatMap (fun grp => [0, 1, 2].flatMap (fun band =>
    match pivotOf f l grp band with
    | none => []
    | some i => (l.filter (fun o => o.group == grp && o.band == band && !(o.sys == i.sys && o.sat == i.sat))).filterMap (fun j =>
      match j.ph, i.ph, f.sdIdx j, f.sdIdx i with
      | some _, some _, some kj, some ki =>
        some { j := j, i := i, kj := kj, ki := ki
               q := mget f.cov (9 + kj) (9 + kj) + mget f.cov (9 + ki) (9 + ki) - 2 * mget f.cov (9 + kj) (9 + ki) }
      | _, _, _, _ => none)))

/-- Before by float variance: the one that R202 removes later. -/
def Cand.before (a b : Cand) : Bool :=
  decide (a.q < b.q) || (decide (a.q = b.q) && (decide (b.j.geo.elB < a.j.geo.elB)
    || (decide (a.j.geo.elB = b.j.geo.elB) && decide (a.j.sat < b.j.sat))))

/-- Insert by float variance. -/
def insertCand (c : Cand) : List Cand → List Cand
  | [] => [c]
  | x :: xs => if c.before x then c :: x :: xs else x :: insertCand c xs

/-- The candidate set (R200): above the fix mask, in lock at both ends for 2800:14; the 48 of smallest float variance. -/
def Dev.candidates (d : Dev) (f : Filt) (l : List Obs) : List Cand :=
  let ok (o : Obs) : Bool := decide (d.num 0x280008 < o.geo.elV ∧ d.num 0x280008 < o.geo.elB)
    && decide (d.nat 0x280014 ≤ o.lockV ∧ d.nat 0x280014 ≤ o.lockB)
  (((allDd f l).filter (fun c => ok c.j && ok c.i)).foldl (fun acc c => insertCand c acc) []).take 48

/-- The covariance of candidates' double differences, and that of the first nine states with them. -/
def candCov (f : Filt) (cs : List Cand) : Mat × Mat :=
  let at_ (r : List Rat) (c : Cand) : Rat := vget r (9 + c.kj) - vget r (9 + c.ki)
  let cols (r : List Rat) : List Rat := cs.map (at_ r)
  let all := f.cov.map cols
  ((cs.map (fun c => vsub ((all[9 + c.kj]?).getD []) ((all[9 + c.ki]?).getD []))), all.take 9)

/-- What a passing attempt gives: the candidates fixed, their integers, the ratio × 10, and whether the whole set is fixed. -/
structure Passed where
  cs    : List Cand
  ints  : List Int
  ratio : Nat
  whole : Bool
deriving DecidableEq, Repr

/-- The attempts of R201 and R202: the first that passes, within 8 attempts, the minimum of candidates and the node bound of R177. -/
def Dev.attempts (d : Dev) (f : Filt) : Nat → Nat → Bool → List Cand → Option Passed
  | 0, _, _, _ => none
  | k + 1, nodes, whole, cs =>
    if cs.length < d.nat 0x28000B then none
    else match intSearch (cs.map (fun c => c.float f)) (candCov f cs).1 nodes with
      | none => none
      | some r =>
        if r.o1 * d.nat 0x280009 ≤ r.o2 * 100 ∧ (d.num 0x28000A : Rat) ≤ r.rate * 10000 then
          some { cs := cs, ints := r.best, ratio := if r.o1 = 0 then 255 else min 255 (r.o2 / r.o1 * 10).floor.toNat, whole := whole }
        else d.attempts f k r.left false cs.dropLast

/-- The fixed solution of R203: the nine states and their covariance, where every fixed phase residual lies within 4 sigma. -/
def Dev.fixedSolution (d : Dev) (f : Filt) (p : Passed) (m : Mat) (len tau : Rat) : Option (List Rat × Mat) :=
  let q := candCov f p.cs
  (minv q.1).bind (fun qi =>
    let diff := vsub (p.cs.map (fun c => c.float f)) (p.ints.map (fun (n : Int) => (n : Rat)))
    let g := mmul p.cs.length q.2 qi
    let x := vsub (f.x.take 9) (mvec g diff)
    let cov := msub ((f.cov.take 9).map (fun r => r.take 9)) (mulT g q.2)
    let r := ecefOf d.bench m (x.take 3)
    let good := (p.cs.zip p.ints).all (fun c =>
      let rb := d.baseCentre c.1.j.band
      match c.1.j.ph, c.1.i.ph with
      | some pj, some pi_ =>
        -- the pivot's ambiguity is the float one; the integer stands for the difference
        let lamI := c.1.i.lam
        let nI := vget f.x (9 + c.1.ki)
        let e := c.1.j.lam * (pj.1 - pj.2) - lamI * (pi_.1 - pi_.2) - (c.1.j.rho r rb - c.1.i.rho r rb)
          - (c.1.j.lam * ((c.2 : Rat) + nI) - lamI * nI)
        decide (e * e ≤ 16 * (d.sdVar true c.1.j len tau + d.sdVar true c.1.i len tau))
      | _, _ => false)
    if good then some (x, cov) else none)

end Sys2Proof.Machine
end

