-- ==== Sys2Proof/Machine/Fixes.lean ====
section
/-!
DEFINITION. The fleet positioning engine (R176 to R217): lanes and groups, slot states and readiness, intake, pairing, the token
bucket and shedding, the fix record with its zone result and track position, and re-convergence.
-/
namespace Sys2Proof.Machine

/-- Groups in service, lowest first (R178). -/
def Dev.groupsUp (d : Dev) : List Nat := (List.range 8).filter (fun g => !d.eng_.groupsOut.contains g)

/-- Groups the active envelope allows (R178). -/
def Dev.envGroups (d : Dev) : Nat :=
  match d.nat 0x204002 with
  | 0 => 8
  | 1 => 6
  | _ => 4

/-- Groups in use (R178). -/
def Dev.groupsUsed (d : Dev) : List Nat := d.groupsUp.take d.envGroups

/-- Effective capacity in epochs per second (R178). -/
def Dev.capacity (d : Dev) : Nat := 320 * d.groupsUsed.length

/-- Report rate of a slot in epochs per second (R180). -/
def Dev.reportHz (d : Dev) (n : Nat) : Nat :=
  match d.nat (slotKey n 0 4) with
  | 0 => 1 | 1 => 2 | 2 => 5 | 3 => 10 | 4 => 20 | _ => 40

/-- Status of the engine: groups in use, capacity, configured load, base history, pending epochs (R217). -/
def Dev.engStatus (d : Dev) : Dev :=
  let load := (d.slotsOn.map d.reportHz).sum
  let pend := (d.eng_.wait.filter (fun e => e.stage == 2)).length
  (((d.setN 0x280101 (d.groupsUsed.length : Nat)).setN 0x280102 (d.capacity : Nat)).setN 0x280103 (load : Nat)).setN 0x28010C (pend : Nat)

/-- The effective transmit phase of a slot of rank `k` (R182). -/
def Dev.txPhase (d : Dev) (n k : Nat) : Nat :=
  let set := d.nat (slotKey n 0 5)
  if set ≠ 0xFFFF then set else k * 10000 / (320 * d.envGroups) % (10000 / d.reportHz n)

/-- The phases are computed again (R182). -/
def Dev.txPhases (d : Dev) : Dev :=
  let on := d.slotsOn
  ((on.zip (List.range on.length)).foldl (fun (d : Dev) x => d.setN (slotKey x.1 1 9) (d.txPhase x.1 x.2 : Nat)) d).engStatus

/-- A slot changes state (R183, R185): 193 on entering READY, 194 with the cause on leaving it, then 192; the fleet engines follow. -/
def Dev.slotTo (d : Dev) (n st cause : Nat) : Dev :=
  let old := d.slotState n
  if old = st then d
  else
    let d := (d.setN (slotKey n 1 1) (st : Nat)).setSlot n { d.slot n with stateAt := d.clk.now }
    let d := if old = 3 then ((d.inc16 (slotKey n 1 0x0B)).setN (slotKey n 1 3) 0).raise 194 (n * 256 + cause) else d
    let d := if st = 3 then d.raise 193 n else d
    let d := d.raise 192 (n * 256 + st)
    if st = 3 then d.carReady n true else if old = 3 then d.carReady n false else d

/-- The state of a slot is discarded, with the epochs that wait for it (R184). -/
def Dev.clearSlot (d : Dev) (n : Nat) : Dev :=
  let x := d.slot n
  let d := d.setSlot n { slot0 with stateAt := x.stateAt }
  let d := { d with eng_ := { d.eng_ with wait := d.eng_.wait.filter (fun e => e.slot != n) } }
  ((d.setN (slotKey n 1 2) 0).setN (slotKey n 1 3) 0).setN (slotKey n 1 0x0A) 0

/-- A commit instant enables a slot (R184). -/
def Dev.enableSlot (d : Dev) (n : Nat) : Dev := if d.slotState n = 0 then (d.clearSlot n).slotTo n 1 6 else d

/-- A commit instant disables a slot (R184): an epoch in progress completes, and its fix is discarded. -/
def Dev.disableSlot (d : Dev) (n : Nat) : Dev :=
  let busy := d.eng_.busy.map (fun (x : Nat × Epoch) => (x.1, if x.2.slot = n then { x.2 with void := true } else x.2))
  if d.slotState n = 0 then d else (({ d with eng_ := { d.eng_ with busy := busy } } : Dev).clearSlot n).slotTo n 0 6

/-- An event limited in rate by a model time. -/
def dueAfter (last : Option Nat) (now ticks : Nat) : Bool :=
  match last with
  | some t => decide (t + ticks ≤ now)
  | none => true

/-- An epoch is rejected (R189). -/
def Dev.reject (d : Dev) (n reason : Nat) : Dev :=
  let d := d.inc32 0x280106
  if reason = 9 then d
  else
    let x := d.slot n
    let d := (d.inc32 (slotKey n 1 6)).setN (slotKey n 1 8) (reason : Nat)
    if dueAfter x.rejectAt d.clk.now secT then (d.setSlot n { x with rejectAt := some d.clk.now }).raise 198 (n * 256 + reason) else d

/-- Fleet time as GPS time in ns (R189). -/
def Dev.gpsNow (d : Dev) : Int := (d.fleetNs : Int) - 19000000000

/-- The GPS time in ns of an MSM epoch (R188): its time of week placed within 3.5 days of fleet time. -/
def Dev.epochTime (d : Dev) (sys tow : Nat) : Int :=
  let w : Int := 604800000
  let t : Int := (tow : Int) + (if sys = 2 then 14000 else 0)
  let now := d.gpsNow / 1000000 - 315964800000
  let k := (now - t + w / 2) / w
  (t + k * w + 315964800000) * 1000000

/-- The system of an accepted message number (R186). -/
def msmSystem (num : Nat) : Option Nat :=
  if 1074 ≤ num ∧ num ≤ 1077 then some 0 else if 1094 ≤ num ∧ num ≤ 1097 then some 1
  else if 1114 ≤ num ∧ num ≤ 1117 then some 3 else if 1124 ≤ num ∧ num ≤ 1127 then some 2 else none

/-- Order of service (R209): conforming first, then the oldest epoch, then the lower slot. -/
def Epoch.before (a b : Epoch) : Bool :=
  (a.conform && !b.conform) || (a.conform == b.conform && (decide (a.tv < b.tv) || (decide (a.tv = b.tv) && decide (a.slot < b.slot))))

/-- The epoch that comes first among some. -/
def firstOf : List Epoch → Option Epoch
  | [] => none
  | e :: es => some (es.foldl (fun m x => if x.before m then x else m) e)

/-- The settings that an epoch of slot `n` is computed under (R46, R216): those of 2800 and the slot's own. -/
def epochKeys (n : Nat) : List Key := (List.range 20).map (fun i => 0x280001 + i) ++ (List.range 10).map (fun i => slotKey n 0 (1 + i))

/-- A group begins an epoch with the settings of now. -/
def Dev.begin_ (d : Dev) (e : Epoch) : Epoch := { e with set := (epochKeys e.slot).map (fun k => (k, d.get k)) }

/-- The device as an epoch in progress sees it: with the settings it was begun with. -/
def Dev.asBegun (d : Dev) (e : Epoch) : Dev := e.set.foldl (fun (d : Dev) x => d.put x.1 x.2) d

/-- Free groups take the epochs that wait (R176, R209). -/
def Dev.giveGroups (d : Dev) : Dev :=
  (d.groupsUsed.foldl (fun (d : Dev) g =>
    if (tabGet d.eng_.busy g).isSome then d
    else match firstOf (d.eng_.wait.filter (fun e => e.stage == 2)) with
      | none => d
      | some e =>
        { d with eng_ := { d.eng_ with busy := tabPut d.eng_.busy g (d.begin_ e), wait := d.eng_.wait.filter (fun x => x != e) } }) d).engStatus

/-- A slot returns to WAITING with nothing held (R184): a changed vehicle ID, slot command 1. Its epoch in progress is state, too, and frees its
group. -/
def Dev.resetSlot (d : Dev) (n : Nat) : Dev :=
  let st := d.slotState n
  if st = 0 then d
  else
    let busy := d.eng_.busy.filter (fun (x : Nat × Epoch) => x.2.slot != n)
    ((({ d with eng_ := { d.eng_ with busy := busy } } : Dev).clearSlot n).slotTo n 1 6).giveGroups

/-- What pairing says of an epoch (R191). -/
inductive Pairing where
  | with_ (b : BaseRec) (extra : Bool)
  | hold
  | none
deriving DecidableEq, Repr

/-- The newest base record of some. -/
def newest : List BaseRec → Option BaseRec
  | [] => .none
  | b :: bs => some (bs.foldl (fun m x => if m.tag < x.tag then x else m) b)

/-- Pair an epoch by the first rule that applies (R191). The Wait rule looks at the base epoch nearest to the vehicle's. -/
def Dev.pairing (d : Dev) (tv : Int) : Pairing :=
  let tol : Int := d.num 0x280001 * 1000
  let kept := d.eng_.bases.filter (fun b => decide (d.clk.now < b.at_ + 2 * secT))
  match kept.find? (fun b => decide (tv - b.tag ≤ tol ∧ b.tag - tv ≤ tol)) with
  | some b => .with_ b false
  | none =>
    let p := measPeriod (d.nat 0x247001)
    let at_ := tv + 19000000000 + d.eng_.gnssC
    let inst := (at_.toNat + p / 2) / p * p
    let tag := (inst : Int) - 19000000000 - d.eng_.gnssC
    let later := match newest kept with
      | some b => decide (b.tag < tv)
      | none => true
    let open_ := match d.rx.last with
      | some m => decide (m.time < inst)
      | none => true
    if later && open_ && decide (tv - tag ≤ tol ∧ tag - tv ≤ tol) && decide (d.fleetNs < inst + 2000000) then .hold
    else match newest (kept.filter (fun b => decide (b.tag < tv))) with
      | some b => if d.nat 0x280002 ≠ 0 ∧ tv - b.tag ≤ d.num 0x280002 * 1000000 then .with_ b true else .none
      | none => .none

/-- An epoch is paired and so accepted, held or rejected (R189, R191). One that waited for a record has its completion as reference (R209). -/
def Dev.pairEpoch (d : Dev) (e : Epoch) : Dev :=
  match d.pairing e.tv with
  | .with_ b x =>
    let d := d.setSlot e.slot { d.slot e.slot with lastTv := some e.tv }
    let e := { e with stage := 2, base := some b, extra := x, refAt := if e.stage = 1 then max e.refAt b.at_ else e.refAt }
    ({ d with eng_ := { d.eng_ with wait := d.eng_.wait ++ [e] } }).giveGroups
  | .hold => { d with eng_ := { d.eng_ with wait := d.eng_.wait ++ [{ e with stage := 1 }] } }
  | .none => d.reject e.slot 7

/-- Tokens in the bucket now, in ticks × epochs per second (R208). -/
def Dev.tokensNow (d : Dev) : Nat :=
  min (d.groupsUsed.length * secT) (d.eng_.tokens + (d.clk.now - d.eng_.tokenAt) * d.capacity)

/-- An epoch completes intake (R188, R208): excess where it comes less than 0.9 periods after the last; else it conforms where a
token is present, and takes it. -/
def Dev.completeEpoch (d : Dev) (e : Epoch) (partial_ : Bool) : Dev :=
  let n := e.slot
  let x := d.slot n
  let excess := match x.lastTv with
    | some t => decide ((e.tv - t) * 10 * d.reportHz n < 9000000000)
    | none => false
  let tok := d.tokensNow
  let conform := !excess && decide (secT ≤ tok)
  let d := { d with eng_ := { d.eng_ with tokens := if conform then tok - secT else tok, tokenAt := d.clk.now } }
  let d := if excess then
      let d := d.inc32 (slotKey n 1 7)
      if dueAfter x.excessAt d.clk.now (10 * secT) then (d.setSlot n { d.slot n with excessAt := some d.clk.now }).raise 197 n else d
    else d
  d.pairEpoch { e with partial_ := partial_, excess := excess, conform := conform }

/-- The epoch a slot is collecting (R188). -/
def Dev.collecting (d : Dev) (n : Nat) : Option Epoch := d.eng_.wait.find? (fun e => e.slot == n && e.stage == 0)

/-- Take the epoch a slot is collecting out of the engine. -/
def Dev.uncollect (d : Dev) (n : Nat) : Dev :=
  { d with eng_ := { d.eng_ with wait := d.eng_.wait.filter (fun e => !(e.slot == n && e.stage == 0)) } }

/-- Why a new epoch is rejected at intake (R189): reasons 4, 5, 6 and 8. -/
def Dev.epochReason (d : Dev) (n : Nat) (tv : Int) : Nat :=
  let x := d.slot n
  let old := match newest d.eng_.bases with
    | some b => decide (tv + 2000000000 < b.tag)
    | none => false
  let dup := (match x.lastTv with
    | some t => decide (tv ≤ t)
    | none => false) || d.eng_.wait.any (fun e => e.slot == n && e.stage == 1 && decide (tv ≤ e.tv))
  if d.gpsNow + 1000000000 < tv then 4 else if old then 5 else if dup then 6 else if d.slotState n = 5 then 8 else 0

/-- One MSM reaches the intake of a slot (R186, R188): a later epoch completes the one being collected, and a clear multiple message bit completes
its own. `bad` lists the epochs that the telegram has had rejected: one is rejected once, however many of its messages come (R189). -/
def Dev.takeMsm (d : Dev) (n arrived : Nat) (bad : List Int) (m : Msm) : Dev × List Int :=
  match msmSystem m.num with
  | none => (d, bad)
  | some sys =>
    let tv := d.epochTime sys m.tow
    let cells := ((m.cells.map (fun c => { c with sys := sys })).filter (fun c => (sigOfObs sys c.obs).isSome))
    let d := match d.collecting n with
      | some e => if e.tv < tv then (d.uncollect n).completeEpoch { e with refAt := arrived } true else d
      | none => d
    let e? : Except Nat Epoch := match d.collecting n with
      | some e => if e.tv = tv then .ok { e with cells := e.cells ++ cells, refAt := arrived } else .error 6
      | none =>
        match d.epochReason n tv with
        | 0 => .ok { slot := n, tv := tv, partial_ := false, excess := false, conform := false, again := false, refAt := arrived, stage := 0
                     base := none, extra := false, firstAt := d.clk.now, cells := cells }
        | r => .error r
    match e? with
    | .error r => if bad.contains tv then (d, bad) else (d.reject n r, tv :: bad)
    | .ok e =>
      let d := d.uncollect n
      if bad.contains tv then (d, bad)
      else if m.more then ({ d with eng_ := { d.eng_ with wait := d.eng_.wait ++ [e] } }, bad)
      else
        let d' := d.completeEpoch e false
        (d', if d'.nat 0x280106 = d.nat 0x280106 then bad else tv :: bad)

/-- A core pops an observation carrier of a slot's intake queue, checks it and takes its MSMs (R186 to R189, R328, R334). -/
def observationIntake (n addr port : Nat) (b : List Byte) (ago : Nat) (cells : List (List VCell)) (d : Dev) : Dev :=
  let t := teleOf addr port b
  let msms := carrierMsms b cells
  d.when (d.up 5 && d.up 8) (fun d =>
    let d := (d.pop (d.nat (slotKey n 0 3))).1
    match d.checkTele t (fun _ => none) with
    | .error r => d.dropTele t r
    | .ok m => if t.typ ≠ 1 then d else
      let d := d.acceptTele t m
      if !d.slotOn n then d.reject n 9
      else if t.vehicle ≠ d.nat (slotKey n 0 2) then d.reject n 1
      else if !msms.any (fun x => (msmSystem x.num).isSome) then d.reject n 2
      else if msms.any (fun x => (msmSystem x.num).isSome && !x.ok) then d.reject n 3
      else (msms.foldl (fun (acc : Dev × List Int) x => acc.1.takeMsm n (d.clk.now - ago) acc.2 x) (d, [])).1)

def execObservationIntake (dt : Nat) (slot : Fin 128) (addr port : Nat) (telegram : List Byte) (ago : Nat) (cells : List (List VCell))
    (s : State) : Out :=
  onDev s dt (observationIntake slot.val addr port telegram ago cells)

/-- 20 ms after its first MSM an epoch completes with PARTIAL_INPUT (R188). -/
def epochCompletionTimeout (n : Nat) (d : Dev) : Dev :=
  match d.collecting n with
  | none => d
  | some e => d.when (d.up 5 && decide (e.firstAt + msTicks 20 ≤ d.clk.now)) (fun d => (d.uncollect n).completeEpoch e true)

def execEpochCompletionTimeout (dt : Nat) (slot : Fin 128) (s : State) : Out := onDev s dt (epochCompletionTimeout slot.val)

/-- An epoch held for a base record is paired again (R191). -/
def pairingWaitExpiry (n : Nat) (d : Dev) : Dev :=
  match d.eng_.wait.find? (fun e => e.slot == n && e.stage == 1) with
  | none => d
  | some e => d.when (d.up 5) (fun d =>
      ({ d with eng_ := { d.eng_ with wait := d.eng_.wait.filter (fun x => x != e) } }).pairEpoch e)

def execPairingWaitExpiry (dt : Nat) (slot : Fin 128) (s : State) : Out := onDev s dt (pairingWaitExpiry slot.val)

/-- An epoch is shed (R210). -/
def Dev.shed (d : Dev) (e : Epoch) : Dev :=
  let x := d.slot e.slot
  let l := (d.clk.now :: d.eng_.shedNow).filter (fun t => decide (d.clk.now < t + secT))
  let d := { d with eng_ := { d.eng_ with wait := d.eng_.wait.filter (fun y => y != e), shedNow := l } }
  let d := ((d.setSlot e.slot { x with shed := x.shed + 1 }).inc32 (slotKey e.slot 1 5)).inc32 0x280105
  if dueAfter d.eng_.shedAt d.clk.now secT then
    ({ d with eng_ := { d.eng_ with shedAt := some d.clk.now } }).raise 196 (min l.length 65535)
  else d

/-- The epoch shed first on overflow: the oldest, excess before others of its age (R210). -/
def shedFirst : List Epoch → Option Epoch
  | [] => none
  | e :: es => some (es.foldl (fun m x => if x.tv < m.tv ∨ (x.tv = m.tv ∧ x.excess ∧ !m.excess) then x else m) e)

/-- What R210 sheds: overflow beyond four times the groups in use, and non-conforming epochs that have waited 25 ms. -/
def epochShed (d : Dev) : Dev :=
  d.when (d.up 5) (fun d =>
    let loose (d : Dev) : List Epoch := d.eng_.wait.filter (fun e => e.stage == 2 && !e.conform)
    let beyond := (loose d).length - 4 * d.groupsUsed.length
    let d := (List.range beyond).foldl (fun (d : Dev) _ => match shedFirst (loose d) with
      | some e => d.shed e
      | none => d) d
    (((loose d).filter (fun e => decide (e.refAt + msTicks 25 ≤ d.clk.now))).foldl Dev.shed d).engStatus)

def execEpochShed (dt : Nat) (s : State) : Out := onDev s dt epochShed

/-- A lane is retired and its group's reserve brought in, or its group leaves service (R179, R547). -/
def Dev.retireLane (d : Dev) (lane cause : Nat) : Dev :=
  let g := lane / 17
  let e := d.eng_
  if e.lanes.contains lane then d
  else
    let gone := (e.lanes.filter (fun l => decide (l / 17 = g))).length
    let d := { d with eng_ := { e with lanes := e.lanes ++ [lane] } }
    let b := d.oct 0x28010B
    let d := d.setO 0x28010B (b.mapIdx (fun i x => if i = lane / 8 then x ||| BitVec.ofNat 8 (2 ^ (lane % 8)) else x))
    let left := d.nat 0x28010A
    if gone = 0 ∧ lane % 17 = 16 then ((d.setN 0x28010A (left - 1 : Nat)).setN 0x484003 (d.nat 0x484003 - 1 : Nat)).retire 3 lane cause 5 none
    else if gone = 0 then ((d.setN 0x28010A (left - 1 : Nat)).retire 3 lane cause 5 (some (g * 17 + 16))).raise 202 lane
    else if e.groupsOut.contains g then d.retire 3 lane cause 5 none
    else
      let d := d.retire 3 lane cause 5 none
      ({ d with eng_ := { d.eng_ with groupsOut := d.eng_.groupsOut ++ [g] } }).raise 203 g

/-- The epoch a group works on is abandoned and computed again from its start: on its group, or on another where it left service (R179). -/
def Dev.recompute (d : Dev) (g : Nat) : Dev :=
  match tabGet d.eng_.busy g with
  | none => d.engStatus
  | some e =>
    let d := d.raise 204 e.slot
    let e := { e with again := true }
    if d.eng_.groupsOut.contains g then
      ({ d with eng_ := { d.eng_ with busy := tabDel d.eng_.busy g, wait := e :: d.eng_.wait } }).giveGroups
    else ({ d with eng_ := { d.eng_ with busy := tabPut d.eng_.busy g (d.begin_ e) } }).engStatus

/-- A lane leaves service by a fault, a test or wear, all in the same way (R179). -/
def Dev.loseLane (d : Dev) (lane cause : Nat) : Dev :=
  if d.eng_.lanes.contains lane then d else (d.retireLane lane cause).recompute (lane / 17)

/-- A lane residue check fails (R179). -/
def laneFault (lane : Nat) (d : Dev) : Dev := d.when (d.up 5) (fun d => d.loseLane lane 4)

def execLaneFault (dt : Nat) (lane : Fin 136) (s : State) : Out := onDev s dt (laneFault lane.val)

/-- No fix for the stale timeout (R184, R211). -/
def slotStale (n : Nat) (d : Dev) : Dev :=
  let x := d.slot n
  let st := d.slotState n
  let since := max (x.lastFix.getD 0) (if st = 1 then x.stateAt else 0)
  d.when (d.up 5 && decide (1 ≤ st ∧ st ≤ 3) && decide (since + msTicks (d.nat 0x280012) ≤ d.clk.now)) (fun d =>
    let d := d.setSlot n { x with gapAt := x.gapAt.or (x.lastFix.or (some d.clk.now)) }
    (d.slotTo n 4 5).raise 207 n)

def execSlotStale (dt : Nat) (slot : Fin 128) (s : State) : Out := onDev s dt (slotStale slot.val)

/-- No base record for 2 s: every enabled slot is SUSPENDED, and 199 is raised (R184). R185 names no cause for leaving READY this
way: a free value. -/
def slotSuspend (d : Dev) : Dev :=
  let quiet := match d.eng_.baseAt with
    | some t => decide (t + 2 * secT ≤ d.clk.now)
    | none => true
  let l := d.slotsOn.filter (fun n => decide (d.slotState n ≠ 0 ∧ d.slotState n ≠ 5))
  d.when (d.up 5 && quiet && !l.isEmpty) (fun d =>
    let d := l.foldl (fun (d : Dev) n =>
      let x := d.slot n
      let cause := d.freeN % 256
      ((d.used).setSlot n { x with gapAt := x.gapAt.or (x.lastFix.or (some d.clk.now)) }).slotTo n 5 cause) d
    d.raise 199 0)

/-- The gap of a slot in model ticks (R211). -/
def Dev.gap (d : Dev) (n : Nat) : Nat :=
  match (d.slot n).gapAt with
  | some t => d.clk.now - t
  | none => 0

/-- Base records again for 1 s (R184): CONVERGING, or WAITING where the integer retention has run out; the integers are dropped then, and the
position stays as a prior, which the next epoch's prediction widens by the noise of the gap (R211). -/
def slotResume (d : Dev) : Dev :=
  let back := match d.eng_.runAt, d.eng_.baseAt with
    | some r, some b => decide (r + secT ≤ d.clk.now ∧ d.clk.now < b + 2 * secT)
    | _, _ => false
  let l := d.slotsOn.filter (fun n => decide (d.slotState n = 5))
  d.when (d.up 5 && back && !l.isEmpty) (fun d =>
    let d := l.foldl (fun (d : Dev) n =>
      if d.nat 0x280013 * secT < d.gap n then (d.setSlot n { d.slot n with ambs := [] }).slotTo n 1 6 else d.slotTo n 2 6) d
    d.raise 200 0)

def execSlotSuspend (dt : Nat) (s : State) : Out := onDev s dt slotSuspend
def execSlotResume (dt : Nat) (s : State) : Out := onDev s dt slotResume

/-- The slot command 5003:01 (R184, R212): 1 resets the filter, 2 drops carried integers; other values change nothing. -/
def slotCommand (n : Nat) (v : DVal) (d : Dev) : Dev × Nat :=
  match v.int.toNat with
  | 1 => (d.resetSlot n, 0)
  | 2 =>
    let x := d.slot n
    (d.setSlot n { x with ambs := x.ambs.filter (fun a => !a.carried) }, 0)
  | _ => (d, 0)

def execSlotResetFilter (dt : Nat) (q : Req) (slot : Fin 128) (s : State) : Out :=
  onDev s dt (fun d => d.command q (0x5003 + 32 * slot.val) 1 [1] (slotCommand slot.val))
def execSlotDropCarried (dt : Nat) (q : Req) (slot : Fin 128) (s : State) : Out :=
  onDev s dt (fun d => d.command q (0x5003 + 32 * slot.val) 1 [2] (slotCommand slot.val))

/-- Nearest integer of a rational, ties away from zero (R218). -/
def roundAway (x : Rat) : Int := if x < 0 then -(-x + 1 / 2).floor else (x + 1 / 2).floor

/-- Millimetres of a length in m. -/
def mm (x : Rat) : Int := roundAway (x * 1000)

/-- Standard deviation in whole mm. -/
def sigmaMm (v : Rat) : Nat := if v ≤ 0 then 0 else (mm (rootR v)).toNat

/-- Protection levels of a covariance of the nine states (R207): rounded up to whole mm. -/
def Dev.levels (d : Dev) (cov : Mat) : Nat × Nat :=
  let e := mget cov 0 0
  let n := mget cov 1 1
  let en := mget cov 0 1
  let a := (e - n) / 2
  let h := rootR ((e + n) / 2 + rootR (a * a + en * en))
  let up (x : Rat) : Nat := (-((-x).floor)).toNat
  (up (h * d.nat 0x28000E * 10), up (rootR (mget cov 2 2) * d.nat 0x28000F * 10))

/-- What an epoch's computation gives. -/
structure FixRes where
  filt  : Filt
  sol   : Nat
  x     : List Rat
  cov   : Mat
  ambs  : List Amb
  ratio : Nat := 0
  total : Nat := 0
  fixed : Nat := 0
  slip  : Bool := false
  fail  : Bool := false
  /-- Held integers were released; carried ones were rejected. -/
  released : Bool := false
  dropped  : Bool := false
deriving DecidableEq, Repr

/-- An ambiguity record involves a signal. -/
def Amb.has (a : Amb) (o : Obs) : Bool := a.band == o.band && (a.sys * 256 + a.sat == o.code || a.pivot == o.code)

/-- Re-express integers against the pivots in force (R199): by subtraction, where the new pivot's integer is known. -/
def repivot (f : Filt) (l : List Obs) (ambs : List Amb) : List Amb :=
  ambs.filterMap (fun a =>
    match pivotOf f l (groupOf a.sys) a.band with
    | none => some a
    | some p =>
      if a.pivot = p.code then some a
      else match ambs.find? (fun b => b.band == a.band && b.pivot == a.pivot && b.sys * 256 + b.sat == p.code) with
        | none => none
        | some b =>
          if a == b then some { a with sys := a.pivot / 256, sat := a.pivot % 256, pivot := p.code, n := -b.n }
          else some { a with pivot := p.code, n := a.n - b.n })

/-- The pivots in force after an epoch. -/
def pivotsOf (f : Filt) (l : List Obs) : List (Nat × Nat × Nat × Nat) :=
  [0, 1, 2].flatMap (fun g => [0, 1, 2].filterMap (fun b => (pivotOf f l g b).map (fun o => (g, b, o.sys, o.sat))))

/-- Seeded integers are translated to this unit's base at its first epoch (R214). `old` gives the satellites at the Cairn's base epoch. A Cairn is
taken only where both units hold the same settings generation and so the same Benchmark (R487), and a pair shares its antennas through splitters,
so that the first condition of R214 holds of every Cairn that seeds a slot. -/
def Dev.translate (d : Dev) (x : Slot) (l : List Obs) (old : List SatGeo) (b : BaseRec) (a : Amb) : Option Amb :=
  if !a.seed then some a
  else
    let find (code : Nat) : Option Obs := l.find? (fun o => o.band == a.band && o.code == code)
    let was (code : Nat) : Option SatGeo := old.find? (fun g => g.sys * 256 + g.sat == code)
    match find (a.sys * 256 + a.sat), find a.pivot, was (a.sys * 256 + a.sat), was a.pivot with
    | some j, some i, some gj, some gi =>
      if j.ph.isNone ∨ i.ph.isNone then none
      else
        let rng (g : SatGeo) : Rat := norm3 (vsub [g.x, g.y, g.z] d.bench)
        let drho := (rng j.geo - rng i.geo) - (rng gj - rng gi)
        let sd := j.cb - i.cb
        let q := sd - a.sd - drho / j.lam
        let r := roundRat q
        let off := q - r
        let near := decide ((b.time : Int) - x.seedAt ≤ 5000000000 ∧ (x.seedAt : Int) - b.time ≤ 5000000000)
        if near ∧ off ≤ 15 / 100 ∧ -(15 / 100) ≤ off then some { a with n := a.n + r, sd := sd, seed := false } else none
    | _, _, _, _ => none

/-- R211: integers that survive a gap are carried: within the retention, with unbroken lock at the vehicle for it and its pivot. -/
def Dev.carry (d : Dev) (n : Nat) (l : List Obs) (ambs : List Amb) : List Amb :=
  let gap := d.gap n
  if (d.slot n).gapAt = none then ambs
  else if d.nat 0x280013 * secT < gap then []
  else
    let locked (band code : Nat) : Bool := l.any (fun o => o.band == band && o.code == code && decide (gap ≤ o.lockV * 1250000))
    (ambs.filter (fun a => locked a.band (a.sys * 256 + a.sat) && locked a.band a.pivot)).map (fun a =>
      { a with carried := true, held := false, run := 0 })

/-- A filter from the prior of a Cairn (R214), at the Cairn's instant in GPS time, from where it is predicted; at `t` where the Cairn gives none. The
variances of velocity and acceleration are those of R194: R214 gives none (log 78). -/
def Slot.prior (x : Slot) (t : Int) : Option Filt :=
  if x.gapAt.isSome ∧ x.sigE ≠ 0 then
    let v (i : Nat) : Rat := (match i with
      | 0 => (x.e : Rat) | 1 => x.n | 2 => x.u | 3 => x.ve | 4 => x.vn | 5 => x.vu | _ => 0) / 1000
    let s (i : Nat) : Rat := match i with
      | 0 => ((x.sigE : Rat) / 1000) ^ 2 | 1 => ((x.sigN : Rat) / 1000) ^ 2 | 2 => ((x.sigU : Rat) / 1000) ^ 2
      | 3 => 100 | 4 => 100 | 5 => 100 | _ => 9
    some { t := if x.seedAt = 0 then t else (x.seedAt : Int) - 19000000000, x := vecOf 9 v, cov := matOf 9 9 (fun i j => if i = j then s i else 0), sds := [], pivots := [] }
  else none

/-- The integers of an accepted fix against those recorded (R204): equal ones count on, and are held at 2800:0C. The second part says that a held
integer has given way to another. -/
def Dev.countFix (d : Dev) (ambs : List Amb) (p : Passed) : List Amb × Bool :=
  let count := d.nat 0x28000C
  let same (a : Amb) (c : Cand) : Bool := a.band == c.j.band && a.sys == c.j.sys && a.sat == c.j.sat && a.pivot == c.i.code
  let fresh := (p.cs.zip p.ints).map (fun c =>
    let old := ambs.find? (fun a => same a c.1 && a.n == c.2)
    let run := min ((old.elim 0 (·.run)) + 1) 255
    let a : Amb := { sys := c.1.j.sys, band := c.1.j.band, sat := c.1.j.sat, pivot := c.1.i.code, n := c.2, sd := c.1.j.cb - c.1.i.cb, run := run
                     held := old.elim false (·.held) || decide (count ≠ 0 ∧ count ≤ run), carried := old.elim false (·.carried), seed := false }
    a)
  let lost := ambs.any (fun a => a.held && (p.cs.zip p.ints).any (fun c => same a c.1 && a.n != c.2))
  (fresh ++ ambs.filter (fun a => (a.held || a.carried)
    && !fresh.any (fun b => b.band == a.band && b.sys == a.sys && b.sat == a.sat)), lost)

/-- What a fixed solution, or none, does with the integers (R204, R212). `some true` is an accepted fix, `some false` a failed
residual check. With the integers come whether held ones were released and whether carried ones were rejected. -/
def Dev.settleInts (d : Dev) (ambs : List Amb) (p : Option Passed) (good : Option Bool) : List Amb × Bool × Bool :=
  let carried := ambs.filter (·.carried)
  match p, good with
  | some p, some true =>
    let inSet (a : Amb) : Option Bool := ((p.cs.zip p.ints).find? (fun c => c.1.j.band == a.band && c.1.j.sys == a.sys && c.1.j.sat == a.sat
      && c.1.i.code == a.pivot)).map (fun c => c.2 == a.n)
    let wrong := carried.any (fun a => inSet a == some false)
    let all := carried.all (fun a => inSet a == some true)
    let ambs := if wrong then ambs.filter (fun a => !a.carried) else if all then ambs.map (fun a => { a with carried := false }) else ambs
    let r := d.countFix ambs p
    (r.1, r.2, wrong)
  | _, some false => (ambs.filter (fun a => !a.held && !a.carried), ambs.any (·.held), !carried.isEmpty)
  | _, _ => (ambs.filter (fun a => a.held || a.carried), false, false)

/-- The start of a slot's filter at a first epoch (R194). -/
def Dev.firstFix (d : Dev) (e : Epoch) (l : List Obs) (tau : Rat) : Option FixRes :=
  (d.startFilt l d.basis tau e.tv).map (fun f =>
    { filt := { f with pivots := pivotsOf f l, used := l.map (fun o => (o.sys, o.sat, o.sig)) }, sol := 1, x := f.x.take 9
      cov := (f.cov.take 9).map (fun r => r.take 9), ambs := [], total := (allDd f l).length })

/-- The float update of an epoch has been made: the integer search, the fixed solution and what they do with the integers (R200 to R204). -/
def Dev.resolve (d : Dev) (f : Filt) (l : List Obs) (len tau : Rat) (ambs : List Amb) (slip released : Bool) : FixRes :=
  let p := d.attempts f 8 262144 true (d.candidates f l)
  let fix := p.bind (fun p => d.fixedSolution f p d.basis len tau)
  let st := d.settleInts ambs p (if p.isNone then none else some fix.isSome)
  let isFixed (a : Amb) : Bool := fix.isSome && p.elim false (fun p => p.cs.any (fun c => a.band == c.j.band && a.sys == c.j.sys && a.sat == c.j.sat))
  let nFixed := if fix.isSome then p.elim 0 (fun p => p.cs.length) else 0
  let y := fix.getD (f.x.take 9, (f.cov.take 9).map (fun r => r.take 9))
  { filt := f, sol := if fix.isSome then (if p.elim false (·.whole) then 4 else 3) else 2, x := y.1, cov := y.2, ambs := st.1
    ratio := if fix.isSome then p.elim 0 (·.ratio) else 0, total := (allDd f l).length
    fixed := nFixed + (st.1.filter (fun a => a.held && !isFixed a)).length, slip := slip, released := released || st.2.1, dropped := st.2.2 }

/-- The computation of one epoch (R193 to R204, R211, R212, R214), under the settings it was begun with. None where a first epoch has no code
solution. With it comes the number of satellites used. -/
def Dev.solve (d : Dev) (e : Epoch) (b : BaseRec) (geo old : List SatGeo) : Option (FixRes × Nat) :=
  let x := d.slot e.slot
  let tau : Rat := if e.extra then ((e.tv - b.tag : Int) : Rat) / 1000000000 else 0
  let l := d.observations x.filt e b geo
  let sats := ((l.map Obs.code).eraseDups).length
  match x.filt.or (x.prior e.tv) with
  | none => (d.firstFix e l tau).map (fun r => (r, sats))
  | some f0 =>
    let dt : Rat := ((e.tv - f0.t : Int) : Rat) / 1000000000
    let f1 := { f0.predict dt ((d.num (slotKey e.slot 0 9) : Rat) / 1000000) ((d.num (slotKey e.slot 0 0x0A) : Rat) / 1000000) with
      t := e.tv, used := l.map (fun o => (o.sys, o.sat, o.sig)) }
    let len := norm3 (f1.x.take 3) / 1000
    let tr := d.trackSds f1 l len tau e.tv
    let f2 := tr.1
    let was := x.ambs.filter (fun a => a.held)
    let ambs := (d.carry e.slot l x.ambs).filterMap (d.translate x l old b)
    let lost (a : Amb) : Bool := tr.2.any (fun o => a.has o)
    let ambs := repivot f2 l (ambs.filter (fun a => !lost a))
    -- with 2800:0C at 0 nothing is held
    let ambs := if d.nat 0x28000C = 0 then ambs.map (fun a => { a with held := false }) else ambs
    let rel1 := decide (((ambs.filter (fun a => a.held)).length) < was.length) && decide (x.gapAt = none)
    let extra := ambs.filterMap (fun a =>
      if a.held then f2.pseudo a (1 / 10000) else if a.carried && a.run == 0 then f2.pseudo a (1 / 100) else none)
    let rows := d.rows f2 l d.basis len tau ++ extra
    let passes (k : Nat) (stat : Rat) : Bool := decide (1 ≤ chiTail k stat * (10 ^ d.nat 0x28000D : Nat))
    let res := residualTest passes (fun o => d.sdInit o len tau) 4 f2 rows []
    let gone := res.2.2
    let out (a : Amb) : Bool := gone.any (fun o => a.has o)
    let slip := !tr.2.isEmpty || !gone.isEmpty
    match res.2.1.bind (fun rows => res.1.update rows) with
    | none =>
      let f := { res.1 with pivots := pivotsOf res.1 l }
      some ({ filt := f, sol := 0, x := f.x.take 9, cov := (f.cov.take 9).map (fun r => r.take 9)
              ambs := ambs.filter (fun a => !a.held && a.carried && !out a), total := (allDd f l).length, slip := slip, fail := true
              released := rel1 || ambs.any (·.held) }, sats)
    | some f3 =>
      let rel2 := ambs.any (fun a => a.held && out a)
      let ambs := (ambs.filter (fun a => !out a)).map (fun a => if a.carried then { a with run := max a.run 1 } else a)
      some (d.resolve { f3 with pivots := pivotsOf f3 l } l len tau ambs slip (rel1 || rel2), sats)

/-- The zone result of a point for a slot's class (R237): its fields as numbers. -/
def Dev.zoneField (d : Dev) (n : Nat) (z : Zone) : Nat :=
  let barred := !z.mask.testBit (d.slotClass n)
  let b (c : Bool) (k : Nat) : Nat := if c then 2 ^ k else 0
  1 + b (z.noGo || z.outside) 2 + b barred 3 + b z.outside 4 + b z.alert 5 + z.plen * 256 + z.mask * 65536 + z.speed * 2 ^ 32 + z.id * 2 ^ 48

/-- The zone result of a fix acts (R237, R287): events on the first fix that carries a flag, stops of causes 3 and 4. -/
def Dev.zoneActs (d : Dev) (n : Nat) (z : Zone) : Dev :=
  let old := (d.car n).zone
  let noGo := z.noGo || z.outside
  let barred := !z.mask.testBit (d.slotClass n)
  let b (c : Bool) (k : Nat) : Nat := if c then 2 ^ k else 0
  let d := d.setCar n { d.car n with zone := b noGo 0 + b barred 1 + b z.outside 2 + b z.alert 3 }
  let d := (d.raiseIf (noGo && !old.testBit 0) 263 n).raiseIf (barred && !old.testBit 1) 264 n
  let d := (d.raiseIf (z.outside && !old.testBit 2) 265 n).raiseIf (z.alert && !old.testBit 3) 269 n
  let d := if noGo then d.stopCar n 3 else d
  if barred then d.stopCar n 4 else d

/-- Distance of a point from an arc in mm, its chainage, offset, and whether a velocity agrees with the arc's direction there. -/
def arcFoot (g : Graph) (i : Nat) (e n ve vn : Int) : Option (Int × Nat × Int × Bool) :=
  match g.arc i with
  | none => none
  | some a =>
    (g.line a).map (fun l =>
      let f := l.foot e n
      let p := l.at f.1
      let dx := (e : Rat) - p.1
      let dy := (n : Rat) - p.2.1
      (roundAway (rootR (dx * dx + dy * dy)), (roundAway (f.1 * (a.len : Rat))).toNat, roundAway f.2
        , decide ((0 : Rat) < p.2.2.1 * (ve : Rat) + p.2.2.2 * (vn : Rat))))

/-- The arc of a vehicle that holds no path (R230). -/
def Dev.nearestArc (d : Dev) (g : Graph) (n : Nat) (e nn ve vn : Int) : Option Nat :=
  let k := d.slotClass n
  let all := (List.range g.nArcs).filterMap (fun i =>
    if ((g.arc i).map (fun a => a.mask.testBit k)).getD false then (arcFoot g i e nn ve vn).map (fun f => (i, f)) else none)
  match all with
  | [] => none
  | x :: xs =>
    let best := xs.foldl (fun m y => min m y.2.1) x.2.1
    let near := all.filter (fun y => y.2.1 == best)
    let agree := near.filter (fun y => y.2.2.2.2)
    if 2 ≤ near.length ∧ 10000 ≤ ve * ve + vn * vn ∧ agree.length = 1 then (agree.head?).map (·.1) else (near.head?).map (·.1)

/-- The track position of a fix (R230, R231). -/
def Dev.placeOnTrack (d : Dev) (n : Nat) (e nn ve vn : Int) : Dev :=
  let g := d.graph
  let c := d.car n
  let arc : Option Nat := match c.path with
    | some p => some (p.arcAt g c.s.floor).1
    | none => d.nearestArc g n e nn ve vn
  match arc.bind (fun i => (arcFoot g i e nn ve vn).map (fun f => (i, f))) with
  | none => d.setCar n { c with track := none, offTrack := false }
  | some (i, f) =>
    let off := decide (d.nat 0x2C0002 < f.2.2.1.natAbs)
    (d.setCar n { c with track := some (i, f.2.1, f.2.2.1), offTrack := off }).raiseIf (off && !c.offTrack) 266 n

/-- Flags of a fix (R206). -/
def fixFlags (l : List (Bool × Nat)) : Nat := (l.map (fun x => if x.1 then 2 ^ x.2 else 0)).sum

/-- Why a fix does not qualify towards readiness (R185); 0 where it qualifies. -/
def Dev.fixCause (d : Dev) (n sol : Nat) (alert fail suspect again : Bool) : Nat :=
  if alert then 1 else if fail then 2 else if sol < d.nat (slotKey n 0 8) then 3 else if suspect then 4 else if again then 7 else 0

/-- The slot state follows a fix (R184, R185); `count` is the ready count. -/
def Dev.slotFollows (d : Dev) (n cause count : Nat) : Dev :=
  let d := if d.slotState n = 1 ∨ d.slotState n = 4 then d.slotTo n 2 6 else d
  if cause ≠ 0 then
    let d := if d.slotState n = 3 then d.slotTo n 2 cause else d
    d.setN (slotKey n 1 3) 0
  else
    let k := min (d.nat (slotKey n 1 3) + 1) 255
    let d := d.setN (slotKey n 1 3) (k : Nat)
    if d.slotState n = 2 ∧ count ≤ k then d.slotTo n 3 0 else d

/-- Saturate an integer to a signed 16-bit field. -/
def sat16 (x : Int) : Int := max (-32768) (min 32767 x)

/-- The 64 bytes of a fix record (R205). -/
def fixBytes (n st sol flags time seq : Nat) (p v : List Int) (sig : List Nat) (hpl vpl sats fixed total ratio age lat shed steps zone : Nat) :
    List Byte :=
  leBytes 2 0x5846 ++ [1] ++ leBytes 1 n ++ leBytes 1 sol ++ leBytes 1 st ++ leBytes 2 flags ++ time80Bytes time ++ leBytes 2 seq
    ++ p.flatMap (fun x => leBytes 4 (ofSigned 32 x)) ++ v.flatMap (fun x => leBytes 2 (ofSigned 16 (sat16 x)))
    ++ sig.flatMap (fun x => leBytes 2 (min x 65535)) ++ leBytes 2 (min hpl 65535) ++ leBytes 2 (min vpl 65535) ++ leBytes 1 (min sats 255)
    ++ leBytes 1 (min fixed 255) ++ leBytes 1 (min total 255) ++ leBytes 1 (min ratio 255) ++ leBytes 1 (min age 255) ++ leBytes 1 (min lat 255)
    ++ leBytes 1 (min shed 255) ++ leBytes 1 steps ++ leBytes 8 zone

/-- The fix is written (R205 to R207, R209, R237, R335): record, state, counts and telegram. Limits and counts are those the epoch was begun
with; the zone result is attached where the island of the zone trie takes the fix, else it completes not ready (R17). -/
def Dev.writeFix (d : Dev) (e : Epoch) (b : BaseRec) (r : FixRes) (sats : Nat) : Dev :=
  let n := e.slot
  let x := d.slot n
  let c := d.asBegun e
  let pl := c.levels r.cov
  let p := [0, 1, 2].map (fun i => mm (vget r.x i))
  let v := [3, 4, 5].map (fun i => mm (vget r.x i))
  let sig := [0, 1, 2].map (fun i => sigmaMm (mget r.cov i i))
  let waited := d.clk.now - e.refAt
  let late := decide (msTicks (if e.again then 12 else 8) < waited)
  let lat := waited / 125000
  let alert := decide (c.nat (slotKey n 0 6) < pl.1) || decide (c.nat (slotKey n 0 7) < pl.2)
  let carried := r.ambs.any (·.carried)
  let held := r.ambs.any (·.held)
  let seq := x.fixes + 1
  let g3 (l : List Int) (i : Nat) : Int := (l[i]?).getD 0
  let d := d.setSlot n { x with
    lastFix := some d.clk.now, fixes := seq, shed := 0, e := g3 p 0, n := g3 p 1, u := g3 p 2, ve := g3 v 0, vn := g3 v 1, vu := g3 v 2
    sigE := (sig[0]?).getD 0, sigN := (sig[1]?).getD 0, sigU := (sig[2]?).getD 0, base := b.time, ambs := r.ambs, filt := some r.filt
    gapAt := none }
  let d := ((d.raiseIf r.fail 201 n).raiseIf r.released 195 n).raiseIf r.dropped 206 n
  let d := d.slotFollows n (c.fixCause n r.sol alert r.fail b.suspect e.again) (c.nat (if carried then 0x280011 else 0x280010))
  let st := d.slotState n
  let flags := fixFlags [(b.suspect, 0), (e.extra, 1), (b.excluded, 2), (held, 3), (carried, 4), (r.fail, 5), (alert, 6), (!d.surveyed, 7)
    , (e.again, 8), (late, 9), (e.excess, 10), (r.slip, 11), (decide (b.timeSt = 4 ∨ b.timeSt = 5), 12), (decide (st = 3), 13), (e.partial_, 14)]
  let z := d.zoneAt (g3 p 0) (g3 p 1)
  let zone := if d.up 6 then d.zoneField n z else 0
  let time := ((b.time : Int) + (e.tv - b.tag)).toNat
  let rec_ := fixBytes n st r.sol flags time (seq % 65536) p v sig pl.1 pl.2 sats r.fixed r.total r.ratio
    ((e.tv - b.tag).natAbs / 1000000) lat x.shed (d.nat 0x220006 % 256) zone
  let d := ((((d.setO (slotKey n 2 1) rec_).setN (slotKey n 1 2) (r.sol : Nat)).inc32 (slotKey n 1 4)).setN (slotKey n 1 0x0A)
    (min r.filt.sds.length 255 : Nat))
  let times := (d.clk.now :: d.eng_.fixTimes).filter (fun t => decide (d.clk.now < t + secT))
  let d := ({ d with eng_ := { d.eng_ with fixTimes := times } }).setN 0x280104 (times.length : Nat)
  let d := if e.conform then
      let peak := min (waited / 12500) 65535
      let d := if d.nat 0x280107 < peak then d.setN 0x280107 (peak : Nat) else d
      if late then (d.inc32 0x280108).raise 205 (min lat 255) else d
    else d
  let d := if d.up 6 then (d.zoneActs n z).placeOnTrack n (g3 p 0) (g3 p 1) (g3 v 0) (g3 v 1) else d.notReady 6
  if d.reachQ n then
    let c := d.car n
    (d.setCar n { c with seqFix := (c.seqFix + 1) % 2 ^ 32 }).tell n .fix c.seqFix (rec_.map (fun y => (y.toNat : Int)))
  else d.unsent n true

/-- A group completes its epoch (R176, R205): the fix is written unless the slot has been disabled; the group takes the next. -/
def fixWrite (g : Nat) (geo seedGeo : List SatGeo) (d : Dev) : Dev :=
  d.when (d.up 5) (fun d =>
    match tabGet d.eng_.busy g with
    | none => d
    | some e =>
      let d := { d with eng_ := { d.eng_ with busy := tabDel d.eng_.busy g } }
      let d := match e.base with
        | none => d
        | some b =>
          if d.slotState e.slot = 0 ∨ e.void then d
          else match (d.asBegun e).solve e b geo seedGeo with
            | none => d
            | some r => d.writeFix e b r.1 r.2
      d.giveGroups)

def execFixWrite (dt : Nat) (group : Fin 8) (geo seedGeo : List SatGeo) (s : State) : Out :=
  onDev s dt (fixWrite group.val geo seedGeo)

/-- Rotate the first nine entries of a vector by blocks of three. -/
def turn9 (r : Mat) (v : List Rat) : List Rat :=
  mvec r (v.take 3) ++ mvec r ((v.drop 3).take 3) ++ mvec r ((v.drop 6).take 3) ++ v.drop 9

/-- The grid has moved from an old Benchmark and basis to those in force (R215, R221): the position, velocity and acceleration of every enabled slot
follow, those of a prior without a filter alike; the integers are kept. -/
def Dev.regrid (d : Dev) (bench : List Rat) (m : Mat) : Dev :=
  let m' := d.basis
  let r := mulT m' m
  let off := mvec m' (vsub bench d.bench)
  let place (v : List Rat) : List Rat := vadd ((turn9 r v).take 3) off ++ (turn9 r v).drop 3
  d.slotsOn.foldl (fun (d : Dev) n =>
    let x := d.slot n
    let now := x.filt.elim (place ([x.e, x.n, x.u, x.ve, x.vn, x.vu, 0, 0, 0].map (fun (i : Int) => (i : Rat) / 1000))) (fun f => place f.x)
    let filt := x.filt.map (fun f =>
      let k := f.x.length
      ({ f with x := place f.x, cov := mtrans k ((mtrans k (f.cov.map (turn9 r))).map (turn9 r)) } : Filt))
    if x.filt.isNone ∧ x.sigE = 0 then d
    else d.setSlot n { x with filt := filt, e := mm (vget now 0), n := mm (vget now 1), u := mm (vget now 2), ve := mm (vget now 3)
                              vn := mm (vget now 4), vu := mm (vget now 5) }) d

/-- A change of the grid ends readiness with cause 6 (R215, R221). -/
def Dev.gridChanged (d : Dev) : Dev :=
  d.slotsOn.foldl (fun (d : Dev) n => if d.slotState n = 3 then d.slotTo n 2 6 else d.setN (slotKey n 1 3) 0) d

/-- The position engine starts or has recovered (R184, R213): bases and epochs are gone. A slot with a checkpoint within 2800:13
resumes from it with its integers carried over the gap; any other enabled slot is WAITING. -/
def Dev.startEngine (d : Dev) : Dev :=
  let d := { d with eng_ := { d.eng_ with
    busy := [], wait := [], bases := [], baseAt := some d.clk.now, runAt := none, tokens := 0, tokenAt := d.clk.now, fixTimes := [] } }
  let d := d.slotsOn.foldl (fun (d : Dev) n =>
    let x := d.slot n
    let at_ := x.gapAt.or x.lastFix
    let fresh := match at_ with
      | some t => decide (d.clk.now ≤ t + d.nat 0x280013 * secT) && (x.filt.isSome || decide (x.sigE ≠ 0))
      | none => false
    if fresh then (d.setSlot n { x with gapAt := at_ }).slotTo n 2 6 else (d.clearSlot n).slotTo n 1 6) d
  (d.setN 0x280109 0).txPhases

end Sys2Proof.Machine
end

