-- ==== Sys2Proof/Machine/Cairn.lean ====
section
/-!
DEFINITION. The bytes of a Cairn (R483, R484): as a unit sends one, and as its peer reads one.
-/
namespace Sys2Proof.Machine

/-- A section of a Cairn: its head, and its body padded to 8 bytes (R484). -/
def cairnSection (typ : Nat) (body : List Byte) : List Byte :=
  leBytes 2 typ ++ [0, 0] ++ leBytes 4 body.length ++ body ++ zeros ((8 - body.length % 8) % 8)

/-- Bytes of a slot record (R484). -/
def cairnSlotBytes (s : CairnSlot) : List Byte :=
  let i (n : Nat) (v : Int) : List Byte := leBytes n (ofSigned (8 * n) v)
  leBytes 1 s.slot ++ leBytes 1 s.state ++ leBytes 1 s.ints.length ++ [0] ++ leBytes 4 s.vehicle ++ i 4 s.e ++ i 4 s.n ++ i 4 s.u
    ++ i 2 s.ve ++ i 2 s.vn ++ i 2 s.vu ++ leBytes 2 s.sigE ++ leBytes 2 s.sigN ++ leBytes 2 s.sigU ++ time80Bytes s.base ++ zeros 22
    ++ s.ints.flatMap (fun x => leBytes 1 x.sys ++ leBytes 1 x.band ++ leBytes 1 x.sat ++ leBytes 1 x.pivot ++ i 4 x.n
      ++ leBytes 8 (real64 x.sd) ++ zeros 8)

/-- Bytes of a path record (R484, R337). -/
def cairnPathBytes (p : CairnPath) : List Byte :=
  let i (v : Int) : List Byte := leBytes 4 (ofSigned 32 v)
  leBytes 1 p.slot ++ leBytes 1 p.state ++ leBytes 2 p.task ++ leBytes 4 p.grant ++ i p.chain ++ i p.speed ++ i p.accel ++ i p.auth
    ++ i p.rest ++ leBytes 2 p.arcs.length ++ [0, 0] ++ p.arcs.flatMap (fun a => leBytes 4 (a.1 + if a.2 then 65536 else 0))

/-- Bytes of a task record (R484). -/
def cairnTaskBytes (t : CairnTask) : List Byte :=
  leBytes 2 t.num ++ [0, 0] ++ t.record ++ (t.record.drop 8).take 4 ++ leBytes 1 t.state ++ (t.record.drop 17).take 1 ++ [0, 0]
    ++ leBytes 1 t.slot ++ leBytes 1 t.reason ++ leBytes 2 t.attempts ++ leBytes 4 t.cost

/-- A Cairn in bytes (R483, R484). -/
def cairnBytes (c : Cairn) : List Byte :=
  let body := cairnSection 1 (c.slots.flatMap cairnSlotBytes) ++ cairnSection 2 (c.paths.flatMap cairnPathBytes)
    ++ cairnSection 3 (c.holds.flatMap (fun h => leBytes 2 h.path ++ leBytes 1 (if h.early then 1 else 0) ++ [0] ++ itemBytes h.item))
    ++ cairnSection 4 (c.tasks.flatMap cairnTaskBytes)
  let head := leBytes 2 0x4143 ++ leBytes 1 1 ++ leBytes 1 c.unit ++ leBytes 1 (if c.final then 1 else 0) ++ zeros 11
    ++ leBytes 1 4 ++ leBytes 1 c.timeSt ++ leBytes 1 c.woState ++ leBytes 1 c.level ++ leBytes 2 c.causes
    ++ leBytes 4 (64 + body.length) ++ leBytes 4 c.gen ++ leBytes 4 c.term ++ leBytes 4 c.steps ++ time80Bytes c.instant
    ++ leBytes 4 c.stopSeq ++ leBytes 4 c.setGen ++ leBytes 4 (crc32c body)
  head ++ leBytes 4 (crc32c head) ++ body

/-- The value of a REAL64 word (R219). -/
def ofReal64 (w : Nat) : Rat :=
  let e := w / 2 ^ 52 % 2048
  let m : Nat := w % 2 ^ 52 + (if e = 0 then 0 else 2 ^ 52)
  let k : Int := (max e 1 : Nat) - 1075
  let a : Rat := if 0 ≤ k then ((m * 2 ^ k.toNat : Nat) : Rat) else (m : Rat) / (2 ^ (-k).toNat : Nat)
  if w.testBit 63 then -a else a

/-- An integer record of a slot record (R484). -/
def cairnIntOf (b : List Byte) : CairnInt :=
  { sys := fieldN b 0 1, band := fieldN b 1 1, sat := fieldN b 2 1, pivot := fieldN b 3 1, n := fieldI b 4 4, sd := ofReal64 (fieldN b 8 8) }

/-- The slot records of section 1 (R484); `fuel` bounds their number. -/
def cairnSlotsOf : Nat → List Byte → List CairnSlot
  | 0, _ => []
  | k + 1, b =>
    if b.length < 64 then []
    else
      let n := fieldN b 2 1
      { slot := fieldN b 0 1, state := fieldN b 1 1, vehicle := fieldN b 4 4, e := fieldI b 8 4, n := fieldI b 12 4, u := fieldI b 16 4
        ve := fieldI b 20 2, vn := fieldI b 22 2, vu := fieldI b 24 2, sigE := fieldN b 26 2, sigN := fieldN b 28 2, sigU := fieldN b 30 2
        base := fieldT b 32, ints := (records 24 ((b.drop 64).take (24 * n))).map cairnIntOf } :: cairnSlotsOf k (b.drop (64 + 24 * n))

/-- The path records of section 2 (R484). -/
def cairnPathsOf : Nat → List Byte → List CairnPath
  | 0, _ => []
  | k + 1, b =>
    if b.length < 32 then []
    else
      let m := fieldN b 28 2
      { slot := fieldN b 0 1, state := fieldN b 1 1, task := fieldN b 2 2, grant := fieldN b 4 4, chain := fieldI b 8 4, speed := fieldI b 12 4
        accel := fieldI b 16 4, auth := fieldI b 20 4, rest := fieldI b 24 4
        arcs := (records 4 ((b.drop 32).take (4 * m))).map (fun r => (fieldN r 0 2, (fieldN r 2 1).testBit 0)) }
        :: cairnPathsOf k (b.drop (32 + 4 * m))

/-- A hold record of section 3 (R484, R247). -/
def cairnHoldOf (b : List Byte) : CairnHold :=
  { path := fieldN b 0 2, early := (fieldN b 2 1).testBit 0
    item := { rsv := fieldN b 4 2, seg := fieldN b 6 1, kind := fieldN b 7 1, arc := fieldN b 8 2, group := fieldN b 10 2
              start := fieldN b 12 4, stop := fieldN b 16 4 } }

/-- A task record of section 4 (R484). -/
def cairnTaskOf (b : List Byte) : CairnTask :=
  { num := fieldN b 0 2, record := (b.drop 4).take 48, state := fieldN b 56 1, slot := fieldN b 60 1, reason := fieldN b 61 1
    attempts := fieldN b 62 2, cost := fieldN b 64 4 }

/-- The body of the section with a TYPE (R484); `fuel` bounds the sections looked at. -/
def cairnBody (typ : Nat) : Nat → List Byte → List Byte
  | 0, _ => []
  | k + 1, b =>
    let n := fieldN b 4 4
    if b.length < 8 then [] else if fieldN b 0 2 = typ then (b.drop 8).take n else cairnBody typ k (b.drop (8 + (n + 7) / 8 * 8))

/-- Read a Cairn (R483, R486): none while bytes of its LENGTH are missing, or where MAGIC, VERSION or a CRC does not match. -/
def cairnOf (b : List Byte) : Option Cairn :=
  let len := fieldN b 22 4
  let body := (b.drop 64).take (len - 64)
  if b.length < 64 ∨ b.length < len ∨ len < 64 ∨ 3670016 < len ∨ fieldN b 0 2 ≠ 0x4143 ∨ fieldN b 2 1 ≠ 1
      ∨ fieldN b 60 4 ≠ crc32c (b.take 60) ∨ fieldN b 56 4 ≠ crc32c body then none
  else
    let sec (t : Nat) : List Byte := cairnBody t (fieldN b 16 1) body
    some { unit := fieldN b 3 1, final := (fieldN b 4 1).testBit 0, timeSt := fieldN b 17 1, woState := fieldN b 18 1, level := fieldN b 19 1
           causes := fieldN b 20 2, gen := fieldN b 26 4, term := fieldN b 30 4, steps := fieldN b 34 4, instant := fieldT b 38
           stopSeq := fieldN b 48 4, setGen := fieldN b 52 4, slots := cairnSlotsOf (sec 1).length (sec 1)
           paths := cairnPathsOf (sec 2).length (sec 2), holds := (records 20 (sec 3)).map cairnHoldOf
           tasks := (records 68 (sec 4)).map cairnTaskOf }

/-- The bytes that parts cover without a gap from a position on; `fuel` bounds the parts used. -/
def gather (parts : List (Nat × List Byte)) : Nat → Nat → List Byte
  | 0, _ => []
  | k + 1, place =>
    match parts.find? (fun p => decide (p.1 ≤ place) && decide (place < p.1 + p.2.length)) with
    | none => []
    | some p => p.2.drop (place - p.1) ++ gather parts k (p.1 + p.2.length)

/-- True where the holds of a Cairn fit the engine (R243, R249 code 14, R501). -/
def Dev.cairnFits (d : Dev) (c : Cairn) : Bool :=
  let r := (d.takeHolds c).resv
  let spots := r.pieces.map (fun p => (p.group, p.sec))
  spots.all (fun s => decide (spots.count s ≤ 4)) && decide (r.entries ≤ 262144)
    && r.holds.all (fun h => decide ((r.holds.filter (fun x => x.group == h.group && x.kind != .supervisor)).length ≤ 16))

end Sys2Proof.Machine
end

