-- ==== Sys2Proof/Machine/Parse.lean ====
section
/-!
DEFINITION. The bytes of Ethernet frames (R374 to R379): what the parser of the switch finds in one, and how a frame leaves a port. The formats of
IEEE 802.3, IEEE 802.1Q, IPv4, IPv6, UDP, ARP and ND are those of their standards (PRESUMED, log 79). Addresses are numbers in transmission order
from their lowest byte (R378).
-/
namespace Sys2Proof.Machine

/-- The UDP part of a frame: ports, payload length, its offset in the frame, and its first 24 bytes (R376, R411). -/
structure UdpPart where
  sport : Nat
  dport : Nat
  len   : Nat
  off   : Nat
  head  : Nat
deriving DecidableEq, Repr

/-- The IP part of a frame: version, addresses, TTL or hop limit, protocol, and what follows the IP header. -/
structure IpPart where
  v6   : Bool
  src  : Nat
  dst  : Nat
  ttl  : Nat
  prot : Nat
  load : List Byte
  udp  : Option UdpPart
deriving DecidableEq, Repr

/-- A frame inside the switch: addresses, tag control field, and the bytes from the EtherType to the FCS. `len` is its length as received, 0 for a
frame of the device. -/
structure Pkt where
  dst  : Nat
  src  : Nat
  tci  : Option Nat
  body : List Byte
  len  : Nat
  /-- The device sends it (R379). -/
  own  : Bool := false
  /-- It is routed (R374). -/
  routed : Bool := false
  /-- The ports on which it may leave, one bit each: those of 3420:02 for a fleet telegram (R325). -/
  ports : Nat := 255
deriving DecidableEq, Repr

/-- One octet through the reflected CRC-32 register of IEEE 802.3. -/
def fcsByte (c : BitVec 32) (b : Byte) : BitVec 32 :=
  (List.range 8).foldl (fun x _ => if x.getLsbD 0 then (x >>> 1) ^^^ 0xEDB88320#32 else x >>> 1) (c ^^^ b.zeroExtend 32)

/-- The FCS of IEEE 802.3, its least significant byte leaving first. -/
def fcs (b : List Byte) : Nat := (~~~ (b.foldl fcsByte 0xFFFFFFFF#32)).toNat

/-- A frame passes its FCS and carries no PCS error (R374). -/
def frameOk (f : Frame) : Bool :=
  let n := f.data.length - 4
  f.pcsOk && decide (fieldN f.data n 4 = fcs (f.data.take n))

/-- Ethernet and one tag with TPID 0x8100 (R376). A frame with any other TPID is untagged, with that TPID as its EtherType. -/
def pktOf (b : List Byte) : Pkt :=
  let n := b.length
  let p : Pkt := { dst := fieldN b 0 6, src := fieldN b 6 6, tci := none, body := [], len := n }
  if beNat ((b.drop 12).take 2) = 0x8100 then { p with tci := some (beNat ((b.drop 14).take 2)), body := (b.drop 16).take (n - 20) }
  else { p with body := (b.drop 12).take (n - 16) }

/-- The EtherType. -/
def Pkt.etherType (p : Pkt) : Nat := beNat (p.body.take 2)

/-- What follows the EtherType. -/
def Pkt.load (p : Pkt) : List Byte := p.body.drop 2

/-- The VID of a frame's tag, 0 for none (R377). -/
def Pkt.tagVid (p : Pkt) : Nat := (p.tci.getD 0) % 4096

/-- The UDP header that begins `x`, at an offset of the frame. -/
def udpOf (x : List Byte) (off : Nat) : Option UdpPart :=
  if x.length < 8 then none
  else some { sport := beNat (x.take 2), dport := beNat ((x.drop 2).take 2), len := beNat ((x.drop 4).take 2) - 8, off := off + 8, head := fieldN x 8 24 }

/-- The IP part (R376): UDP where the protocol is 17 and the packet is no later fragment. -/
def Pkt.ip (p : Pkt) : Option IpPart :=
  let x := p.load
  let off := if p.tci.isSome then 18 else 14
  if p.etherType = 0x0800 then
    let h := fieldN x 0 1 % 16 * 4
    if fieldN x 0 1 / 16 ≠ 4 ∨ h < 20 ∨ x.length < h then none
    else
      let prot := fieldN x 9 1
      let whole := beNat ((x.drop 6).take 2) % 8192 = 0
      some { v6 := false, src := fieldN x 12 4, dst := fieldN x 16 4, ttl := fieldN x 8 1, prot := prot, load := x.drop h
             udp := if prot = 17 ∧ whole then udpOf (x.drop h) (off + h) else none }
  else if p.etherType = 0x86DD then
    if fieldN x 0 1 / 16 ≠ 6 ∨ x.length < 40 then none
    else
      let prot := fieldN x 6 1
      some { v6 := true, src := fieldN x 8 16, dst := fieldN x 24 16, ttl := fieldN x 7 1, prot := prot, load := x.drop 40
             udp := if prot = 17 then udpOf (x.drop 40) (off + 40) else none }
  else none

/-- A PTP frame: EtherType 0x88F7, or UDP port 319 or 320. -/
def Pkt.ptp (p : Pkt) : Bool :=
  decide (p.etherType = 0x88F7) || (match p.ip.bind (·.udp) with
    | some u => decide (u.dport = 319) || decide (u.dport = 320)
    | none => false)

/-- An ARP frame, or one of the five messages of ND. -/
def Pkt.arp (p : Pkt) : Bool :=
  decide (p.etherType = 0x0806) || (match p.ip with
    | some i => i.v6 && decide (i.prot = 58) && decide (133 ≤ fieldN i.load 0 1) && decide (fieldN i.load 0 1 ≤ 137)
    | none => false)

/-- The neighbour that an ARP or ND frame announces: IP version, address and MAC. A sender of ARP announces itself, a solicitation its source,
and an advertisement its target. -/
def Pkt.announced (p : Pkt) : Option (Bool × Nat × Nat) :=
  let some_ (v6 : Bool) (a m : Nat) : Option (Bool × Nat × Nat) := if a = 0 then none else some (v6, a, m)
  if p.etherType = 0x0806 then some_ false (fieldN p.load 14 4) (fieldN p.load 8 6)
  else match p.ip with
    | some i =>
      if !p.arp then none
      else if fieldN i.load 0 1 = 135 then some_ true i.src p.src
      else if fieldN i.load 0 1 = 136 then some_ true (fieldN i.load 8 16) p.src
      else none
    | none => none

/-- The quanta of a PAUSE frame of Annex 31B. -/
def Pkt.pause (p : Pkt) : Option Nat :=
  if p.dst = 0x010000C28001 ∧ p.etherType = 0x8808 ∧ beNat (p.load.take 2) = 1 then some (beNat ((p.load.drop 2).take 2)) else none

/-- A group of PTP: 224.0.1.129, 224.0.0.107, FF0X::181 and FF02::6B. -/
def ptpGroup (v6 : Bool) (a : Nat) : Bool :=
  if v6 then decide (a % 256 = 0xFF ∧ a / 65536 = leNat (zeros 12 ++ [0x01, 0x81]) ∧ a / 256 % 16 = a / 256 % 256)
    || decide (a = leNat ([0xFF, 0x02] ++ zeros 13 ++ [0x6B]))
  else decide (a = leNat [224, 0, 1, 129]) || decide (a = leNat [224, 0, 0, 107])

/-- A frame as it leaves a port, tagged or not, with padding to 64 bytes and its FCS. -/
def Pkt.bytes (p : Pkt) (tag : Option Nat) : List Byte :=
  let b := leBytes 6 p.dst ++ leBytes 6 p.src ++ (match tag with
    | some t => [0x81, 0x00] ++ beBytes 2 t
    | none => []) ++ p.body
  let b := b ++ zeros (60 - b.length)
  b ++ leBytes 4 (fcs b)

/-- The sum of the 16-bit words of a packet, an odd last octet counting as the higher half of one. -/
def words16 : List Byte → Nat
  | [] => 0
  | [a] => a.toNat * 256
  | a :: b :: rest => a.toNat * 256 + b.toNat + words16 rest

/-- The Internet checksum of a sum of words. -/
def inetSum (s : Nat) : Nat :=
  let s := s % 65536 + s / 65536
  let s := s % 65536 + s / 65536
  65535 - (s % 65536 + s / 65536)

/-- A packet one hop on (R395): the TTL or hop limit lowered by 1, with the header checksum of IPv4 that follows. -/
def Pkt.hop (p : Pkt) (i : IpPart) : Pkt :=
  let x := p.load
  let ttl := leBytes 1 (i.ttl - 1)
  let y := if i.v6 then x.take 7 ++ ttl ++ x.drop 8
    else
      let h := fieldN x 0 1 % 16 * 4
      let z := x.take 8 ++ ttl ++ (x.drop 9).take 1 ++ zeros 2 ++ (x.drop 12).take (h - 12)
      z.take 10 ++ beBytes 2 (inetSum (words16 z)) ++ z.drop 12 ++ x.drop h
  { p with body := p.body.take 2 ++ y, routed := true }

/-- A UDP datagram in its IP packet and the EtherType before it. Header fields that neither the spec nor the standards fix are free (log 79). -/
def udpBody (v6 : Bool) (src dst sport dport n : Nat) (data : List Byte) : List Byte :=
  let w := if v6 then 16 else 4
  let addrs := leBytes w src ++ leBytes w dst
  let len := data.length + 8
  let head := beBytes 2 sport ++ beBytes 2 dport ++ beBytes 2 len
  let c := inetSum (words16 addrs + 17 + len + words16 (head ++ [0, 0] ++ data))
  let udp := head ++ beBytes 2 (if c = 0 then 65535 else c) ++ data
  if v6 then [0x86, 0xDD] ++ beBytes 4 (6 * 2 ^ 28 + Config.ipField 0 n % 2 ^ 28) ++ beBytes 2 len ++ [17] ++ beBytes 1 (Config.ipField 4 n) ++ addrs ++ udp
  else
    let a := [0x45] ++ beBytes 1 (Config.ipField 1 n) ++ beBytes 2 (len + 20) ++ beBytes 2 (Config.ipField 2 n)
      ++ beBytes 2 (Config.ipField 3 n % 8 * 8192) ++ beBytes 1 (Config.ipField 4 n) ++ [17]
    [0x08, 0x00] ++ a ++ beBytes 2 (inetSum (words16 (a ++ addrs))) ++ addrs ++ udp

end Sys2Proof.Machine
end

