-- ==== Sys2Proof/Machine/Tables.lean ====
section
/-!
DEFINITION. The exact-match tables (R384 to R389), the routes (R394 to R396), the device's session entries (R393) and the table
command window (R397 to R404). Keys and values are numbers in the layout of R401.
-/
namespace Sys2Proof.Machine

/-- What tells the MAC tables and the session table apart (R384): bits of a bucket number, and stash slots. -/
structure Shape where
  bits  : Nat
  stash : Nat

/-- A MAC table: 16,384 buckets and a stash of 64. -/
def macShape : Shape := { bits := 14, stash := 64 }
/-- The session table: 4,096 buckets, no stash. -/
def sessShape : Shape := { bits := 12, stash := 0 }

/-- The candidate buckets of a key (R384). -/
def Shape.buckets (s : Shape) (key : Nat) : Nat × Nat :=
  let c := crc32c (leBytes 24 key)
  let h1 := c % 2 ^ s.bits
  let h2 := c / 2 ^ s.bits % 2 ^ s.bits
  (h1, if h2 = h1 then Nat.xor h1 (2 ^ (s.bits - 1)) else h2)

/-- First index of the stash. -/
def stashBase : Nat := 65536

/-- The ways of a bucket. -/
def bucketWays (b : Nat) : List Nat := [4 * b, 4 * b + 1, 4 * b + 2, 4 * b + 3]

/-- The index at which a key stands. -/
def Exact.find (x : Exact) (s : Shape) (key : Nat) : Option Nat :=
  let h := s.buckets key
  (bucketWays h.1 ++ bucketWays h.2 ++ x.order).find? (fun i => match tabGet x.ways i with
    | some e => e.key == key
    | none => false)

/-- The entry of a key. -/
def Exact.get (x : Exact) (s : Shape) (key : Nat) : Option Entry := (x.find s key).bind (tabGet x.ways)

/-- Write an entry at an index. -/
def Exact.set (x : Exact) (i : Nat) (e : Entry) : Exact := { x with ways := tabPut x.ways i e }

/-- Clear an index. -/
def Exact.clear (x : Exact) (i : Nat) : Exact := { ways := tabDel x.ways i, order := x.order.filter (fun k => k != i) }

/-- The lowest free way of a bucket. -/
def Exact.freeWay (x : Exact) (b : Nat) : Option Nat := (bucketWays b).find? (fun i => (tabGet x.ways i).isNone)

/-- The breadth-first search of R385 step 2: buckets to examine with the ways that a chain vacates to reach them, last first.
At most `fuel` buckets are examined and a chain has at most 16 moves. The result is the chain and the free way at its end. -/
def Exact.chain (x : Exact) (s : Shape) : Nat → List (Nat × List Nat) → List Nat → Option (List Nat × Nat)
  | 0, _, _ => none
  | _, [], _ => none
  | k + 1, (b, c) :: rest, seen =>
    match x.freeWay b with
    | some w => if c = [] then none else some (c, w)
    | none =>
      let next := if 16 ≤ c.length then [] else (bucketWays b).foldl (fun l i => match tabGet x.ways i with
        | none => l
        | some e =>
          let h := s.buckets e.key
          let o := if h.1 = b then h.2 else h.1
          if seen.contains o || l.any (fun y => y.1 == o) then l else l ++ [(o, i :: c)]) []
      Exact.chain x s k (rest ++ next) (seen ++ next.map (·.1))

/-- Carry out a chain from its free end backwards: each entry goes to the way vacated before it (R385, R386). The way freed at
its start is given. -/
def Exact.shift (x : Exact) : List Nat → Nat → Exact × Nat
  | [], free => (x, free)
  | w :: ws, free =>
    match tabGet x.ways w with
    | some e => Exact.shift ({ x with ways := tabDel (tabPut x.ways free e) w }) ws w
    | none => Exact.shift x ws w

/-- The insert of R385: the table and the index taken, none where it fails. -/
def Exact.insert (x : Exact) (s : Shape) (e : Entry) : Option (Exact × Nat) :=
  let h := s.buckets e.key
  match (x.freeWay h.1).or (x.freeWay h.2) with
  | some w => some (x.set w e, w)
  | none =>
    match x.chain s 64 [(h.1, []), (h.2, [])] [h.1, h.2] with
    | some (c, w) =>
      let r := x.shift c w
      some (r.1.set r.2 e, r.2)
    | none =>
      match ((List.range s.stash).map (fun k => stashBase + k)).find? (fun i => (tabGet x.ways i).isNone) with
      | some i => some ({ ways := tabPut x.ways i e, order := x.order ++ [i] }, i)
      | none => none

/-- Bucket entries used. -/
def Exact.used (x : Exact) : Nat := (x.ways.filter (fun e => decide (e.1 < stashBase))).length

/-! Fields of MAC values (R401). -/

/-- PORT. -/
def macPort (v : Nat) : Nat := v % 8
/-- STATIC. -/
def macStatic (v : Nat) : Bool := v.testBit 3
/-- REMOTE. -/
def macRemote (v : Nat) : Bool := v.testBit 4
/-- AGE. -/
def macAge (v : Nat) : Nat := bitsOf v 9 8
/-- HIT. -/
def macHit (v : Nat) : Bool := v.testBit 10
/-- A value with HIT set and AGE 0. -/
def macFresh (v : Nat) : Nat := v % 256 + 1024
/-- A value with HIT set: a refresh leaves AGE to the sweep (R388). -/
def macTouch (v : Nat) : Nat := v % 1024 + 1024
/-- The key of a station in a VID. -/
def macKey (vid mac : Nat) : Nat := mac % 2 ^ 48 + 2 ^ 48 * (vid % 4096)

/-- The pipeline with a number: A is 0. -/
def Dev.pipe (d : Dev) (k : Nat) : Pipe := if k = 0 then d.sw.pipeA else d.sw.pipeB

/-- Change a pipeline. -/
def Dev.setPipe (d : Dev) (k : Nat) (p : Pipe) : Dev :=
  if k = 0 then { d with sw := { d.sw with pipeA := p } } else { d with sw := { d.sw with pipeB := p } }

/-- Bring 3A21 into line for a pipeline, with the fill alert and the stash alert (3A20, R387). A fall of the bucket entries calls for a try to
re-insert a stash entry (R387). -/
def Dev.macStatus (d : Dev) (k : Nat) : Dev :=
  let p := d.pipe k
  let used := p.mac.used
  let st := p.mac.order.length
  let freed := p.freed || decide (used < d.nat (0x3A2101 + k))
  let d := (d.setN (0x3A2101 + k) used).setN (0x3A2103 + k) st
  let above := decide (d.nat 0x3A2002 * 65536 < used * 100)
  let below := decide (used * 100 < (d.nat 0x3A2002 - 5) * 65536)
  let high := decide (d.nat 0x3A2003 < st)
  let d := d.setPipe k { p with fillHigh := (p.fillHigh || above) && !below, stashHigh := high, freed := freed }
  (d.raiseIf (above && !p.fillHigh) 391 k).raiseIf (high && !p.stashHigh) 392 k

/-- An insert into a MAC table failed for capacity: 388 at most once a second (R385). -/
def Dev.macFull (d : Dev) (k : Nat) : Dev :=
  let p := d.pipe k
  if d.dueSec p.fullAt then (d.setPipe k { p with fullAt := some d.clk.now }).raise 388 k else d

/-- An insert into the session table failed (R385). -/
def Dev.sessFull (d : Dev) : Dev := d.raise 394 4

/-- Bring 3A50:01 and :02 into line. -/
def Dev.sessStatus (d : Dev) : Dev :=
  let n := (d.sw.sess.ways.filter (fun e => e.2.val.testBit 3)).length
  (d.setN 0x3A5001 d.sw.sess.ways.length).setN 0x3A5002 n

/-- Post a notice to the other pipeline (R381): at most 256 wait; a lost one is counted for the pipeline that posts it (log 80). -/
def Dev.post (d : Dev) (from_ kind key port : Nat) : Dev :=
  let n : LearnNote := { kind := kind, key := key, port := port, time := d.clk.now }
  let peer := 1 - from_
  let p := d.pipe peer
  if p.notices.length < 256 then d.setPipe peer { p with notices := p.notices ++ [n] }
  else
    let d := d.inc32 (0x3A2109 + from_)
    let mine := d.pipe from_
    if d.dueSec mine.lostAt then (d.setPipe from_ { mine with lostAt := some d.clk.now }).raise 389 from_ else d

/-- A removal notice where an entry that goes is local and dynamic (R381). -/
def Dev.postGone (d : Dev) (k : Nat) (e : Entry) : Dev :=
  if macStatic e.val || macRemote e.val then d else d.post k 3 e.key (macPort e.val)

/-! Routes (R394 to R396). -/

/-- A number of `n` bytes in the other byte order. -/
def swapBytes (n v : Nat) : Nat := leNat (leBytes n v).reverse

/-- LENGTH of a route key. -/
def routeLen (key : Nat) : Nat := bitsOf key 135 128

/-- The prefix of a route key as a number whose first bit on the wire is the highest of 32 or 64. -/
def routePrefix (v6 : Bool) (key : Nat) : Nat :=
  if v6 then swapBytes 16 (key % 2 ^ 128) / 2 ^ 64 else swapBytes 4 (key % 2 ^ 32)

/-- Bits that a trie walks: 32 or 64. -/
def routeBits (v6 : Bool) : Nat := if v6 then 64 else 32

/-- The routes of a version. -/
def Dev.routes (d : Dev) (v6 : Bool) : List Entry := if v6 then d.sw.routes6 else d.sw.routes4

/-- The trie nodes of routes (R238, R394): stage and the address bits walked to it. The root, and one for each distinct value of the first 6s bits
among longer prefixes. -/
def routeTrie (v6 : Bool) (l : List Entry) : List (Nat × Nat) :=
  (0, 0) :: (List.range (if v6 then 10 else 5)).flatMap (fun i =>
    (((l.filter (fun e => decide (6 * (i + 1) < routeLen e.key))).map
      (fun e => routePrefix v6 e.key / 2 ^ (routeBits v6 - 6 * (i + 1)))).eraseDups).map (fun x => (i + 1, x)))

/-- A route that stands in a faulty node or below one: a lookup misses it (R406). -/
def Dev.hidden (d : Dev) (v6 : Bool) (e : Entry) : Bool :=
  d.sw.badNodes.any (fun b => b.1 == v6 && (decide (b.2.1 = 0)
    || (decide (6 * b.2.1 < routeLen e.key) && decide (routePrefix v6 e.key / 2 ^ (routeBits v6 - 6 * b.2.1) = b.2.2))))

/-- The longest match for an address (R394). -/
def Dev.routeFor (d : Dev) (v6 : Bool) (addr : Nat) : Option Entry :=
  let a := if v6 then swapBytes 16 addr / 2 ^ 64 else swapBytes 4 addr
  let n := routeBits v6
  ((d.routes v6).filter (fun e => !d.hidden v6 e)).foldl (fun best e =>
    let l := routeLen e.key
    if a / 2 ^ (n - l) = routePrefix v6 e.key / 2 ^ (n - l) then
      match best with
      | none => some e
      | some b => if routeLen b.key < l then some e else some b
    else best) none

/-- Trie nodes used. -/
def routeNodes (v6 : Bool) (l : List Entry) : Nat := (routeTrie v6 l).length

/-- Routes and nodes of a version (R394). -/
def routeCap (v6 : Bool) : Nat × Nat := if v6 then (2048, 1024) else (8192, 2048)

/-- Ascending order of length, then of prefix (R398). -/
def routeBefore (v6 : Bool) (a b : Nat) : Bool :=
  decide (routeLen a < routeLen b) || (decide (routeLen a = routeLen b) && decide (routePrefix v6 a < routePrefix v6 b))

/-- Put a route in its place. -/
def routePut (v6 : Bool) (e : Entry) : List Entry → List Entry
  | [] => [e]
  | x :: xs => if x.key = e.key then e :: xs else if routeBefore v6 e.key x.key then e :: x :: xs else x :: routePut v6 e xs

/-- Replace the routes of a version; the two copies switch together (R394, R396). The new trie has no faulty node. -/
def Dev.setRoutes (d : Dev) (v6 : Bool) (l : List Entry) : Dev :=
  let bad := d.sw.badNodes.filter (fun b => b.1 != v6)
  let d : Dev := if v6 then { d with sw := { d.sw with routes6 := l, badNodes := bad } }
    else { d with sw := { d.sw with routes4 := l, badNodes := bad } }
  let k := if v6 then 1 else 0
  (d.setN (0x3A6001 + k) l.length).setN (0x3A6003 + k) (routeNodes v6 l : Nat)

/-! The table command window (R397 to R404). -/

/-- The records of the VLAN table: VID, MEMBERS, UNTAGGED, NO_LEARN (R377). -/
def Dev.vlans (d : Dev) : List (Nat × Nat × Nat × Bool) :=
  (records 8 (d.oct 0x3A3001)).map (fun r =>
    let w := leNat r
    (bitsOf w 11 0, bitsOf w 23 16, bitsOf w 31 24, w.testBit 32))

/-- The record of a VID. -/
def Dev.vlan (d : Dev) (vid : Nat) : Option (Nat × Nat × Nat × Bool) := d.vlans.find? (fun r => r.1 == vid)

/-- BAD_KEY of R402 for a table and command. -/
def Dev.badKey (_d : Dev) (table cmd key : Nat) : Bool :=
  if table = 0 ∨ 6 < table ∨ cmd = 0 ∨ 6 < cmd ∨ (cmd = 6 ∧ 3 < table) then true
  else if cmd = 5 then decide (2 ^ 32 ≤ key)
  else if cmd = 6 then decide (2 ^ 21 ≤ key) || decide (bitsOf key 19 8 = 4095)
  else if table ≤ 3 then decide (2 ^ 60 ≤ key) || decide (bitsOf key 59 48 = 0) || decide (bitsOf key 59 48 = 4095)
  else if table = 4 then
    let kind := bitsOf key 191 184
    decide (kind = 0 ∨ 3 < kind) || decide (bitsOf key 183 152 ≠ 0)
      || (decide (kind = 1) && decide (bitsOf key 151 56 ≠ 0))
      || (decide (kind = 3) && (decide (bitsOf key 15 0 = 0) || decide (4095 ≤ bitsOf key 15 0)))
  else
    let v6 := decide (table = 6)
    let l := routeLen key
    let n := routeBits v6
    decide (2 ^ 136 ≤ key) || decide (n < l)
      || (if v6 then decide (swapBytes 16 (key % 2 ^ 128) % 2 ^ 64 ≠ 0) else decide (bitsOf key 127 32 ≠ 0))
      || decide (routePrefix v6 key % 2 ^ (n - min l n) ≠ 0)

/-- BAD_VALUE of R402, for INSERT and REPLACE. -/
def Dev.badValue (d : Dev) (table key val : Nat) : Bool :=
  let known (vid : Nat) : Bool := (d.vlan vid).isSome
  if table ≤ 3 then decide (2 ^ 16 ≤ val) || decide (bitsOf val 13 11 ≠ 0) || !known (bitsOf key 59 48)
  else if table = 4 then
    let kind := bitsOf key 191 184
    decide (2 ^ 64 ≤ val) || decide (bitsOf val 7 4 ≠ 0) || val.testBit 0
      || (if kind = 3 then !known (bitsOf key 11 0) else !d.queueExists (bitsOf val 15 8))
  else
    decide (2 ^ 148 ≤ val) || decide (bitsOf val 143 140 ≠ 0)
      || (!(val.testBit 145) && !(val.testBit 146) && !known (bitsOf val 139 128))

/-- What a window command answers: its result and, where it reports one, an entry with its index. -/
structure TableAns where
  code  : Nat
  entry : Option (Entry × Nat) := none

/-- The value as a MAC entry is reported, with LOCATION (R401). -/
def macReport (e : Entry) (i : Nat) : Entry :=
  let h := macShape.buckets e.key
  let loc := if stashBase ≤ i then 2 else if i / 4 = h.1 then 0 else 1
  { e with val := e.val % 2 ^ 14 + loc * 2 ^ 14 }

/-- A FLUSH with a key removes an entry (R398). -/
def flushes (key : Nat) (e : Entry) : Bool :=
  (key.testBit 20 || !macStatic e.val) && decide (macPort e.val = key % 256)
    && (decide (bitsOf key 19 8 = 0) || decide (bitsOf e.key 59 48 = bitsOf key 19 8))

/-- One command on one MAC table. The value of INSERT and REPLACE loses its read-only fields and starts fresh. In a staged
batch an INSERT over a dynamic entry replaces it, and a STATIC one may displace a dynamic one from its way (R403). -/
def Dev.macRun (d : Dev) (k cmd key val : Nat) (batch : Bool) : Dev × TableAns :=
  let p := d.pipe k
  let val := macFresh (val % 16 + (val / 32 % 8) * 32)
  let put (x : Exact) (d : Dev) : Dev := (d.setPipe k { d.pipe k with mac := x }).macStatus k
  let here := p.mac.find macShape key
  let add (d : Dev) : Dev × TableAns :=
    match p.mac.insert macShape { key := key, val := val } with
    | some (x, i) => (put x d, { code := 0, entry := some (macReport { key := key, val := val } i, i) })
    | none =>
      let h := macShape.buckets key
      let victim := (bucketWays h.1 ++ bucketWays h.2).find? (fun i => match tabGet p.mac.ways i with
        | some e => !macStatic e.val
        | none => false)
      match victim with
      | some i =>
        if batch && macStatic val then
          (((put (p.mac.set i { key := key, val := val }) (d.inc32 (0x3A210B + k))).raise 399 k).postGone k ((tabGet p.mac.ways i).getD { key := 0, val := 8 })
            , { code := 0, entry := some (macReport { key := key, val := val } i, i) })
        else (d.macFull k, { code := 3 })
      | none => (d.macFull k, { code := 3 })
  let beyond (i : Nat) : Dev × TableAns :=
    let old := tabGet p.mac.ways i
    let displaced := batch && macStatic val && (match old with
      | some e => !macStatic e.val
      | none => false)
    let d := put (p.mac.set i { key := key, val := val }) d
    let d := if displaced then (d.inc32 (0x3A210B + k)).raise 399 k else d
    let d := match old with
      | some e => if macStatic val then d.postGone k e else d
      | none => d
    (d, { code := 0, entry := some (macReport { key := key, val := val } i, i) })
  match cmd with
  | 1 => match here with
    | none => add d
    | some i => match tabGet p.mac.ways i with
      | some e => if batch && !macStatic e.val then beyond i else (d, { code := 2 })
      | none => (d, { code := 2 })
  | 2 => match here with
    | none => add d
    | some i => beyond i
  | 3 => match here with
    | none => (d, { code := if batch then 0 else 1 })
    | some i => ((put (p.mac.clear i) d).postGone k ((tabGet p.mac.ways i).getD { key := 0, val := 8 }), { code := 0 })
  | 4 => match here.bind (fun i => (tabGet p.mac.ways i).map (fun e => (e, i))) with
    | some x => (d, { code := 0, entry := some (macReport x.1 x.2, x.2) })
    | none => (d, { code := 1 })
  | 5 =>
    if stashBase + 64 ≤ key then (d, { code := 8 })
    else match tabGet p.mac.ways key with
      | some e => (d, { code := 0, entry := some (macReport e key, key) })
      | none => (d, { code := 1 })
  | _ =>
    let gone := p.mac.ways.filter (fun w => flushes key w.2)
    (gone.foldl (fun d w => d.postGone k w.2) (put (gone.foldl (fun x w => x.clear w.1) p.mac) d), { code := 0 })

/-- One command on the session table. -/
def Dev.sessRun (d : Dev) (cmd key val : Nat) (batch : Bool) : Dev × TableAns :=
  let x := d.sw.sess
  let val := if val.testBit 3 then val - 8 else val
  let put (x : Exact) (d : Dev) : Dev := ({ d with sw := { d.sw with sess := x } }).sessStatus
  let here := (x.find sessShape key).bind (fun i => (tabGet x.ways i).map (fun e => (e, i)))
  let add : Dev × TableAns := match x.insert sessShape { key := key, val := val } with
    | some (y, i) => (put y d, { code := 0, entry := some ({ key := key, val := val }, i) })
    | none => (d.sessFull, { code := 3 })
  match cmd, here with
  | 1, none => add
  | 1, some _ => (d, { code := 2 })
  | 2, none => add
  | 2, some (e, i) =>
    if e.val.testBit 3 then (d, { code := 6 })
    else (put (x.set i { key := key, val := val }) d, { code := 0, entry := some ({ key := key, val := val }, i) })
  | 3, none => (d, { code := if batch then 0 else 1 })
  | 3, some (e, i) => if e.val.testBit 3 then (d, { code := 6 }) else (put (x.clear i) d, { code := 0 })
  | 4, none => (d, { code := 1 })
  | 4, some y => (d, { code := 0, entry := some y })
  | 5, _ =>
    if 16384 ≤ key then (d, { code := 8 })
    else match tabGet x.ways key with
      | some e => (d, { code := 0, entry := some (e, key) })
      | none => (d, { code := 1 })
  | _, _ => (d, { code := 4 })

/-- One command on a route table. -/
def Dev.routeRun (d : Dev) (v6 : Bool) (cmd key val : Nat) (batch : Bool) : Dev × TableAns :=
  let l := d.routes v6
  let e : Entry := { key := key, val := val }
  let put (d : Dev) : Dev × TableAns :=
    let l' := routePut v6 e l
    if (routeCap v6).1 < l'.length ∨ (routeCap v6).2 < routeNodes v6 l' then
      (d.raise 394 (if v6 then 6 else 5), { code := 3 })
    else (d.setRoutes v6 l', { code := 0, entry := some (e, (l'.findIdx? (fun x => x.key == key)).getD 0) })
  match cmd, l.findIdx? (fun x => x.key == key) with
  | 1, some _ => (d, { code := 2 })
  | 1, none => put d
  | 2, _ => put d
  | 3, none => (d, { code := if batch then 0 else 1 })
  | 3, some _ => (d.setRoutes v6 (l.filter (fun x => x.key != key)), { code := 0 })
  | 4, none => (d, { code := 1 })
  | 4, some i => (d, { code := 0, entry := (l[i]?).map (fun x => (x, i)) })
  | 5, _ =>
    if (routeCap v6).1 ≤ key then (d, { code := 8 })
    else match l[key]? with
      | some x => (d, { code := 0, entry := some (x, key) })
      | none => (d, { code := 1 })
  | _, _ => (d, { code := 4 })

/-- PERSIST of a value in a table (R401). A dynamic entry is volatile (R404). -/
def persists (table val : Nat) : Bool :=
  if table ≤ 3 then val.testBit 7 && macStatic val else if table = 4 then val.testBit 2 else val.testBit 147

/-- The settings store follows a command that succeeded (R404). -/
def Dev.keep (d : Dev) (table cmd key val : Nat) : Dev :=
  let tables := if table = 3 then [1, 2] else [table]
  if cmd = 1 ∨ cmd = 2 ∨ cmd = 3 then
    let rest := d.sw.kept.filter (fun e => !(tables.contains e.1 && e.2.key == key))
    let new := if cmd ≠ 3 ∧ persists table val then tables.map (fun t => (t, ({ key := key, val := val } : Entry))) else []
    { d with sw := { d.sw with kept := rest ++ new } }
  else if cmd = 6 ∧ key.testBit 20 then
    { d with sw := { d.sw with kept := d.sw.kept.filter (fun e => !(tables.contains e.1 && flushes key e.2)) } }
  else d

/-- Run one table command (R398 to R402). The PORT of a MAC value has 3 bits, so a port above 7 can only stand in the key of a FLUSH. -/
def Dev.tableRun (d : Dev) (table cmd key val : Nat) (batch : Bool) : Dev × TableAns :=
  if d.badKey table cmd key then (d, { code := 4 })
  else if (cmd = 1 ∨ cmd = 2) ∧ d.badValue table key val ∨ cmd = 6 ∧ 7 < key % 256 then (d, { code := 5 })
  else
    let r := match table with
      | 1 => d.macRun 0 cmd key val batch
      | 2 => d.macRun 1 cmd key val batch
      | 3 =>
        let a := d.macRun 0 cmd key val batch
        let b := a.1.macRun 1 cmd key val batch
        if a.2.code ≠ 0 then (d, { a.2 with entry := none })
        else if b.2.code ≠ 0 then (d, { b.2 with entry := none })
        else (b.1, a.2)
      | 4 => d.sessRun cmd key val batch
      | 5 => d.routeRun false cmd key val batch
      | _ => d.routeRun true cmd key val batch
    if r.2.code = 0 then (r.1.keep table cmd key val, r.2) else r

/-- The result entry 3A80:06. -/
def TableAns.bytes (a : TableAns) : List Byte :=
  match a.entry with
  | none => zeros 52
  | some (e, i) => leBytes 24 e.key ++ leBytes 24 e.val ++ leBytes 4 i

/-- A write of 3A80:04 (R397 to R399): the command runs on 3A80:01 to :03, its result stands in :05 and :06 when the write is
answered, and a result that is not 0 answers with TABLE_RESULT. -/
def tableExec (v : DVal) (d : Dev) : Dev × Nat :=
  let r := d.tableRun (d.nat 0x3A8001) v.int.toNat (leNat (d.oct 0x3A8002)) (leNat (d.oct 0x3A8003)) false
  let d := (r.1.setN 0x3A8005 r.2.code).setO 0x3A8006 r.2.bytes
  (d, if r.2.code = 0 then 0 else 0x16)

/-- The window is BUSY (R399): a command that a commit has set off is still running. -/
def Dev.windowBusy (d : Dev) : Bool := decide (d.clk.now < d.sw.busyTill)

/-- The bound of a window command in ticks (R399). -/
def windowBound (table cmd : Nat) : Nat :=
  if table = 5 ∨ table = 6 then 6250000 else if cmd = 6 then 375000 else if cmd = 1 ∨ cmd = 2 then 2500 else 625

/-- A command that no request waits for keeps the window BUSY for a time within a bound (R399); the time is free (log 42). -/
def Dev.busyFor (d : Dev) (bound : Nat) : Dev :=
  ({ d with sw := { d.sw with busyTill := d.clk.now + d.freeN % (bound + 1) } }).used

/-- The tables as they stand. -/
def Dev.swImage (d : Dev) : SwImage :=
  { macA := d.sw.pipeA.mac, macB := d.sw.pipeB.mac, sess := d.sw.sess, routes4 := d.sw.routes4, routes6 := d.sw.routes6, kept := d.sw.kept }

/-- A staged write of 3A80:04 runs its command at the commit instant; until its result stands, the tables before it are held (R397, R407). -/
def tableStaged (v : DVal) (d : Dev) : Dev :=
  let r := ((tableExec v d).1).busyFor (windowBound (d.nat 0x3A8001) v.int.toNat)
  { r with sw := { r.sw with undo := some d.swImage } }

/-- The switch leaves state 3 (R407): a window command whose result had not been given is not applied, and 3A80:05 reads ABORTED. -/
def Dev.abortWindow (d : Dev) : Dev :=
  match (if d.windowBusy then d.sw.undo else none) with
  | none => d
  | some x =>
    let d : Dev := { d with sw := { d.sw with
      pipeA := { d.sw.pipeA with mac := x.macA }, pipeB := { d.sw.pipeB with mac := x.macB }, sess := x.sess
      kept := x.kept, busyTill := d.clk.now, undo := none } }
    let d := (d.setRoutes false x.routes4).setRoutes true x.routes6
    (d.setN 0x3A8005 7).setO 0x3A8006 (zeros 52)

/-- A write to the window fails with BUSY while it is busy (R399). -/
def windowWrite (f : DVal → Dev → Dev × Nat) (v : DVal) (d : Dev) : Dev × Nat := if d.windowBusy then (d, 0x12) else f v d

/-- Run batch records in order, up to the first that fails: records run, and the failure (R403). -/
def Dev.batchRun (d : Dev) (staged : Bool) : Nat → List (List Byte) → Dev × Nat × Option Nat
  | n, [] => (d, n, none)
  | n, r :: rs =>
    let bad := decide (fieldN r 2 6 ≠ 0)
    let a := if bad then (d, ({ code := 4 } : TableAns))
      else d.tableRun (fieldN r 0 1) (fieldN r 1 1) (fieldN r 8 24) (fieldN r 32 24) staged
    if a.2.code = 0 then a.1.batchRun staged (n + 1) rs else (a.1, n, some a.2.code)

/-- A batch runs (R403): 3A81:02 reports it and event source 398 ends it. -/
def Dev.batch (d : Dev) (staged : Bool) (data : List Byte) : Dev × Option Nat :=
  let r := d.batchRun staged 0 (records 56 data)
  let d := r.1.setO 0x3A8102 (leBytes 4 r.2.1 ++ leBytes 2 (match r.2.2 with
    | some _ => r.2.1
    | none => 0xFFFF) ++ leBytes 2 (r.2.2.getD 0))
  (d.raise 398 (min r.2.1 65535), r.2.2)

/-- A live write of 3A81:01: at most 4,096 whole records. -/
def tableBatch (v : DVal) (d : Dev) : Dev × Nat :=
  let b := v.bytes
  if b.length % 56 ≠ 0 ∨ 4096 * 56 < b.length then (d, 7)
  else
    let r := d.batch false b
    (r.1, if r.2.isNone then 0 else 0x16)

/-- The copy of the configured entries on which a staged batch is checked: dynamic and REMOTE entries are left out (R403). -/
def Dev.configured (d : Dev) : Dev :=
  let strip (x : Exact) : Exact := (x.ways.filter (fun w => !macStatic w.2.val)).foldl (fun y w => y.clear w.1) x
  { d with sw := { d.sw with pipeA := { d.sw.pipeA with mac := strip d.sw.pipeA.mac }
                             pipeB := { d.sw.pipeB with mac := strip d.sw.pipeB.mac } } }

/-- The session key of a vehicle's telegrams of a TYPE (R391, R393). -/
def telegramKey (port vehicle typ : Nat) : Nat := port + 2 ^ 16 * typ + 2 ^ 24 * vehicle + 2 ^ 184

/-- The device's own session entries (R393), written anew: three for each enabled slot with a vehicle ID. -/
def Dev.ownSessions (d : Dev) : Dev :=
  let old := d.sw.sess.ways.filter (fun w => w.2.val.testBit 3)
  let x := old.foldl (fun y w => y.clear w.1) d.sw.sess
  let d : Dev := { d with sw := { d.sw with sess := x } }
  let port := d.nat 0x342001
  let put (d : Dev) (key q : Nat) : Dev :=
    let e : Entry := { key := key, val := 8 + 256 * q }
    match d.sw.sess.find sessShape key with
    | some i => { d with sw := { d.sw with sess := d.sw.sess.set i e } }
    | none => match d.sw.sess.insert sessShape e with
      | some (y, _) => { d with sw := { d.sw with sess := y } }
      | none => d.sessFull
  ((List.range 128).foldl (fun d n =>
    let v := d.nat (slotKey n 0 2)
    if d.slotOn n ∧ v ≠ 0 then
      put (put (put d (telegramKey port v 1) (d.nat (slotKey n 0 3))) (telegramKey port v 7) (d.nat 0x342003))
        (telegramKey port v 8) (d.nat 0x342003)
    else d) d).sessStatus

/-- The switch island begins from reset (R404): PERSIST entries are restored, and the device's own sessions written. -/
def Dev.startSwitch (d : Dev) : Dev :=
  let kept := d.sw.kept
  let d : Dev := { d with sw := { d.sw with given := d.out.length } }
  let d := kept.foldl (fun (d : Dev) e => (d.tableRun e.1 2 e.2.key e.2.val false).1) d
  ({ d with sw := { d.sw with kept := kept } }).ownSessions

/-- Rewrite an entry from its copy in DRAM (R406); one that has been written since stays. -/
def Dev.rewrite (d : Dev) (table : Nat) (e : Entry) : Dev :=
  match table with
  | 4 => if (d.sw.sess.find sessShape e.key).isSome then d
    else match d.sw.sess.insert sessShape e with
      | some (x, _) => ({ d with sw := { d.sw with sess := x } } : Dev).sessStatus
      | none => d.sessFull
  | 5 => if d.sw.routes4.any (fun x => x.key == e.key) then d else d.setRoutes false (routePut false e d.sw.routes4)
  | 6 => if d.sw.routes6.any (fun x => x.key == e.key) then d else d.setRoutes true (routePut true e d.sw.routes6)
  | t =>
    let k := t - 1
    let p := d.pipe k
    if (p.mac.find macShape e.key).isSome then d
    else match p.mac.insert macShape e with
      | some (x, _) => (d.setPipe k { p with mac := x }).macStatus k
      | none => d.macFull k

/-- A recovery of the switch island (R407): STATIC entries, sessions and routes are restored from DRAM, those that waited for a rewrite too; dynamic,
REMOTE and neighbour entries are lost (R471); every port is down until it links up again. -/
def Dev.recoverSwitch (d : Dev) : Dev :=
  let late := d.sw.faulty
  let d : Dev := { d with sw := { d.sw with faulty := [], badNodes := [], given := d.out.length } }
  let d := late.foldl (fun d x => d.rewrite x.1 x.2) d.configured
  let x := (d.sw.sess.ways.filter (fun w => decide (bitsOf w.2.key 191 184 = 3))).foldl (fun y w => y.clear w.1) d.sw.sess
  let d : Dev := { d with sw := { d.sw with sess := x, ports := []
                                            pipeA := { d.sw.pipeA with notices := [], inserts := [], swept := [] }
                                            pipeB := { d.sw.pipeB with notices := [], inserts := [], swept := [] } } }
  ((d.macStatus 0).macStatus 1).ownSessions

end Sys2Proof.Machine
end

