-- ==== Sys2Proof/Machine/Frames.lean ====
section
/-!
DEFINITION. Frames through the switch (R372 to R383, R391 to R395, R405 to R408): reception, learning, classification, steering,
forwarding, egress; links; and the Whiteout flood (R308, R309, R317).
-/
namespace Sys2Proof.Machine

/-- The port with a number. -/
def Dev.port (d : Dev) (p : Nat) : Port := tabGetD d.sw.ports p port0

/-- Change a port. -/
def Dev.setPort (d : Dev) (p : Nat) (x : Port) : Dev := { d with sw := { d.sw with ports := tabPut d.sw.ports p x } }

/-- A status entry of a port (3A18 + p). -/
def portKey (p sub : Nat) : Key := (0x3A18 + p) * 256 + sub

/-- A setting of a port (3A10 + p). -/
def portSet (p sub : Nat) : Key := (0x3A10 + p) * 256 + sub

/-- The pipeline of a port (R376); 8 stands for the device itself, whose frames pipeline A processes. -/
def pipeOf (p : Nat) : Nat := if p < 4 ∨ p = 8 then 0 else 1

/-- A frame discarded at egress (R379): counted, and reported at most once a second for each port. -/
def Dev.egressDiscard (d : Dev) (p n : Nat) : Dev :=
  let x := d.port p
  let c := x.discards + n
  let d := d.addSat (portKey p 8) n 0xFFFFFFFF
  if n = 0 then d
  else if d.dueSec x.discardAt then
    (d.setPort p { d.port p with discards := 0, discardAt := some d.clk.now }).raise 387 (p * 256 + min c 255)
  else d.setPort p { d.port p with discards := c }

/-- The next frame of a port: the highest class, oldest first; PAUSE holds every class but the stop telegrams (R373, R379). -/
def Port.next (x : Port) (now : Nat) : Option Nat :=
  let free := decide (x.pausedTo ≤ now)
  ([4, 3, 2, 1, 0].filterMap (fun c => if c = 4 || free then x.waiting.findIdx? (fun f => f.cls == c) else none)).head?

/-- An idle transmitter begins its next frame. -/
def Dev.startPort (d : Dev) (p : Nat) : Dev :=
  let x := d.port p
  if x.sending.isSome ∨ !x.up then d
  else match x.next d.clk.now with
    | none => d
    | some i => d.setPort p { x with sending := x.waiting[i]?, waiting := x.waiting.eraseIdx i }

/-- Bytes in an egress buffer (R379). -/
def Port.held (x : Port) : Nat := (x.waiting.map (·.len)).sum + ((x.sending.map (·.len)).getD 0)

/-- Queue a frame on a port that is up; a full buffer of 128 KiB discards it (R379). -/
def Dev.enqueue (d : Dev) (p : Nat) (f : OutFrame) : Dev :=
  let x := d.port p
  if !x.up then d
  else if f.cls ≠ 4 ∧ 131072 < x.held + f.len then d.egressDiscard p 1
  else (d.setPort p { x with waiting := x.waiting ++ [f] }).startPort p

/-- The bytes and the class of a frame in its VID at a port that sends it tagged or not (R379): by PCP, class 0 without a tag; what the device sends
is of class 3 and carries 3A00:03 when tagged. -/
def Dev.egress (d : Dev) (vid : Nat) (tagged : Bool) (f : Pkt) : OutFrame :=
  let t := f.tci.getD 0
  let pcp := if f.own then d.nat 0x3A0003 else t / 8192
  let b := f.bytes (if tagged then some (pcp * 8192 + t / 4096 % 2 * 4096 + vid) else none)
  { cls := if f.own then 3 else if f.tci.isSome then pcp / 2 else 0, len := b.length, flds := asFields b }

/-- A frame in its VID leaves by a port: tagged or not by the VLAN table; a routed frame beyond 3A00:02 is discarded (R374, R379). -/
def Dev.sendOn (d : Dev) (p vid : Nat) (f : Pkt) : Dev :=
  match d.vlan vid with
  | none => d
  | some v =>
    if !v.2.1.testBit p ∨ !f.ports.testBit p then d
    else
      let x := d.egress vid (!v.2.2.1.testBit p) f
      if f.routed && decide (d.nat 0x3A0002 < x.len) then d.egressDiscard p 1 else d.enqueue p x

/-- Flood in a VID to every member port but one (R378). -/
def Dev.floodOn (d : Dev) (except vid : Nat) (f : Pkt) : Dev :=
  (List.range 8).foldl (fun d p => if p = except then d else d.sendOn p vid f) d

/-- A queue item for a frame (R411): 10 words, with a buffer of the frame pool; without one the push is refused for credit. The ingress port of a
frame that the device sends is free, and its length is that without a tag (log 93). -/
def Dev.steer (d : Dev) (q port vid : Nat) (f : Pkt) : Dev :=
  let u := (f.ip.bind (·.udp)).getD { sport := 0, dport := 0, len := 0, off := 0, head := 0 }
  match d.freeBuffer with
  | none =>
    let x := d.queue q
    let x := { x with refused := min (x.refused + 1) 0xFFFFFFFF }
    let d := (d.setQueue q x).inc32 0x3A5004
    if d.dueSec x.creditAt then (d.setQueue q { x with creditAt := some d.clk.now }).raise 393 q else d
  | some b =>
    (d.used.push q { src := 8 + pipeOf port, typ := 1, tag := 0, words := 10, buf := some b
                     flds := [b, vid, if f.own then d.used.freeN % 8 else port, if f.own then (f.bytes none).length else f.len, u.off, u.len, u.head]
                     seenAt := 0 }).1.used

/-- Multicast or broadcast: the group bit of the first byte on the wire. -/
def isGroup (mac : Nat) : Bool := mac.testBit 0

/-- An interface of 3A40:01 (R378). -/
structure Iface where
  vid : Nat
  l4  : Nat
  l6  : Nat
  v4  : Nat
  v6  : Nat

/-- The interfaces. -/
def Dev.ifaces (d : Dev) : List Iface :=
  (records 24 (d.oct 0x3A4001)).map (fun r =>
    { vid := fieldN r 0 2 % 4096, l4 := fieldN r 2 1, l6 := fieldN r 3 1, v4 := fieldN r 4 4, v6 := fieldN r 8 16 })

/-- The device's own station address. -/
def Dev.ownMac (d : Dev) : Nat := leNat (d.oct 0x3A0001)

/-- The link-local address formed from 3A00:01: fe80::/64 with the modified EUI-64. -/
def Dev.linkLocal (d : Dev) : Nat :=
  let m := leBytes 6 d.ownMac
  let b0 : Nat := Nat.xor (d.ownMac % 256) 2
  leNat ([0xFE, 0x80, 0, 0, 0, 0, 0, 0] ++ leBytes 1 b0 ++ (m.drop 1).take 2 ++ [0xFF, 0xFE] ++ m.drop 3)

/-- True where an address is one of an interface, or its directed broadcast (R378). -/
def Dev.ifaceHas (d : Dev) (i : Iface) (v6 : Bool) (a : Nat) : Bool :=
  if v6 then decide (i.l6 ≠ 0) && (decide (a = i.v6) || decide (a = d.linkLocal))
  else
    let host := 2 ^ (32 - i.l4)
    let net := swapBytes 4 i.v4
    decide (i.l4 ≠ 0) && (decide (a = i.v4) || decide (swapBytes 4 a = net / host * host + (host - 1)))

/-- A destination address of an interface: its own, its directed broadcast, or a group that a configured function of the device uses, which the model
takes to be the groups of PTP while a PTP port has a profile, and 3820:02 (R378, log 81). -/
def Dev.ourAddr (d : Dev) (i : Iface) (v6 : Bool) (a : Nat) : Bool :=
  let flood := leNat (d.oct 0x382002)
  d.ifaceHas i v6 a || (ptpGroup v6 a && (decide (d.nat 0x222001 ≠ 0) || decide (d.nat 0x222101 ≠ 0)))
    || (if v6 then decide (a % 256 = 0xFF) && decide (a = flood)
      else decide (224 ≤ a % 256 ∧ a % 256 < 240) && decide (flood = leNat (zeros 10 ++ [0xFF, 0xFF]) + 2 ^ 96 * a))

/-- A PTP frame of a port whose PTP port has a profile: it goes to the timestamp unit (R391). -/
def Dev.forStamps (d : Dev) (port : Nat) (f : Pkt) : Bool :=
  f.ptp && decide (port < 2) && decide (d.nat ((0x2220 + port) * 256 + 1) ≠ 0)

/-- True where a frame is local (R378). `vid` is its VID. -/
def Dev.isLocal (d : Dev) (port vid : Nat) (f : Pkt) : Bool :=
  d.forStamps port f || (match d.ifaces.find? (fun i => i.vid == vid) with
    | none => false
    | some i =>
      f.arp || ((decide (f.dst = d.ownMac) || isGroup f.dst) && (match f.ip with
        | some p => d.ourAddr i p.v6 p.dst
        | none => false)))

/-- The kind 3 key of a neighbour (R390, R401). -/
def neighbourKey (vid : Nat) (v6 : Bool) (addr : Nat) : Nat :=
  vid % 4096 + 2 ^ 16 * (if v6 then 6 else 4) + 2 ^ 24 * addr + 3 * 2 ^ 184

/-- The firmware writes a kind 3 entry for a neighbour that it resolves by ARP or ND (R393). -/
def Dev.neighbour (d : Dev) (vid : Nat) (v6 : Bool) (addr mac : Nat) : Dev :=
  let e : Entry := { key := neighbourKey vid v6 addr, val := 2 ^ 16 * mac }
  let x := d.sw.sess
  match x.find sessShape e.key with
  | some i => { d with sw := { d.sw with sess := x.set i e } }
  | none => match x.insert sessShape e with
    | some (y, _) => ({ d with sw := { d.sw with sess := y } }).sessStatus
    | none => d.sessFull

/-- A local frame (R391): telegrams by kind 1, where they come by a port of 3420:02 (R325), other UDP by kind 2, the rest and every miss to 3A40:02. PTP of ports 0 and 1 goes
to the timestamp units. -/
def Dev.deliver (d : Dev) (port vid : Nat) (f : Pkt) : Dev :=
  if d.forStamps port f then d
  else
    let d := match f.announced with
      | some a => if d.up 8 then d.neighbour vid a.1 a.2.1 a.2.2 else d
      | none => d
    match f.ip.bind (fun p => p.udp.map (fun u => (p, u))) with
    | none => d.steer (d.nat 0x3A4002) port vid f
    | some (p, u) =>
      if u.dport = d.nat 0x342001 ∧ !d.bit 0x342002 port then d else
      let key := if u.dport = d.nat 0x342001 then telegramKey u.dport (bitsOf u.head 95 64) (bitsOf u.head 31 24)
        else u.dport + 2 ^ 16 * (if p.v6 then 6 else 4) + 2 ^ 24 * p.src + 2 * 2 ^ 184
      match d.sw.sess.get sessShape key with
      | some e => if e.val.testBit 1 then d else d.steer (bitsOf e.val 15 8) port vid f
      | none => (d.inc32 0x3A5003).steer (d.nat 0x3A4002) port vid f

/-- A learn request of a pipeline (R380): one insert is in progress, 32 may wait, and a further one is dropped and counted. An insert takes a free time
within 2 µs, and its entry is found from its request on (log 80). -/
def Dev.learnNew (d : Dev) (k key port : Nat) : Dev :=
  let p := d.pipe k
  let busy := p.inserts.filter (fun t => decide (d.clk.now < t))
  if 33 ≤ busy.length then (d.setPipe k { p with inserts := busy }).inc32 (0x3A2105 + k)
  else
    let done := max d.clk.now (busy.getLast?.getD 0) + d.freeN % 2501
    let d := (d.setPipe k { p with inserts := busy ++ [done] }).used
    match p.mac.insert macShape { key := key, val := macFresh port } with
    | some (x, _) => ((d.setPipe k { d.pipe k with mac := x }).macStatus k).post k 0 key port
    | none => (d.inc32 (0x3A2105 + k)).macFull k

/-- Source lookup and learning (R380). The second result tells that the frame is to be discarded. -/
def Dev.learn (d : Dev) (port vid : Nat) (f : Pkt) : Dev × Bool :=
  let k := pipeOf port
  let p := d.pipe k
  let key := macKey vid f.src
  let on := d.flag (portSet port 6) && !isGroup f.src && (match d.vlan vid with
    | some v => !v.2.2.2
    | none => false)
  match p.mac.find macShape key with
  | some i =>
    match tabGet p.mac.ways i with
    | none => (d, false)
    | some e =>
      let drop := e.val.testBit 5
      if macStatic e.val ∨ !on then (d, drop)
      else if !macRemote e.val ∧ macPort e.val = port then
        (d.setPipe k { p with mac := p.mac.set i { e with val := macTouch e.val } }, drop)
      else
        let d := d.setPipe k { p with mac := p.mac.set i { e with val := macFresh (e.val % 256 / 32 * 32 + port) } }
        (((d.inc32 (0x3A2107 + k)).raise 390 (k * 256 + port)).post k 1 key port, drop)
  | none => if on then (d.learnNew k key port, false) else (d, false)

/-- A frame to a station in a VID (R378): by the MAC table of a pipeline, else flooded. `port` is 8 for a frame that the device sends. No frame is
flooded to its ingress port, and only a routed one returns to it where the table says so (log 93). -/
def Dev.bridge (d : Dev) (k port vid : Nat) (f : Pkt) : Dev :=
  if isGroup f.dst then d.floodOn port vid f
  else match (d.pipe k).mac.get macShape (macKey vid f.dst) with
    | none => d.floodOn port vid f
    | some e =>
      if e.val.testBit 5 then d
      else
        let d := if e.val.testBit 6 then d.steer (d.nat 0x3A4002) port vid f else d
        if macPort e.val = port ∧ !f.routed then d else d.sendOn (macPort e.val) vid f

/-- Punt a frame to the core for its next hop to be resolved: at most 1,000 a second for each pipeline (R395). -/
def Dev.punt (d : Dev) (k port vid : Nat) (f : Pkt) : Dev :=
  let p := d.pipe k
  let fresh := decide (p.puntAt + secT ≤ d.clk.now)
  let n := if fresh then 0 else p.punts
  if 1000 ≤ n then d
  else
    let d := d.setPipe k { p with puntAt := if fresh then d.clk.now else p.puntAt, punts := n + 1 }
    (d.inc32 0x3A6006).steer (d.nat 0x3A4002) port vid f

/-- A routed frame (R394, R395). -/
def Dev.routed (d : Dev) (k port vid : Nat) (f : Pkt) (p : IpPart) : Dev :=
  if p.ttl ≤ 1 then d.inc32 0x3A6005
  else match d.routeFor p.v6 p.dst with
    | none => d
    | some r =>
      if r.val.testBit 145 then d
      else if r.val.testBit 146 then d.deliver port vid f
      else
        let hop := if r.val.testBit 144 then p.dst else if p.v6 then r.val % 2 ^ 128 else r.val % 2 ^ 32
        let out := bitsOf r.val 139 128
        match d.sw.sess.get sessShape (neighbourKey out p.v6 hop) with
        | none => d.punt k port vid f
        | some n => d.bridge k port out { f.hop p with dst := bitsOf n.val 63 16, src := d.ownMac }

/-! Frames that the device sends (R376, R378, R379, R382). -/

/-- The group MAC that an address in transmission order maps to, IPv4 or IPv6 (R309). -/
def groupMac (v6 : Bool) (a : Nat) : Nat :=
  if v6 then 0x3333 + 2 ^ 16 * (a / 2 ^ 96) else leNat [0x01, 0x00, 0x5E] + 2 ^ 24 * (leNat [BitVec.ofNat 8 (a / 2 ^ 8 % 128)] + 2 ^ 8 * (a / 2 ^ 16))

/-- Where a datagram leaves: VLAN and next hop. An address within an interface's prefix stands in its VLAN; else the route trie says. A group goes out by
the first interface of its version where no VLAN is set for it (log 82). -/
def Dev.wayOut (d : Dev) (v6 : Bool) (a : Nat) (vid : Option Nat) : Option (Nat × Nat) :=
  let group := if v6 then decide (a % 256 = 0xFF) else decide (224 ≤ a % 256 ∧ a % 256 < 240)
  let w := if v6 then 16 else 4
  let near (i : Iface) : Bool :=
    let l := if v6 then i.l6 else i.l4
    let own := if v6 then i.v6 else i.v4
    decide (l ≠ 0) && (group || decide (swapBytes w own / 2 ^ (8 * w - l) = swapBytes w a / 2 ^ (8 * w - l)))
  match vid with
  | some v => some (v, a)
  | none => match d.ifaces.find? near with
    | some i => some (i.vid, a)
    | none => match d.routeFor v6 a with
      | none => none
      | some r =>
        if r.val.testBit 145 ∨ r.val.testBit 146 then none
        else some (bitsOf r.val 139 128, if r.val.testBit 144 then a else r.val % 2 ^ (8 * w))

/-- The MAC of a neighbour: its kind 3 entry, else what ARP or ND resolves, which is free and is written as an entry (R393, log 82). -/
def Dev.macOf (d : Dev) (vid : Nat) (v6 : Bool) (a : Nat) : Dev × Nat :=
  match d.sw.sess.get sessShape (neighbourKey vid v6 a) with
  | some e => (d, bitsOf e.val 63 16)
  | none =>
    let m := d.freeN % 2 ^ 48
    (d.used.neighbour vid v6 a m, m)

/-- A datagram of the device: version, destination in transmission order, UDP ports, VLAN where one is set, data, and the switch ports on which it
may leave. -/
structure Dgram where
  v6    : Bool
  addr  : Nat
  sport : Nat
  dport : Nat
  vid   : Option Nat
  data  : List Byte
  ports : Nat := 255

/-- The device sends a datagram by pipeline A (R376, R378, R382): by its MAC table in the VLAN concerned, else flooded there. -/
def Dev.sendUdp (d : Dev) (g : Dgram) : Dev :=
  match d.wayOut g.v6 g.addr g.vid with
  | none => d
  | some (vid, hop) =>
    let i := d.ifaces.find? (fun i => i.vid == vid)
    let own := match i with
      | some i => if g.v6 then i.v6 else i.v4
      | none => 0
    let cast := match i with
      | some i => !g.v6 && decide (hop ≠ i.v4) && d.ifaceHas i false hop
      | none => false
    let group := if g.v6 then decide (hop % 256 = 0xFF) else decide (224 ≤ hop % 256 ∧ hop % 256 < 240)
    let r := if group then (d, groupMac g.v6 hop) else if cast then (d, 2 ^ 48 - 1) else d.macOf vid g.v6 hop
    let body := udpBody g.v6 own g.addr g.sport g.dport r.1.frees g.data
    r.1.used.bridge 0 8 vid { dst := r.2, src := d.ownMac, tci := none, body := body, len := 0, own := true, ports := g.ports }

/-- A datagram to an address of 16 bytes, IPv6 or IPv4-mapped. -/
def dgram16 (a sport dport : Nat) (vid : Option Nat) (data : List Byte) : Dgram :=
  let v4 := decide (a % 2 ^ 96 = leNat (zeros 10 ++ [0xFF, 0xFF]))
  { v6 := !v4, addr := if v4 then a / 2 ^ 96 else a, sport := sport, dport := dport, vid := vid, data := data }

/-- What of the device's outputs leaves as a UDP datagram: Ledger (R53), telegrams (R325), pulse messages (R110) and RTCM 3 (R170, R172), each with the
number that tells one datagram of RTCM 3 from the next. -/
def Dev.dgramOf (d : Dev) (s : Sent) : Option (Dgram × Option (Nat × Nat)) :=
  let w (i : Nat) : Nat := s.whom.getD i 0
  let data := s.wire.getD []
  let plain (g : Dgram) : Option (Dgram × Option (Nat × Nat)) := some (g, none)
  let ledger := plain { v6 := decide (w 2 = 2), addr := w 0, sport := d.led.port, dport := w 1, vid := none, data := data }
  let vehicle := plain { dgram16 (w 1) (d.nat 0x342001) (w 2) none data with ports := d.nat 0x342002 }
  let rtcm := some (dgram16 (w 0) (w 3) (w 1) (if w 2 = 0 then none else some (w 2))
    ((List.range (w 6)).map (Config.rtcmByte s.flds)), some (w 4, w 5))
  match s.kind with
  | .ledgerReply => ledger
  | .notify => ledger
  | .fix => vehicle
  | .grant => vehicle
  | .setpoints => vehicle
  | .permission => vehicle
  | .taskStatus => vehicle
  | .ppsMessage => plain (dgram16 (w 0) (w 2) (w 1) none data)
  | .rtcmStation => rtcm
  | .rtcmDescriptor => rtcm
  | .rtcmBias => rtcm
  | .rtcmMsm => rtcm
  | _ => none

/-- Frames of RTCM 3 of one datagram stand in it together (R172). -/
def joinDgrams : List (Dgram × Option (Nat × Nat)) → List (Dgram × Option (Nat × Nat))
  | [] => []
  | x :: rest =>
    match joinDgrams rest with
    | y :: ys => if x.2.isSome ∧ x.2 = y.2 then ({ x.1 with data := x.1.data ++ y.1.data }, x.2) :: ys else x :: y :: ys
    | [] => [x]

/-- What the device has sent since pipeline A last took frames of it enters the pipeline, oldest first (R376). Nothing in the switch changes between
the sending and this moment, since every command that changes it begins with this (log 82). -/
def Dev.sendOwn (d : Dev) : Dev :=
  let new := (d.out.take (d.out.length - d.sw.given)).reverse
  let l := joinDgrams (new.filterMap d.dgramOf)
  let d : Dev := l.foldl (fun d x => d.sendUdp x.1) { d with sw := { d.sw with given := d.out.length } }
  { d with sw := { d.sw with given := d.out.length } }

/-- What the device has sent enters pipeline A before the switch changes. -/
def Dev.ownFirst (d : Dev) : Dev := if d.up 7 then d.sendOwn else d

/-- A happening of the switch: only while its island is in state 3, and after what the device itself has sent. -/
def Dev.atSwitch (d : Dev) (f : Dev → Dev) : Dev := d.when (d.up 7) (fun d => f d.sendOwn)

/-- The ingress buffer (R373): PAUSE is sent at 48 KiB and ended at 16 KiB, where it is resolved. -/
def Dev.backPressure (d : Dev) (port fill : Nat) : Dev :=
  let x := d.port port
  if !d.bit (portKey port 3) 1 then d
  else if 49152 ≤ fill ∧ !x.pausing then
    (d.setPort port { x with pausing := true }).emit .pauseOut [port] [0xFFFF]
  else if fill ≤ 16384 ∧ x.pausing then
    (d.setPort port { x with pausing := false }).emit .pauseOut [port] [0]
  else d

/-- The time that bytes take on a line at a speed in Mb/s, in ticks. -/
def lineTicks (n speed : Nat) : Nat := if speed = 0 then 0 else n * 8 * 1250 / speed

/-- Stages 3 to 8 of a pipeline for a frame that its port accepts (R376 to R379). -/
def Dev.forward (d : Dev) (port : Nat) (f : Pkt) : Dev :=
  let vid := if f.tagVid ≠ 0 then f.tagVid else d.nat (portSet port 4)
  let rule := d.nat (portSet port 5)
  let member := match d.vlan vid with
    | some v => v.2.1.testBit port
    | none => false
  if (rule = 1 ∧ f.tagVid = 0) ∨ (rule = 2 ∧ f.tagVid ≠ 0) ∨ !member then d.inc32 (portKey port 7)
  else
    let r := d.learn port vid f
    let d := r.1
    let k := pipeOf port
    if r.2 then d
    else if d.isLocal port vid f then
      let d := d.deliver port vid f
      if isGroup f.dst then d.floodOn port vid f else d
    else match f.ip, d.ifaces.any (fun i => i.vid == vid) && decide (f.dst = d.ownMac) with
      | some p, true => d.routed k port vid f p
      | _, _ => d.bridge k port vid f

/-- A received PAUSE holds the transmitter at the next frame boundary for its time, where it is obeyed (R373); a quantum is 512 bit times. -/
def Dev.obeyPause (d : Dev) (port quanta : Nat) : Dev :=
  if d.bit (portKey port 3) 0 then
    (d.setPort port { d.port port with pausedTo := d.clk.now + lineTicks (quanta * 64) (d.port port).speed }).startPort port
  else d

/-- A frame completes at a port (R374, R376). One whose start-of-frame delimiter came before the link was up is discarded uncounted (R407). -/
def frameReceive (port : Nat) (f : Frame) (d : Dev) : Dev :=
  d.atSwitch (fun d => d.when ((d.port port).up && d.flag (portSet port 1)
      && decide ((d.port port).upAt + lineTicks f.data.length (d.port port).speed ≤ d.clk.now)) (fun d =>
    let d := d.backPressure port f.fill
    let n := f.data.length
    if !frameOk f ∨ n < 64 ∨ d.nat 0x3A0002 < n then d.inc32 (portKey port 6)
    else
      let d := d.setN (portKey port 4) ((d.nat (portKey port 4) + 1) % 2 ^ 64 : Nat)
      let p := pktOf f.data
      if 65536 < f.fill then d.inc32 (portKey port 7)
      else match p.pause with
        | some quanta => d.obeyPause port quanta
        | none => d.forward port p))

def execFrameReceive (dt : Nat) (port : Fin 8) (f : Frame) (s : State) : Out := onDev s dt (frameReceive port.val f)

/-- A notice reaches a pipeline (R381). A move ends the local entry of the pipeline that the station has left (R382). -/
def Dev.applyNotice (d : Dev) (k : Nat) (n : LearnNote) : Dev :=
  let p := d.pipe k
  let put (x : Exact) : Dev := (d.setPipe k { p with mac := x }).macStatus k
  match (p.mac.find macShape n.key).bind (fun i => (tabGet p.mac.ways i).map (fun e => (e, i))) with
  | none =>
    if n.kind = 3 then d
    else match p.mac.insert macShape { key := n.key, val := macFresh (n.port + 16) } with
      | some (x, _) => put x
      | none => (d.inc32 (0x3A2105 + k)).macFull k
  | some (e, i) =>
    if macStatic e.val then d
    else if n.kind = 3 then (if macRemote e.val then put (p.mac.clear i) else d)
    else if n.kind = 2 ∧ macRemote e.val then put (p.mac.set i { e with val := macTouch (e.val / 8 * 8 + n.port) })
    else if macRemote e.val ∨ n.kind = 1 ∨ pipeOf (macPort e.val) ≠ k then
      put (p.mac.set i { e with val := macFresh (e.val % 256 / 32 * 32 + 16 + n.port) })
    else d

/-- The oldest notice on its way to a pipeline arrives, no sooner than 0.2 µs after it was posted (R381). -/
def learnNotice (k : Nat) (d : Dev) : Dev :=
  d.atSwitch (fun d =>
    match (d.pipe k).notices with
    | [] => d
    | n :: rest => if d.clk.now < n.time + 250 then d else (d.setPipe k { d.pipe k with notices := rest }).applyNotice k n)

def execLearnNotice (dt : Nat) (pipe : Fin 2) (s : State) : Out := onDev s dt (learnNotice pipe.val)

/-- The ageing sweep visits an entry (R388), once in every 3A20:01 / 4. A local dynamic entry found refreshed posts a refresh notice (R381). -/
def ageingSweep (k index : Nat) (d : Dev) : Dev :=
  d.atSwitch (fun d => d.when (decide (d.nat 0x3A2001 ≠ 0) && (match tabGet (d.pipe k).swept index with
      | some t => decide (t + d.nat 0x3A2001 * secT / 4 ≤ d.clk.now)
      | none => true)) (fun d =>
    let d := d.setPipe k { d.pipe k with swept := tabPut (d.pipe k).swept index d.clk.now }
    let p := d.pipe k
    match tabGet p.mac.ways index with
    | none => d
    | some e =>
      if macStatic e.val then d
      else if macHit e.val then
        let d := d.setPipe k { p with mac := p.mac.set index { e with val := e.val % 256 } }
        if macRemote e.val then d else d.post k 2 e.key (macPort e.val)
      else if macAge e.val = 3 then ((d.setPipe k { p with mac := p.mac.clear index }).macStatus k).postGone k e
      else d.setPipe k { p with mac := p.mac.set index { e with val := e.val % 256 + 256 * (macAge e.val + 1) } }))

def execAgeingSweep (dt : Nat) (pipe : Fin 2) (index : Nat) (s : State) : Out := onDev s dt (ageingSweep pipe.val index)

/-- After a removal from the buckets the oldest stash entry is re-inserted (R387); it stays where that does not succeed. -/
def stashReinsert (k : Nat) (d : Dev) : Dev :=
  d.atSwitch (fun d => d.when (d.pipe k).freed (fun d =>
    let d := d.setPipe k { d.pipe k with freed := false }
    let p := d.pipe k
    match p.mac.order with
    | [] => d
    | i :: _ => match tabGet p.mac.ways i with
      | none => d
      | some e =>
        let x := p.mac.clear i
        match x.insert { macShape with stash := 0 } e with
        | some (y, _) => (d.setPipe k { p with mac := y }).macStatus k
        | none => d))

def execStashReinsert (dt : Nat) (pipe : Fin 2) (s : State) : Out := onDev s dt (stashReinsert pipe.val)

/-- Speed of a mode, or the PHY's in mode 4 (R372). -/
def portSpeed (mode phy : Nat) : Nat :=
  match mode with
  | 0 => 10000 | 1 => 10000 | 2 => 2500 | 3 => 1000 | _ => if phy = 10 ∨ phy = 100 then phy else 1000

/-- PAUSE as Annex 28B resolves it from the partner's ability, bit 0 PAUSE and bit 1 ASM_DIR, where the port advertises what 3A10 + p:03 allows (R373,
log 79): bit 0 obey, bit 1 send. Modes 0 and 1 do not negotiate. -/
def pauseBits (mode own ability : Nat) : Nat :=
  if mode < 2 then own
  else
    let sym := own.testBit 0
    let r := if sym && ability.testBit 0 then 3
      else if !sym && own.testBit 1 && ability = 3 then 2
      else if sym && ability = 2 then 1
      else 0
    r &&& own

/-- A port of 0 or 1 with a PTP profile in mode 4 at another speed than 1,000 Mb/s is FAULTY, with event source 386 (R375). -/
def Dev.ptpSpeed (d : Dev) (p : Nat) : Dev :=
  if p < 2 ∧ (d.port p).up ∧ d.nat (portSet p 2) = 4 ∧ (d.port p).speed ≠ 1000 ∧ d.nat ((0x2220 + p) * 256 + 1) ≠ 0 then
    (d.setPortState p 2).raise 386 p
  else d

/-- A link is up (R375, R407): 384, once it has been stable for 10 ms. -/
def linkUp (p speed ability : Nat) (d : Dev) : Dev :=
  d.atSwitch (fun d => d.when (d.flag (portSet p 1) && !(d.port p).up && !d.quiet && (match (d.port p).downAt with
      | some t => decide (t + 10 * msT ≤ d.clk.now)
      | none => true)) (fun d =>
    let mode := d.nat (portSet p 2)
    let sp := portSpeed mode speed
    let x := d.port p
    let d := d.setPort p { port0 with up := true, speed := sp, ability := ability, upAt := d.clk.now, discards := x.discards, discardAt := x.discardAt }
    let d := ((d.setN (portKey p 1) 2).setN (portKey p 2) sp).setN (portKey p 3) (pauseBits mode (d.nat (portSet p 3)) ability : Nat)
    ((d.inc32 (portKey p 9)).raise 384 p).ptpSpeed p))

def execLinkUp (dt : Nat) (port : Fin 8) (speed ability : Nat) (s : State) : Out := onDev s dt (linkUp port.val speed ability)

/-- Every local dynamic entry that names a port goes, with a removal notice for each (R383). -/
def Dev.forgetPort (d : Dev) (p : Nat) : Dev :=
  let k := pipeOf p
  let gone := (d.pipe k).mac.ways.filter (fun w => !macStatic w.2.val && !macRemote w.2.val && decide (macPort w.2.val = p))
  let x := gone.foldl (fun y w => y.clear w.1) (d.pipe k).mac
  let d := (d.setPipe k { d.pipe k with mac := x }).macStatus k
  gone.foldl (fun d w => d.post k 3 w.2.key p) d

/-- A port goes down or out of service: its egress buffer is discarded and counted (R383, R407). State 1 is down, 0 disabled; the frame in
transmission of a disabled port completes. -/
def Dev.portDown (d : Dev) (p state : Nat) : Dev :=
  let x := d.port p
  let on := if state = 0 then x.sending else none
  let n := x.waiting.length + (if state ≠ 0 ∧ x.sending.isSome then 1 else 0)
  let d := d.setPort p { x with up := false, waiting := [], sending := on, pausedTo := 0, pausing := false, speed := 0, downAt := some d.clk.now }
  let d := ((d.setN (portKey p 1) state).setN (portKey p 2) 0).setN (portKey p 3) 0
  (d.egressDiscard p n).forgetPort p

/-- A link goes down (R407). -/
def linkDown (p : Nat) (d : Dev) : Dev :=
  d.atSwitch (fun d => d.when (d.port p).up (fun d => ((d.portDown p 1).inc32 (portKey p 9)).raise 385 p))

def execLinkDown (dt : Nat) (port : Fin 8) (s : State) : Out := onDev s dt (linkDown port.val)

/-- The time of a received PAUSE ends (R373). -/
def pauseExpiry (p : Nat) (d : Dev) : Dev :=
  d.atSwitch (fun d => if d.clk.now < (d.port p).pausedTo then d else (d.setPort p { d.port p with pausedTo := 0 }).startPort p)

def execPauseExpiry (dt : Nat) (port : Fin 8) (s : State) : Out := onDev s dt (pauseExpiry port.val)

/-- Flood ports that must send (R305): enabled in 3820:01 and linked up. -/
def Dev.floodPorts (d : Dev) : List Nat := (List.range 8).filter (fun p => d.bit 0x382001 p && (d.port p).up)

/-- The bound of R303 step 4 for a port, in model ticks: 400 µs, and on a slow port the time of one frame of 3A00:02 bytes with
its preamble and gap. -/
def Dev.floodBound (d : Dev) (p : Nat) : Nat :=
  let sp := (d.port p).speed
  400 * usT + (if 1000 ≤ sp ∨ sp = 0 then 0 else (d.nat 0x3A0002 + 20) * 8 * 1250 / sp)

/-- The first stop frame of a port has left (R305): 3801:0A takes the time of the last enabled port, and 330 with DETAIL 2 is
raised once where a port exceeds its bound. -/
def Dev.floodLeft (d : Dev) (p : Nat) : Dev :=
  match d.wo.refAt with
  | none => d
  | some t =>
    if d.wo.portsOut.testBit p ∨ !d.stopped then d
    else
      let took := d.clk.now - t
      let out := d.wo.portsOut ||| 2 ^ p
      let late := decide (d.floodBound p < took) && !d.wo.reported.testBit 1
      let d := { d with wo := { d.wo with portsOut := out, reported := if late then d.wo.reported ||| 2 else d.wo.reported } }
      let d := if d.floodPorts.all (fun x => out.testBit x) then d.setN 0x38010A (min (took / 125) 65535 : Nat) else d
      d.raiseIf late 330 2

/-- A port has sent its frame and begins the next (R309, R379). -/
def frameTransmitEnd (p : Nat) (d : Dev) : Dev :=
  d.atSwitch (fun d =>
    match (d.port p).sending with
    | none => d.startPort p
    | some f =>
      let d := d.setPort p { d.port p with sending := none }
      let d := d.setN (portKey p 5) ((d.nat (portKey p 5) + 1) % 2 ^ 64 : Nat)
      let d := d.emit (if f.cls = 4 then .stopTelegram else .frameOut) [p] f.flds
      let d := if f.cls = 4 ∧ f.flds.head? ≠ some 0 then d.floodLeft p else d
      d.startPort p)

def execFrameTransmitEnd (dt : Nat) (port : Fin 8) (s : State) : Out := onDev s dt (frameTransmitEnd port.val)

/-- The VLANs of the flood: 0 for untagged (3820:04). -/
def Dev.floodVlans (d : Dev) : List Nat := ((records 2 (d.oct 0x382004)).map leNat).filter (fun v => v ≠ 0xFFFF)

/-- The Ethernet destination of the flood (R309): the group address that an IPv4 or IPv6 multicast address maps to, else broadcast. -/
def floodMac (addr : List Byte) : Nat :=
  let be (n : Nat) : Nat := leNat ((addr.drop (16 - n)).reverse)
  if fieldN addr 0 1 = 0xFF then 0x333300000000 + be 4
  else if 224 ≤ fieldN addr 12 1 ∧ fieldN addr 12 1 < 240 then 0x01005E000000 + be 3 % 2 ^ 23
  else 0xFFFFFFFFFFFF

/-- A wave (R308, R309, R343): one stop telegram on every flood port that is up, for each VLAN. Its fields are the level, the
repetition, causes, instant, step count, stop sequence, term, VLAN, address, UDP port of source and destination, Ethernet destination, and
the priority code point of a tagged frame. -/
def Dev.wave (d : Dev) (level rep seq : Nat) : Dev :=
  let v4 := decide ((d.oct 0x382002).take 12 = zeros 10 ++ [0xFF, 0xFF])
  let instant := if level = 0 then d.num 0x380106 else d.num 0x380105
  d.floodPorts.foldl (fun (d : Dev) p => d.floodVlans.foldl (fun (d : Dev) (v : Nat) =>
    d.enqueue p { cls := 4, len := 18 + (if v4 then 20 else 40) + 8 + 52 + (if v = 0 then 0 else 4)
                  flds := [(level : Int), min rep 65535, d.num 0x380104, instant, d.num 0x220006, seq, d.num 0x440203, (v : Int)
                          , leNat (d.oct 0x382002), d.num 0x382003, floodMac (d.oct 0x382002), 7] }) d) d

/-- The number of the wave whose instant has come a time after the effect instant (R308): every 5 ms up to 495 ms, then at 500 ms and
every 100 ms. -/
def waveAt (t : Nat) : Nat := if t < 500 * msT then t / (5 * msT) else 100 + (t - 500 * msT) / (100 * msT)

/-- An instant of the flood schedule (R308). A wave that fell while the switch was down is not sent later (R319). -/
def floodWave (d : Dev) : Dev :=
  d.when (d.up 7) (fun d =>
    match d.wo.flood with
    | none => d
    | some (t, next) =>
      let n := waveAt (d.clk.now - t)
      if n < next then d
      else ({ d with wo := { d.wo with flood := some (t, n + 1) } } : Dev).wave d.woLevel n (d.nat 0x380103))

def execFloodWave (dt : Nat) (s : State) : Out := onDev s dt floodWave

/-- A clear wave (R317): repetitions 0, 1 and 2 with the sequence of the stop cleared. -/
def clearWave (d : Dev) : Dev :=
  d.when (d.up 7) (fun d =>
    match d.wo.clearing with
    | none => d
    | some (next, seq) =>
      let n := (d.clk.now - d.wo.clearAt) / (5 * msT)
      if n < next then d
      else
        let d := { d with wo := { d.wo with clearing := if n < 2 then some (n + 1, seq) else none } }
        if n ≤ 2 then d.wave 0 n seq else d)

def execClearWave (dt : Nat) (s : State) : Out := onDev s dt clearWave

/-- A correctable error is counted, and reported at most once a minute (R405). -/
def Dev.eccFixed (d : Dev) : Dev :=
  let d := d.inc32 0x3A9001
  let due := match d.sw.eccAt with
    | none => true
    | some t => decide (t + 60 * secT ≤ d.clk.now)
  if due then ({ d with sw := { d.sw with eccAt := some d.clk.now } }).raise 395 0 else d

/-- The SRAM row of an entry: 16 ways to a row (log 17). -/
def rowOfEntry (table index : Nat) : Nat := table * 2 ^ 20 + index / 16

/-- A faulty MAC entry of a pipeline: a dynamic or REMOTE one is removed, a STATIC one waits for its rewrite (R406). -/
def Dev.macFault (d : Dev) (k index : Nat) : Dev :=
  let p := d.pipe k
  match tabGet p.mac.ways index with
  | none => d
  | some e =>
    let d := d.setPipe k { p with mac := p.mac.clear index }
    let wait := if macStatic e.val then [(k + 1, e)] else []
    (({ d with sw := { d.sw with faulty := d.sw.faulty ++ wait } } : Dev).macStatus k).postGone k e

/-- A faulty session entry waits for its rewrite. -/
def Dev.sessFault (d : Dev) (index : Nat) : Dev :=
  match tabGet d.sw.sess.ways index with
  | none => d
  | some e => ({ d with sw := { d.sw with sess := d.sw.sess.clear index, faulty := d.sw.faulty ++ [(4, e)] } } : Dev).sessStatus

/-- A faulty route waits for its rewrite. -/
def Dev.routeFault (d : Dev) (v6 : Bool) (index : Nat) : Dev :=
  match (d.routes v6)[index]? with
  | none => d
  | some e =>
    ({ d with sw := { d.sw with faulty := d.sw.faulty ++ [(if v6 then 6 else 5, e)] } } : Dev).setRoutes v6 ((d.routes v6).eraseIdx index)

/-- The trie node of a number: those of IPv4 from 0, those of IPv6 from 2,048, in the order of `routeTrie` (log 17). -/
def Dev.trieNode (d : Dev) (index : Nat) : Option (Bool × Nat × Nat) :=
  if index < 2048 then ((routeTrie false d.sw.routes4)[index]?).map (fun x => (false, x)) else ((routeTrie true d.sw.routes6)[index - 2048]?).map (fun x => (true, x))

/-- A faulty trie node waits for the trie to be rebuilt; lookups miss it and what stands below it (R406). -/
def Dev.nodeFault (d : Dev) (index : Nat) : Dev :=
  match d.trieNode index with
  | some n => { d with sw := { d.sw with badNodes := n :: d.sw.badNodes } }
  | none => d

/-- Bucket row `row` of a pipeline's MAC table is emptied into the stash (R544): its entries take the lowest free slots, and one that finds none is
handled as faulty. A row holds 16 ways (log 17). -/
def Dev.emptyRow (d : Dev) (k row : Nat) : Dev :=
  ((List.range 16).map (fun i => 16 * row + i)).foldl (fun (d : Dev) i =>
    let p := d.pipe k
    match tabGet p.mac.ways i with
    | none => d
    | some e =>
      match ((List.range 64).map (fun s => stashBase + s)).find? (fun s => (tabGet p.mac.ways s).isNone) with
      | some s =>
        let x := p.mac.clear i
        (d.setPipe k { p with mac := { ways := tabPut x.ways s e, order := x.order ++ [s] } }).macStatus k
      | none => d.macFault k i) d

/-- An SRAM row of the switch is retired (R406, R544). Arrays 1 and 2 hold the buckets of the MAC tables. -/
def Dev.retireSwitchRow (d : Dev) (array row cause : Nat) : Dev :=
  let d := if array = 1 ∨ array = 2 then d.emptyRow (array - 1) row else d
  ((d.spareRow 7 array row cause).inc32 0x3A9003).raise 397 0

/-- A row with two such faults within 24 h is retired (R406). -/
def Dev.rowFault (d : Dev) (table index : Nat) : Dev :=
  let row := rowOfEntry table index
  let old := tabGetD d.sw.rowFaults row (0, d.clk.now)
  let again := decide (d.clk.now < old.2 + 86400 * secT)
  if again && decide (1 ≤ old.1) then
    ({ d with sw := { d.sw with rowFaults := tabDel d.sw.rowFaults row } } : Dev).retireSwitchRow table (index / 16) 1
  else { d with sw := { d.sw with rowFaults := tabPut d.sw.rowFaults row (1, d.clk.now) } }

/-- An uncorrectable error or a signature mismatch of an entry (R406): counted and reported with a Moraine entry; the lookup
that found it misses the entry. Table 7 stands for a trie node. A lookup of a frame that finds the fault is given before the frame, at the same moment
(log 3). -/
def Dev.entryFault (d : Dev) (table index : Nat) : Dev :=
  let d := (d.inc32 0x3A9002).raiseM 396 table 7 index
  let d := match table with
    | 1 => d.macFault 0 index
    | 2 => d.macFault 1 index
    | 4 => d.sessFault index
    | 5 => d.routeFault false index
    | 6 => d.routeFault true index
    | 7 => d.nodeFault index
    | _ => d
  d.rowFault table index

/-- The ECC and signature sweep visits an entry (R405, R406). -/
def shadowSweep (table index : Nat) (v : Ecc) (d : Dev) : Dev :=
  d.atSwitch (fun d =>
    match v with
    | .clean => d
    | .corrected => d.eccFixed
    | .uncorrectable => d.entryFault table index)

def execShadowSweep (dt : Nat) (table index : Nat) (verdict : Ecc) (s : State) : Out := onDev s dt (shadowSweep table index verdict)

/-- A faulty entry is rewritten from the copy in DRAM; for table 7, the trie of the version `key` (0 for IPv4) is rebuilt (R406). -/
def entryRewrite (table key : Nat) (d : Dev) : Dev :=
  d.atSwitch (fun d => d.when (d.up 9) (fun d =>
    if table = 7 then d.setRoutes (decide (key ≠ 0)) (d.routes (decide (key ≠ 0)))
    else match d.sw.faulty.find? (fun x => x.1 == table && x.2.key == key) with
      | none => d
      | some (_, e) =>
        ({ d with sw := { d.sw with faulty := d.sw.faulty.filter (fun x => !(x.1 == table && x.2.key == key)) } } : Dev).rewrite table e))

def execEntryRewrite (dt : Nat) (table key : Nat) (s : State) : Out := onDev s dt (entryRewrite table key)

end Sys2Proof.Machine
end

