-- ==== Sys2Proof/Machine/PairCore.lean ====
section
/-!
DEFINITION. What a unit takes from the Cairns it holds at a Thaw (R465, R486, R491, R492), how it becomes ACTIVE (R475, R481)
and the condition it shows (R479).
-/
namespace Sys2Proof.Machine

/-- The unit's role (R474). -/
def Dev.role (d : Dev) : Nat := d.nat 0x440201

/-- True on a unit strapped as one of a pair (R473). -/
def Dev.inPair (d : Dev) : Bool := decide (d.nat 0x440001 = 1 ∨ d.nat 0x440001 = 2)

/-- One complete Cairn is newer than another: the higher TERM, and then the higher GENERATION (R486). -/
def CairnHeld.newer (a b : CairnHeld) : Bool := decide (b.term < a.term) || (decide (a.term = b.term) && decide (b.gen < a.gen))

/-- The newest of the Cairns held that satisfy a condition. -/
def Dev.newestCairn (d : Dev) (ok : CairnHeld → Bool) : Option CairnHeld :=
  match d.pair.slotA.filter ok, d.pair.slotB.filter ok with
  | some a, some b => if b.newer a then some b else some a
  | some a, none => some a
  | none, b => b

/-- The newest complete Cairn (R486). -/
def Dev.cairnComplete (d : Dev) : Option Cairn := (d.newestCairn (fun h => h.cairn.isSome)).bind (·.cairn)

/-- The newest usable Cairn: complete, and of the unit's own settings generation (R486). -/
def Dev.cairnToUse (d : Dev) : Option Cairn :=
  (d.newestCairn (fun h => (h.cairn.map (fun c => decide (c.setGen = d.nat 0x44020F))).getD false)).bind (·.cairn)

/-- A stop begins from CLEAR by a cause of the device's own start (R319). -/
def Dev.startStop (d : Dev) (cause : Nat) (k : Key) : Dev := (d.setN 0x380101 0).woAct cause (d.nat k)

/-- Whiteout at the start of the peripheral island in a Thaw (R319, R320, R465, R491): after kind 6 from the newest usable Cairn,
or from a newer STOP_NOTICE; ACTIVE with cause 7 where there is none and after the other kinds. -/
def Dev.startWhiteout (d : Dev) : Dev :=
  match (if d.pwr.kind = 6 then d.cairnToUse else none) with
  | none => d.startStop 7 0x38100E
  | some c =>
    let seq := ((d.cairnComplete).map (·.stopSeq)).getD c.stopSeq
    match d.pair.notice with
    | some n => if c.instant < n.time ∧ d.inPair then d.takeStop n.seq n.state n.level else d.takeStop seq c.woState c.level
    | none => d.takeStop seq c.woState c.level

/-- Reservations, tasks and paths at the start of the fleet engines in a Thaw (R457, R465): from the Cairn after kind 6. -/
def Dev.startFleet (d : Dev) : Dev :=
  match (if d.pwr.kind = 6 then d.cairnToUse else none) with
  | none => d.resStatus
  | some c => d.takeCairn c

/-- The unit becomes ACTIVE (R475, R481): its term is taken, it has not been paired in it, and nothing is held back. -/
def Dev.becomeActive (d : Dev) (cairnTerm : Nat) (term : Bool) : Dev :=
  let d := if term then d.newTerm cairnTerm else d
  let d := d.setPair (fun p => { p with paired := false, isolated := false, solo := false, firstPerm := none, waking := 0
                                        switch_ := 0, drill := false, sent := [], busyTill := 0 })
  d.setN 0x440201 2

/-- The condition that heartbeats show (R479): a Thaw given up, a reset of kinds 3 to 5 in progress or ROM recovery (R530), a
switch-over Thaw ended, SOLO, isolation, a failed drill; else normal. -/
def Dev.condition (d : Dev) : Nat :=
  if 3 ≤ d.pwr.thawFails then 2
  else if d.upd.recovery || (d.pwr.thawing && decide (3 ≤ d.pwr.kind ∧ d.pwr.kind ≤ 5)) then 1
  else if d.role = 5 ∧ d.pair.waking = 1 ∧ d.nat 0x205002 = 0 then 6
  else if d.pair.solo then 5
  else if d.pair.isolated then 4
  else if d.nat 0x44020C ≠ 0 then 3
  else 0

/-- Bring 4402:02 into line. -/
def Dev.showCondition (d : Dev) : Dev := d.setN 0x440202 d.condition

/-- A unit becomes STANDBY and enters Hibernate as a role change (R462, R475). -/
def Dev.becomeStandby (d : Dev) : Dev := (d.setN 0x440201 3).enterHibernate

/-- The election of a STARTING unit (R475), held once its core island runs, not during a trial (R522): by the last valid heartbeat. -/
def Dev.elect (d : Dev) : Dev :=
  if d.role = 1 ∧ d.up 8 ∧ d.upd.onTrial = false ∧ (d.bit 0x440205 2 || d.bit 0x440205 3) = true then
    match d.nat 0x440206 with
    | 2 => d.becomeStandby
    | 5 => d.becomeStandby
    | 3 => d.becomeActive 0 true
    | 4 => d.becomeActive 0 true
    | 1 => if d.nat 0x440001 = 1 then d.becomeActive 0 true else d
    | _ => d
  else d

end Sys2Proof.Machine
end

