-- ==== Sys2Proof/Machine/Retire.lean ====
section
/-!
DEFINITION. Retirement of control cores, SRAM rows and DRAM regions (R542 to R545, R549), Firn errors (R417), the wear
measurement (R540) and the power estimate (R26).
-/
namespace Sys2Proof.Machine

/-- A byte of the core map 4842:01 changes. -/
def Dev.mapCore (d : Dev) (n physical : Nat) : Dev :=
  d.setO 0x484201 ((d.oct 0x484201).mapIdx (fun i x => if i = n then BitVec.ofNat 8 physical else x))

/-- A physical core is retired (R543): its running task is READY again at the head of its level, to be given the queue items popped in the dispatch
once more, and the reserve core takes the logical core's number, lists and timers; with no reserve the logical core leaves service and its tasks move. A fault in the
reserve core makes it unusable (R549). -/
def Dev.retireCore (d : Dev) (core cause : Nat) : Dev :=
  let spare := d.physical 7
  match (List.range 7).find? (fun c => decide (d.physical c = core)) with
  | none =>
    if core = spare then ((d.mapCore 7 0xFF).setN 0x484002 (d.nat 0x484002 - 1 : Nat)).retire 2 core cause 8 none else d
  | some c =>
    let d := match (d.core c).run with
      | some j =>
        let x := d.job j
        ((d.setCore c { d.core c with run := none }).setJob j { x with held := [], again := x.held ++ x.again }).enlist c j true
      | none => d
    if spare = 0xFF then ((d.mapCore c 0xFF).retire 2 core cause 8 none).moveReady
    else (((d.mapCore c spare).mapCore 7 0xFF).retire 2 core cause 8 (some spare)).nextJob c

/-- A control core's fault: an uncorrectable error (cause 1), a failed self-test (3) or its slack monitor (5) (R542, R543). -/
def coreRetire (core cause : Nat) (d : Dev) : Dev :=
  d.when (d.up 8 && decide (cause = 1 ∨ cause = 3 ∨ cause = 5)) (fun d => d.retireCore core cause)

def execCoreRetire (dt : Nat) (core : Fin 8) (cause : Nat) (s : State) : Out := onDev s dt (coreRetire core.val cause)

/-- A recovery of an island falls due (R470). -/
def Dev.recoveryDue (d : Dev) (island : Nat) : Dev :=
  if 3 ≤ island ∧ island ≤ 10 ∧ !d.pwr.recDue.contains island then
    { d with pwr := { d.pwr with recDue := d.pwr.recDue ++ [island] } }
  else d

/-- An SRAM row reaches its error count or fails its Thaw test (R542, R544). Bucket rows of a MAC table empty into the stash first. Content lost
in an island that has no copy makes its recovery due. A row of the switch counts in 3A90:03 with event source 397 (R406). -/
def sramRowRetire (island array row cause : Nat) (corrected : Bool) (d : Dev) : Dev :=
  let id := island * 2 ^ 24 + array * 2 ^ 12 + row
  let e := tabGetD d.res.rowErrs id []
  let due := decide (cause = 3) || (decide (cause = 1) && decide (2 ≤ errCount d.clk.now true e)) || (decide (cause = 2) && decide (16 ≤ errCount d.clk.now false e))
  d.when (due && !d.res.bare.contains id) (fun d =>
    if island = 7 then d.retireSwitchRow array row cause
    else
      let d := d.spareRow island array row cause
      if corrected ∨ island = 5 ∨ island = 6 then d else d.recoveryDue island)

def execSramRowRetire (dt : Nat) (island array row cause : Nat) (corrected : Bool) (s : State) : Out :=
  onDev s dt (sramRowRetire island array row cause corrected)

/-- A DRAM region is retired (R545, R547): remapped to the next reserve region, or left in use where none remains. -/
def Dev.retireRegion (d : Dev) (region cause : Nat) : Dev :=
  let left := d.nat 0x484005
  let d : Dev := { d with res := { d.res with regErrs := tabDel d.res.regErrs region } }
  if left = 0 then d.retire 5 region cause 9 none
  else
    let d : Dev := { d with res := { d.res with regions := tabPut d.res.regions region (32 - left) } }
    d.retire 5 region cause 9 (some (32 - left))

/-- What a region held is lost (R545): a staged change set is aborted as at a reset (R48), and a capture segment is freed. -/
def Dev.loseRegion (d : Dev) (lost : DramUse) : Dev :=
  match lost with
  | .other => d
  | .changeSet => if d.nat 0x201003 = 0 then d else d.closeSet
  | .capture n => d.capFree n

/-- A DRAM region reaches its error count (R542, R545). -/
def dramRegionRetire (region cause : Nat) (lost : DramUse) (d : Dev) : Dev :=
  let e := tabGetD d.res.regErrs region []
  let due := (decide (cause = 1) && decide (1 ≤ errCount d.clk.now true e)) || (decide (cause = 2) && decide (8 ≤ errCount d.clk.now false e))
  d.when (d.up 9 && due) (fun d =>
    let d := d.retireRegion region cause
    if cause = 1 then d.loseRegion lost else d)

def execDramRegionRetire (dt : Nat) (region cause : Nat) (lost : DramUse) (s : State) : Out := onDev s dt (dramRegionRetire region cause lost)

/-- An uncorrectable error in a Firn block (R417): its items are lost and the region is retired. -/
def firnError (q block region : Nat) (d : Dev) : Dev := d.when (d.up 9) (fun d => (d.firnLoss q block).retireRegion region 1)

def execFirnError (dt : Nat) (queue : Fin 256) (block region : Nat) (s : State) : Out := onDev s dt (firnError queue.val block region)

/-- A slack monitor below its margin retires a channel, core or lane while a reserve unit of its class remains (R540). -/
def Dev.slackLow (d : Dev) (cls unit : Nat) : Dev :=
  if d.nat (0x484000 + cls) = 0 then d
  else match cls with
    | 1 => d.retireChan unit 5 none
    | 2 => d.retireCore unit 5
    | 3 => d.loseLane unit 5
    | _ => d

/-- The wear monitors are measured, every 24 h and at the end of a Thaw, which starts from a reset (R540): the frequency loss of each island's aging oscillators in ppm, whose share of 3 % is the index in 0.1 %, rounded
down (log 86), then the units below their margin, as class and unit. -/
def wearMeasure (wear slack : List (Nat × Nat)) (d : Dev) : Dev :=
  d.when (d.up 8 && d.dueIn .wear (86400 * secT)) (fun d =>
    let d := d.mark .wear d.clk.now
    let d := wear.foldl (fun (d : Dev) w => d.wear w.1 (min (w.2 / 30) 65535)) d
    slack.foldl (fun (d : Dev) u => d.slackLow u.1 u.2) d)

def execWearMeasure (dt : Nat) (wear slack : List (Nat × Nat)) (s : State) : Out := onDev s dt (wearMeasure wear slack)

/-- The time over the bound, 2040:05, grows by the time since the last estimate, where that one exceeded the bound too (R22). -/
def Dev.overTime (d : Dev) : Dev :=
  let ticks := d.pwr.overRem + (if d.pwr.overAt.isSome then d.clk.now - d.pwr.estAt else 0)
  ({ d with pwr := { d.pwr with overRem := ticks % 1250000 } } : Dev).addSat 0x204005 (ticks / 1250000) 0xFFFFFFFF

/-- An estimate of the core-supply power over the last 10 ms (R22, R26): it stands in 2040:03; above the bound for 1 s without a break it
raises event source 8 with a Moraine entry, and again only after it has stayed below the bound for 1 s. -/
def powerOverBound (mw : Nat) (d : Dev) : Dev :=
  d.when (d.up 8) (fun d =>
    let now := d.clk.now
    let bound := d.nat 0x204004
    let d := (d.overTime).setN 0x204003 (min mw 65535 : Nat)
    let above := if bound < mw then some (d.pwr.overAt.getD now) else none
    let under := if mw < bound then some (d.pwr.underAt.getD now) else none
    let since (o : Option Nat) : Bool := match o with
      | some t => decide (t + secT ≤ now)
      | none => false
    let told := d.pwr.overBound && !since under
    let d : Dev := { d with pwr := { d.pwr with overAt := above, underAt := under, estAt := now, overBound := told || since above } }
    if since above ∧ !told then d.raiseM 8 0 8 else d)

def execPowerOverBound (dt : Nat) (mw : Nat) (s : State) : Out := onDev s dt (powerOverBound mw)

end Sys2Proof.Machine
end

