-- ==== Sys2Proof/Machine/Shown.lean ====
section
/-!
DEFINITION. Status entries that follow from the settings in force: shown at a commit, and again when the core island starts with
settings from the store.
-/
namespace Sys2Proof.Machine

/-- The power bound of an envelope in mW (R21). -/
def envelopeBound (e : Nat) : Nat := if e = 0 then 13500 else if e = 1 then 10500 else 7000

/-- The envelope in force (R22). -/
def Dev.showEnvelope (d : Dev) : Dev :=
  let e := d.nat 0x204001
  (d.setN 0x204002 e).setN 0x204004 (envelopeBound e : Nat)

/-- The grid basis 2C01:01: all zero while no Benchmark is committed (R219). -/
def Dev.showGrid (d : Dev) : Dev := d.setO 0x2C0101 (if d.nat 0x249003 = 0 then zeros 72 else d.basisBytes)

/-- The record counts of the graph tables, and the safe-park nodes (R232). -/
def Dev.showGraph (d : Dev) : Dev :=
  let g := d.graph
  let parks := ((List.range g.nNodes).filter (fun i => ((g.node i).map (·.park)).getD false)).length
  let d := ((d.setN 0x2C1102 (g.nNodes : Nat)).setN 0x2C1103 (g.nArcs : Nat)).setN 0x2C1104 (g.nSegs : Nat)
  (d.setN 0x2C1105 (g.nGroups : Nat)).setN 0x2C1106 (parks : Nat)

/-- The prefixes and the trie nodes used (R234, R238). -/
def Dev.showZones (d : Dev) : Dev :=
  let recs := records 8 (d.oct 0x2C2002)
  (d.setN 0x2C2102 (recs.length : Nat)).setN 0x2C2103 (trieNodes recs : Nat)

/-- Everything shown when the core island starts; SEAL_OFF is the inverse of 4610:07 (R509). -/
def Dev.showAll (d : Dev) : Dev :=
  let d : Dev := { d with wit := { d.wit with sealOff := !d.flag 0x461007 } }
  d.showEnvelope.showGrid.showGraph.showZones

end Sys2Proof.Machine
end

