-- ==== Sys2Proof/Machine/Power.lean ====
section
/-!
DEFINITION. Supplies, Thaw, power states, island recovery and resets (R451 to R472).
-/
namespace Sys2Proof.Machine

/-- The order of Thaw over islands 3 to 10 (R457). -/
def thawOrder : List Nat := [9, 3, 8, 10, 7, 6, 5, 4]

/-- True where an island takes its clock from the cartridge (R11, R457). -/
def needsCart (i : Nat) : Bool := decide (i = 3 ∨ i = 4)

/-- Islands of a Thaw still to start, in their order: those neither running, passed over nor failed. -/
def Dev.thawLeft (d : Dev) : List Nat :=
  if d.pwr.thawing then thawOrder.filter (fun i => decide (d.island i = 0) && !d.pwr.passed.contains i && !d.pwr.failed.contains i)
  else []

/-- The islands of a Thaw still to start once those whose turn has come without a valid cartridge are passed over (R458). -/
def Dev.thawTurn (d : Dev) : List Nat := d.thawLeft.dropWhile (fun i => needsCart i && !d.cart.clockOk)

/-- A passed-over island can start now that the cartridge is valid: the next island of a Thaw waits for it (R458). -/
def Dev.owed (d : Dev) : Bool :=
  d.pwr.vmainPg && d.pwr.passed.any (fun i => decide (d.island i = 0) && (!needsCart i || d.cart.clockOk))

/-- No island is in state 2 (R456). -/
def Dev.noneStarting (d : Dev) : Bool := (List.range 11).all (fun i => decide (d.island i ≠ 2))

/-- What is lost when an island leaves state 3 for a recovery (R471 and the chapters it names). -/
def Dev.loseIsland (d : Dev) (i : Nat) : Dev :=
  match i with
  | 3 => (d.setTimeState 0).capNoTick
  | 4 => d.setO 0x247002 []
  | 5 => d.slotsOn.foldl (fun (d : Dev) n => d.setO (slotKey n 2 1) (zeros 64)) d
  | 6 => d.source 9 0x38100A
  | 7 =>
    let d := d.abortWindow
    let d : Dev := { d with sw := { d.sw with ports := [] }, tele := { d.tele with stale := false } }
    (List.range 8).foldl (fun (d : Dev) p => ((d.setN (portKey p 1) 1).setN (portKey p 2) 0).setN (portKey p 3) 0) d
  | 8 =>
    let d := d.closeSet
    let pend := (List.range 16).foldl (fun (d : Dev) w => d.setN (0x481501 + w) 0) d
    { pend with
      ev := { dev0.ev with counts := d.ev.counts }
      led := { d.led with cache := [], parts := [], waiting := [] }
      can0 := { d.can0 with nmt := .initialisation }, can1 := { d.can1 with nmt := .initialisation } }
  | 9 => d.flushAll.capNoMemory
  | 10 => (List.range 8).foldl Dev.axFallen d
  | _ => d

/-- Both CAN FD ports boot with the node IDs and bit rates set for them, but for a unit in a drill (R74, R75, R501). -/
def Dev.startCan (d : Dev) : Dev :=
  let boot (p : Nat) : CanPort :=
    { nmt := if d.quiet then .initialisation else .preOperational, node := d.nat (0x1E0001 + p * 256), nom := d.nat (0x1E0002 + p * 256)
      dataR := d.nat (0x1E0003 + p * 256) }
  { d with can0 := boot 0, can1 := boot 1 }

/-- What the start of the core island does after a reset: the status that follows from the settings, event source 18 (R468) with entry 512 (R534), the report of a fall-back (R524), the latches
that set while it was down wait for the end of the Thaw; the term of a unit that enters service at once and of a takeover
(R329, R481, R490); the election (R475). -/
def Dev.startCore (d : Dev) : Dev :=
  let d := d.showAll.startCan.raise 18 (d.pwr.kind * 256 + d.pwr.detail % 256)
  let d := d.offer 512 1 0 0 d.pwr.kind d.pwr.detail
  let d := if d.upd.fellBack then
      let n := min (d.nat 0x46010A + 1) 0xFFFFFFFF
      let d : Dev := { d with nv := tabPut d.nv 0x46010A (.num (n : Int)), upd := { d.upd with fellBack := false } }
      (d.setN 0x46010A (n : Nat)).raise 503 d.upd.fallback
    else d
  match d.role with
  | 0 => d.newTerm 0
  | 2 => d.newTerm 0
  | 5 => if d.pair.waking = 1 then d.raise 487 0 else (d.raise 487 0).newTerm (((d.cairnToUse).map (·.term)).getD 0)
  | 1 => ({ d with pair := { d.pair with electAt := d.clk.now } } : Dev).elect
  | _ => d

/-- The built-in tests of an island's start retire what fails: channels, lanes or cores (R154, R457, R541). -/
def Dev.startTests (d : Dev) (i : Nat) (failed : List Nat) : Dev :=
  match i with
  | 4 => failed.foldl (fun (d : Dev) c => if c < 416 then (d.testFailed 4 4 c).retireChan c 3 none else d) d
  | 5 => failed.foldl (fun (d : Dev) l => if l < 136 then (d.testFailed 5 5 l).loseLane l 3 else d) d
  | 8 => failed.foldl (fun (d : Dev) c => if c < 8 then (d.testFailed 8 3 c).retireCore c 3 else d) d
  | _ => d

/-- The start work of an island that reaches state 3 (R457): the flash is in 8D-8D-8D mode at 200 MHz once its parameter table has been read (R566). In a Thaw or, where `again`, in a recovery (R470). The recovered
fleet engines apply the lapses and bucket releases that fell due (R259). -/
def Dev.startIsland (d : Dev) (i : Nat) (again : Bool) : Dev :=
  match i with
  | 3 => d.startTime.capTick
  | 4 => d.startReceiver
  | 5 => d.startEngine
  | 6 => if again then d.settleHolds.freeBuckets else d.startFleet
  | 7 => if again then d.recoverSwitch else d.startSwitch
  | 8 => if again then d.startCan else d.startCore
  | 9 => { d with pwr := { d.pwr with octal := true } }
  | 10 => if again then d.source 8 0x38100A else d.startWhiteout
  | _ => d

/-- A trial's outcome at the end of its Thaw (R522): TRIAL where the migration and every built-in test succeeded; else
TRIAL_FAILED, with defaults in force but for the entries kept. -/
def Dev.judgeTrial (d : Dev) : Dev :=
  if d.upd.onTrial then
    let d : Dev := { d with upd := { d.upd with trialAt := d.clk.now } }
    if d.upd.migrated ∧ d.pwr.failed = [] then (d.setN 0x460101 4).raise 501 0
    else
      let cause := if d.upd.migrated then 2 else 1
      let old := ((d.upd.old.map (·.1)).getD []).filter (fun e => keptOnFailure e.1)
      let d := d.slotsOn.foldl Dev.disableSlot d
      let od := d.od.filter (fun e => (tabGet d.nv e.1).isNone || keptOnFailure e.1)
      let d : Dev := { d with od := old.foldl (fun t e => tabPut t e.1 e.2) od, nv := old }
      (d.setN 0x460101 5).raise 501 cause
  else d

/-- The Thaw ends (R458): the state becomes Run; 19 with the duration; the latches held back are reported (R505); a takeover
becomes ACTIVE (R491); a trial is judged; the wear monitors are read by their own command. -/
def Dev.endThaw (d : Dev) : Dev :=
  let took := d.clk.now - d.pwr.thawAt
  let d : Dev := { d with pwr := { d.pwr with thawing := false, thawEnd := d.clk.now, thawFails := 0, orderly := false } }
  let d := (d.setN 0x207002 (min (took / 125000) 0xFFFFFFFF : Nat)).raise 19 (min (took / 1250000) 65535)
  let d := if d.nat 0x205002 = 0 then d else (d.setN 0x205002 0).raise 20 0
  let d : Dev := { d with wo := { d.wo with wdRun := true, wdAt := d.clk.now } }
  let d := if d.wit.late = 0 then d
    else ({ d with wit := { d.wit with late := 0 } } : Dev).raiseM 498 d.wit.late 1
  let d := d.judgeTrial
  if d.role = 5 ∧ d.pair.waking ≠ 1 then
    let inh := d.pair.inherited
    let n := min (d.nat 0x44020D + 1) 0xFFFFFFFF
    let d : Dev := { d with nv := tabPut d.nv 0x44020D (.num (n : Int)) }
    ((d.setN 0x44020D (n : Nat)).becomeActive 0 false).setPair (fun p => { p with inherited := inh })
  else d.showCondition

/-- The Thaw ends where every island has started, failed or been passed over for want of the cartridge (R458). -/
def Dev.thawDone (d : Dev) : Dev :=
  if d.pwr.thawing ∧ d.thawTurn = [] ∧ d.noneStarting then
    ({ d with pwr := { d.pwr with passed := d.pwr.passed ++ d.thawLeft } } : Dev).endThaw
  else d

/-- A recovery begins (R470): state 4, event source 16. The third of one island within 10 min is not made: a reset of kind 4. -/
def Dev.beginRecovery (d : Dev) (i : Nat) : Dev :=
  let recent := d.pwr.recTimes.filter (fun t => decide (t.1 = i) && decide (d.clk.now < t.2 + 600 * secT))
  if 2 ≤ recent.length then d.restart 4 i
  else
    let d := d.loseIsland i
    let d : Dev := { d with pwr := { d.pwr with
      recNow := some i, recDue := d.pwr.recDue.filter (fun x => x != i), recTimes := (i, d.clk.now) :: d.pwr.recTimes } }
    (d.setN (0x202000 + i) 4).raise 16 i

/-- The recovery due of the lowest island in state 3 begins where none is in progress and no island is in state 2 (R458, R470). -/
def Dev.nextRecovery (d : Dev) : Dev :=
  if d.pwr.recNow.isSome ∨ !d.noneStarting then d
  else match (List.range 11).find? (fun i => d.pwr.recDue.contains i && d.up i) with
    | some i => d.beginRecovery i
    | none => d

/-- What a command has made due is done once it is answered: a reset, or the entry to Hibernate or Glacier. -/
def Dev.doDue (d : Dev) : Dev :=
  match d.pwr.due with
  | none => d
  | some x =>
    let d : Dev := { d with pwr := { d.pwr with due := none } }
    match x with
    | .reset k n => d.restart k n
    | .hibernate => d.enterHibernate
    | .glacier =>
      let d := d.enterHibernate
      let d : Dev := { d with pwr := { d.pwr with orderly := true, aonEn := false, vaonOk := false, glacier := true } }
      d.setN 0x202002 0

/-- A path number below 128 holds an interval, a standing hold or a park (R463). -/
def Dev.pathsHeld (d : Dev) : Bool := d.resv.holds.any (fun h => decide (h.path < 128))

/-- The condition of R463 that refuses a power command; 0 where none does. -/
def Dev.powerRefusal (d : Dev) (v : Nat) : Nat :=
  if v = 2 ∧ d.slotsOn ≠ [] then 1
  else if 2 ≤ v ∧ d.pathsHeld then 2
  else if d.nat 0x201003 = 2 ∨ d.nat 0x201003 = 3 then 3
  else if (v = 1 ∧ d.nat 0x205002 = 0) ∨ (v = 2 ∧ d.nat 0x205002 = 1) then 4
  else 0

/-- Islands 5 and 6 move between states 1 and 3 (R455, R462). -/
def Dev.moveEngines (d : Dev) (from_ to_ : Nat) : Dev :=
  [5, 6].foldl (fun (d : Dev) i => if d.island i = from_ then d.setN (0x202000 + i) to_ else d) d

/-- A power command 2050:01 (R462, R463): refused with RANGE and event source 21, or carried out. -/
def powerCommand (v : DVal) (d : Dev) : Dev × Nat :=
  let n := v.int.toNat
  match d.powerRefusal n with
  | 0 =>
    match n with
    | 1 =>
      let d := d.moveEngines 1 3
      if d.nat 0x205002 = 1 then (((d.setN 0x205002 0).raise 20 0).nextRecovery, 0) else (d, 0)
    | 2 => if d.nat 0x205002 = 0 then (((d.moveEngines 3 1).setN 0x205002 1).raise 20 1, 0) else (d, 0)
    | 3 => ({ d with pwr := { d.pwr with due := some .hibernate } }, 0)
    | 4 => ({ d with pwr := { d.pwr with due := some .glacier } }, 0)
    | _ => (d, 8)
  | c => (d.raise 21 c, 8)

/-- A live write of 2050:01 with a given value. -/
def Dev.powerWrite (d : Dev) (q : Req) (v : Nat) : Dev := (d.command q 0x2050 1 [BitVec.ofNat 8 v] powerCommand).doDue

def execPowerRun (dt : Nat) (q : Req) (s : State) : Out := onDev s dt (fun d => d.powerWrite q 1)
def execPowerIdle (dt : Nat) (q : Req) (s : State) : Out := onDev s dt (fun d => d.powerWrite q 2)
def execPowerHibernate (dt : Nat) (q : Req) (s : State) : Out := onDev s dt (fun d => d.powerWrite q 3)
def execPowerGlacier (dt : Nat) (q : Req) (s : State) : Out := onDev s dt (fun d => d.powerWrite q 4)

/-- The sentry leaves power-on reset, 2 ms after both always-on supplies have passed 90 % (R452, R473): the role strap is read, and a reset of kind 1 begins a Thaw, with detail 1
after Glacier (R467, R468). -/
def powerOnReset (goodUs strap : Nat) (d : Dev) : Dev :=
  d.when (decide (2000 ≤ goodUs)) (fun d =>
    let detail := if d.pwr.orderly then 1 else 0
    (d.setN 0x440001 strap).restart 1 detail)

def execPowerOnReset (dt : Nat) (goodUs : Nat) (strap : Fin 4) (s : State) : Out := onDev s dt (powerOnReset goodUs strap.val)

/-- VMAIN_PG is not high within 100 ms (R453). -/
def vmainPgTimeout (d : Dev) : Dev :=
  d.when (d.up 2 && d.pwr.vmainEn && !d.pwr.vmainPg && decide (d.pwr.vmainAt + 100 * msT ≤ d.clk.now)) (fun d =>
    ({ d with pwr := { d.pwr with vmainEn := false, vmainAt := d.clk.now } } : Dev).raise 24 0)

def execVmainPgTimeout (dt : Nat) (s : State) : Out := onDev s dt vmainPgTimeout

/-- VMAIN_EN is driven high again after 1 s (R453). -/
def vmainRetry (d : Dev) : Dev :=
  d.when (d.up 2 && d.pwr.thawing && !d.pwr.vmainEn && decide (d.pwr.vmainAt + secT ≤ d.clk.now)) (fun d =>
    { d with pwr := { d.pwr with vmainEn := true, vmainAt := d.clk.now } })

def execVmainRetry (dt : Nat) (s : State) : Out := onDev s dt vmainRetry

/-- A main supply has been below 92 % for a time, more than 1 µs for a brown-out (R454). -/
def brownOut (supply lowNs : Nat) (d : Dev) : Dev :=
  d.when (d.up 2 && d.pwr.vmainEn && decide (1000 < lowNs)) (fun d => (d.setBit 0x207001 supply false).restart 2 supply)

def execBrownOut (dt : Nat) (supply : Fin 8) (lowNs : Nat) (s : State) : Out := onDev s dt (brownOut supply.val lowNs)

/-- RESET_N is low for a time; below 5 µs it is ignored (R468). -/
def resetNPulse (lowNs : Nat) (d : Dev) : Dev := d.when (d.up 2 && decide (5000 ≤ lowNs)) (fun d => d.restart 3 0)

def execResetNPulse (dt : Nat) (lowNs : Nat) (s : State) : Out := onDev s dt (resetNPulse lowNs)

/-- A time has passed since the firmware's last kick: 2060:05 and more resets as kind 4 (R468). -/
def watchdogReset (quietMs : Nat) (d : Dev) : Dev := d.when (d.up 8 && decide (d.nat 0x206005 ≤ quietMs)) (fun d => d.restart 4 0)

def execWatchdogReset (dt : Nat) (quietMs : Nat) (s : State) : Out := onDev s dt (watchdogReset quietMs)

/-- 2060:01 (R468): 0x5A resets as kind 5, another value is refused with RANGE. -/
def softwareReset (v : DVal) (d : Dev) : Dev × Nat :=
  if v.int = 0x5A then ({ d with pwr := { d.pwr with due := some (.reset 5 0) } }, 0) else (d, 8)

def execSoftwareReset (dt : Nat) (q : Req) (data : List Byte) (s : State) : Out :=
  onDev s dt (fun d => (d.command q 0x2060 1 data softwareReset).doDue)

/-- VMAIN_PG is seen high (R453): every main supply is good. -/
def Dev.pgHigh (d : Dev) : Dev := ({ d with pwr := { d.pwr with vmainPg := true } } : Dev).setN 0x207001 0xFF

/-- XSPI_RST_N is low for 10 µs, here in ns, and the flash is read in 1S-1S-1S mode at 25 MHz (R566). -/
def Dev.resetFlash (d : Dev) : Dev := ({ d with pwr := { d.pwr with octal := false } } : Dev).emit .flashReset [] [10000]

/-- An island's turn comes and its condition holds (R455 to R458, R470): its turn in Thaw, a passed-over island's with the
cartridge valid, or its restart in a recovery, 1 ms after it was powered off. It enters state 2; no two islands are ever there at once. -/
def thawIslandStart (i : Nat) (d : Dev) : Dev :=
  let fits := !needsCart i || d.cart.clockOk
  let turn := decide (d.thawTurn.head? = some i) && d.pwr.vmainEn && !d.owed
  let late := d.pwr.passed.contains i && decide (d.island i = 0) && d.pwr.vmainPg
  let back := decide (d.island i = 4) && decide (d.pwr.recNow = some i)
    && decide (((d.pwr.recTimes.head?).getD (i, 0)).2 + msT ≤ d.clk.now)
  d.when (d.up 2 && d.noneStarting && fits && !d.upd.recovery && (turn || late || back)) (fun d =>
    let skipped := if turn then d.thawLeft.takeWhile (fun x => x != i) else []
    let d : Dev := { d with pwr := { d.pwr with passed := (d.pwr.passed ++ skipped).filter (fun x => x != i) } }
    let d := if i = 9 then d.pgHigh.resetFlash else d
    d.setN (0x202000 + i) 2)

def execThawIslandStart (dt : Nat) (island : Nat) (s : State) : Out := onDev s dt (thawIslandStart island)

/-- An island completes its start work and enters state 3 (R457): the units whose built-in tests fail are retired; the Thaw
moves on or ends, and a recovery that waited begins. -/
def islandStarted (i : Nat) (failed : List Nat) (d : Dev) : Dev :=
  d.when (decide (3 ≤ i ∧ i ≤ 10) && decide (d.island i = 2)) (fun d =>
    let again := decide (d.pwr.recNow = some i)
    let d : Dev := { d with pwr := { d.pwr with notReady := d.pwr.notReady.filter (fun x => x != i)
                                                failedOnce := d.pwr.failedOnce.filter (fun x => x != i) } }
    let d := (d.setN (0x202000 + i) 3).startIsland i again
    let d := d.startTests i failed
    d.thawDone.nextRecovery)

def execIslandStarted (dt : Nat) (island : Nat) (failed : List Nat) (s : State) : Out := onDev s dt (islandStarted island failed)

/-- An island exceeds its bound or fails its start (R459): powered off and started once more; the second time it stays off, with
event source 22. A memory or core island that fails twice ends the Thaw with islands 3 to 10 off. -/
def islandStartTimeout (i : Nat) (d : Dev) : Dev :=
  d.when (decide (3 ≤ i ∧ i ≤ 10) && decide (d.island i = 2)) (fun d =>
    let back := decide (d.pwr.recNow = some i)
    if d.pwr.failedOnce.contains i then
      let d := (d.setN (0x202000 + i) 0).raiseM 22 i 2
      let d : Dev := { d with pwr := { d.pwr with
        failed := d.pwr.failed ++ [i], failedOnce := d.pwr.failedOnce.filter (fun x => x != i)
        recNow := if back then none else d.pwr.recNow } }
      if d.pwr.thawing ∧ (i = 8 ∨ i = 9) then
        let d := d.islandsOff
        ({ d with pwr := { d.pwr with thawing := false, thawFails := d.pwr.thawFails + 1, failAt := d.clk.now } } : Dev).showCondition
      else d.thawDone.nextRecovery
    else
      let d : Dev := { d with pwr := { d.pwr with failedOnce := d.pwr.failedOnce ++ [i] } }
      d.setN (0x202000 + i) (if back then 4 else 0))

def execIslandStartTimeout (dt : Nat) (island : Nat) (s : State) : Out := onDev s dt (islandStartTimeout island)

/-- 1 s after a Thaw that R459 ended a new one begins, up to three in succession. -/
def thawRetry (d : Dev) : Dev :=
  d.when (d.up 2 && !d.pwr.thawing && !d.pwr.hibernating && decide (0 < d.pwr.thawFails ∧ d.pwr.thawFails < 3)
      && decide (d.pwr.failAt + secT ≤ d.clk.now)) (fun d =>
    { d with pwr := { d.pwr with thawing := true, thawAt := d.clk.now, passed := [], failed := [], failedOnce := [] } })

def execThawRetry (dt : Nat) (s : State) : Out := onDev s dt thawRetry

/-- A stalled liveness counter, an uncorrectable control-state error or a request of the firmware (R470). In Idle a recovery of
island 5 or 6 waits for the return to Run (R472); another waits for the recovery or start in progress. -/
def islandRecoveryStart (i : Nat) (d : Dev) : Dev :=
  d.when (d.up 2 && decide (3 ≤ i ∧ i ≤ 10) && decide (d.island i = 3 ∨ d.island i = 1)) (fun d => (d.recoveryDue i).nextRecovery)

def execIslandRecoveryStart (dt : Nat) (island : Nat) (s : State) : Out := onDev s dt (islandRecoveryStart island)

/-- A recovered island has restored its state (R470): 17, and the count of 2021; the next recovery due begins. -/
def islandRecoveryEnd (i : Nat) (d : Dev) : Dev :=
  d.when (decide (d.pwr.recNow = some i) && d.up i) (fun d =>
    let d : Dev := { d with pwr := { d.pwr with recNow := none } }
    ((d.raise 17 i).inc16 (0x202100 + i)).nextRecovery)

def execIslandRecoveryEnd (dt : Nat) (island : Nat) (s : State) : Out := onDev s dt (islandRecoveryEnd island)

/-- WAKE_N has been low for a time in Hibernate, at least 1 ms for a wake (R464). -/
def wakeN (lowUs : Nat) (d : Dev) : Dev := d.when (d.bit 0x205003 0 && decide (1000 ≤ lowUs)) (fun d => d.wake 1)

def execWakeNWake (dt : Nat) (lowUs : Nat) (s : State) : Out := onDev s dt (wakeN lowUs)

/-- The wake timer expires in Hibernate (R464). The sentry's oscillator counts it, with an error of at most 20 ppm (R466). -/
def wakeTimer (d : Dev) : Dev :=
  d.when (d.bit 0x205003 2 && decide (d.nat 0x205004 ≠ 0) && decide (d.pwr.vmainAt + d.nat 0x205004 * (secT - 25000) ≤ d.clk.now)) (fun d =>
    d.wake 3)

def execWakeTimerExpiry (dt : Nat) (s : State) : Out := onDev s dt wakeTimer

/-- WAKE_N has been low for a time in Glacier: at 10 ms AON_EN is driven high (R467). -/
def glacierWake (lowUs : Nat) (d : Dev) : Dev := d.when (d.pwr.glacier && decide (10000 ≤ lowUs)) (fun d => { d with pwr := { d.pwr with aonEn := true } })

def execGlacierWake (dt : Nat) (lowUs : Nat) (s : State) : Out := onDev s dt (glacierWake lowUs)

/-- Once a second the firmware saves the counts (R468). -/
def countsSave (d : Dev) : Dev := d.when (d.up 8 && d.dueIn .counts secT) (fun d => (d.mark .counts d.clk.now).saveCounts)

def execCountsSave (dt : Nat) (s : State) : Out := onDev s dt countsSave

/-- VAON falls (R454): the sentry and islands 3 to 10 are off, and the pads hold the outputs low. -/
def alwaysOnSupplyLoss (d : Dev) : Dev :=
  let d := d.mainOff.setN 0x202002 0
  { d with pwr := { d.pwr with vaonOk := false, hibernating := false } }

def execAlwaysOnSupplyLoss (dt : Nat) (s : State) : Out := onDev s dt alwaysOnSupplyLoss

/-- VBAK is lost (R467, R506): the retention file and the latches go; the file is rewritten at the next start. -/
def vbakLoss (d : Dev) : Dev := ({ d with wit := { d.wit with fileLost := true } } : Dev).loseFile

def execVbakLoss (dt : Nat) (s : State) : Out := onDev s dt vbakLoss

/-- The cartridge fails (R113): islands 3 and 4 lose their clock and what they held, and sampling ends (R448). -/
def cartridgeOff (seated : Bool) (missingNs count : Nat) (d : Dev) : Dev :=
  let ran := [3, 4].filter (fun i => d.up i)
  let d := cartridgeFail seated missingNs count d
  let gone := ran.filter (fun i => decide (d.island i = 0))
  gone.foldl Dev.loseIsland { d with pwr := { d.pwr with passed := d.pwr.passed ++ gone } }

def execCartridgeFail (dt : Nat) (seated : Bool) (missingNs count : Nat) (s : State) : Out :=
  onDev s dt (cartridgeOff seated missingNs count)

end Sys2Proof.Machine
end

