-- ==== Sys2Proof/Machine/Pair.lean ====
section
/-!
DEFINITION. Duty and standby pairs (R473 to R503): heartbeats, lanes and roles, Cairns and settings on the pair link, takeover,
isolation, switch-overs and drills.
-/
namespace Sys2Proof.Machine

/-- True while the peer's heartbeats are valid on some lane. -/
def Dev.peerHeard (d : Dev) : Bool := d.bit 0x440205 2 || d.bit 0x440205 3

/-- Cut bytes into parts of at most `n` with their offsets; `fuel` bounds their number. -/
def partsOf (n : Nat) : Nat → Nat → List Byte → List (Nat × List Byte)
  | 0, _, _ => []
  | k + 1, off, b => if b = [] then [] else (off, b.take n) :: partsOf n k (off + n) (b.drop n)

/-- Ticks that bytes take on a lane, in frames with their header, part head and CRC: 500 Mb/s with 8b/10b (R476). -/
def laneTicks (n : Nat) : Nat := (n + (n + 4083) / 4084 * 32) * 25

/-- Send a Cairn, or with `set` a change set, on a lane in ascending offset (R478): its parts of at most 4,088 or 4,084 bytes. -/
def Dev.sendParts (d : Dev) (n : Nat) (set : Bool) (gen : Nat) (b : List Byte) : Dev :=
  let head (off : Nat) : List Int := if set then [(gen : Int), (off : Int), (b.length : Int)] else [(gen : Int), (off : Int)]
  let kind : SentKind := if set then .settingsPart else .cairnPart
  let d := (partsOf (if set then 4084 else 4088) b.length 0 b).foldl (fun (d : Dev) p => d.sendLane n kind (head p.1 ++ asFields p.2)) d
  d.setPair (fun q => { q with busyTill := max q.busyTill d.clk.now + laneTicks b.length, moving := some (n, set, gen, b) })

/-- Send on the first lane that is up. -/
def Dev.sendBulk (d : Dev) (set : Bool) (gen : Nat) (b : List Byte) : Dev :=
  if d.laneUp 0 then d.sendParts 0 set gen b else if d.laneUp 1 then d.sendParts 1 set gen b else d

/-- A Cairn or change set in transfer on a lost lane goes again from its start on the other lane, if that is up (R480). -/
def Dev.sendAgain (d : Dev) (lost : Nat) : Dev :=
  match d.pair.moving with
  | none => d
  | some (n, set, gen, b) =>
    if n ≠ lost ∨ d.pair.busyTill ≤ d.clk.now then d
    else
      let d := d.setPair (fun q => { q with busyTill := d.clk.now, moving := none })
      if d.laneUp (1 - lost) then d.sendParts (1 - lost) set gen b else d

/-- A time has passed since a moment; true where there was none. -/
def Dev.since (d : Dev) (from_ : Option Nat) (ticks : Nat) : Bool :=
  match from_ with
  | none => true
  | some t => decide (t + ticks ≤ d.clk.now)

/-- The heartbeat period ends (R478, R479): a HEARTBEAT on every enabled lane. -/
def heartbeatSend (d : Dev) : Dev :=
  d.when (d.up 2 && d.inPair && d.since d.pair.beatAt (msTicks (d.nat 0x440003))) (fun d =>
    let d := d.showCondition.setPair (fun p => { p with beatAt := some d.clk.now })
    let ms : Int := if d.noTime then 0 else (d.fleetNs / 1000000 : Nat)
    let flds : List Int := [d.num 0x440201, d.num 0x440202, (d.nat 0x440205 / 4 : Nat), d.num 0x44020C, d.num 0x380103, d.num 0x44020F
      , d.num 0x440208, (d.pair.cairnTerm : Int), ms]
    [0, 1].foldl (fun (d : Dev) n => if d.bit 0x440002 n then d.sendLane n .heartbeat flds else d) d)

def execHeartbeatSend (dt : Nat) (s : State) : Out := onDev s dt heartbeatSend

/-- A frame arrives on a lane (R477): one that fails its checks is dropped and counted, and breaks the run of valid heartbeats (log 21); the TERM
of another is noted (R481), and it acts by its TYPE. -/
def Dev.pairFrame (d : Dev) (h : PairHdr) (typ : Nat) (f : Dev → Dev) : Dev :=
  let n := h.lane.val
  if !d.up 2 || !d.inPair || !d.bit 0x440002 n then d
  else if !h.ok then (d.inc32 0x440210).setPair (fun p => p.setLane n { p.lane n with rxRun := 0 })
  else
    let d := d.setN 0x440204 (max (d.nat 0x440204) h.term : Nat)
    if h.typ = typ then f d else d

/-- The standby, or a unit thawed for a drill or a switch-over, takes over (R490, R502): from Hibernate or a drill it wakes as
TAKING_OVER; one whose switch-over Thaw has ended becomes ACTIVE from the newest usable Cairn. -/
def Dev.takeOver (d : Dev) : Dev :=
  match d.role with
  | 3 =>
    if d.bit 0x205003 1 ∧ d.pwr.hibernating then
      ((d.setN 0x440201 5).setPair (fun p => { p with waking := 3 })).wake 2
    else d
  | 4 =>
    let d := ((d.setN 0x44020C 5).setN 0x440201 5).setPair (fun p => { p with waking := 3, drill := false })
    (d.setN 0x205006 2).restart 6 2
  | 5 =>
    if d.pair.waking = 1 then
      let d := d.setPair (fun p => { p with waking := 3 })
      if d.nat 0x205002 = 0 then
        let d := d.newTerm (((d.cairnToUse).map (·.term)).getD 0)
        let inh := d.pair.inherited
        (d.becomeActive 0 false).setPair (fun p => { p with inherited := inh })
      else d
    else d
  | _ => d

/-- Release the grants held back that were accepted before a model time (R489); all of them for none. -/
def Dev.releaseGrants (d : Dev) (before : Option Nat) : Dev :=
  let due (h : Nat × Nat × Nat) : Bool := match before with
    | none => true
    | some t => decide (h.2.1 < t)
  let d := d.cars.foldl (fun (d : Dev) (e : Nat × Vehicle) =>
    let c := d.car e.1
    let out := (c.heldBack.filter due).map (·.1)
    let d := d.setCar e.1 { c with heldBack := c.heldBack.filter (fun h => !due h) }
    match c.path with
    | none => d
    | some p => (p.grants.filter (fun g => out.contains g.id)).reverse.foldl (fun (d : Dev) g => d.sendGrant e.1 g false 15) d) d
  d.countHeld

/-- A drill has ended at the peer (R501): 493 with the result, and 495 where it did not pass. -/
def Dev.drillReport (d : Dev) (result : Nat) : Dev :=
  let d := d.setPair (fun p => { p with drill := false })
  (d.raise 493 result).raiseIf (decide (result ≠ 0)) 495 3

/-- What a valid heartbeat means to each role (R475, R489, R490, R496, R500). `was` is the peer's role before. -/
def Dev.judgeHeartbeat (d : Dev) (h : PairHdr) (b : Heartbeat) (was : Nat) : Dev :=
  let fails := decide (b.condition = 1 ∨ b.condition = 2) && decide (b.role = 2 ∨ was = 2)
  match d.role with
  | 1 => d.elect
  | 2 =>
    if d.nat 0x440203 < h.term ∧ (b.role = 2 ∨ b.role = 5) then d.demote 2
    else
      let back := decide (3 ≤ b.role ∧ b.role ≤ 5)
      let d := d.setPair (fun p => { p with
        paired := if p.isolated || p.solo then p.paired else back
        switch_ := if p.switch_ = 1 ∧ b.condition = 6 then 2 else p.switch_ })
      if was = 4 ∧ b.role ≠ 4 then d.drillReport b.drill else d
  | 3 => if fails then d.takeOver else d
  | 4 => if fails then d.takeOver else d
  | 5 => if fails then d.takeOver else d
  | _ => d

/-- A heartbeat arrives (R479, R480): after ten in a row the lane is up again, with event source 485. -/
def heartbeatReceive (lane : Fin 2) (frame : List Byte) (d : Dev) : Dev :=
  let h := pairOf lane frame
  let b := heartbeatOf h.payload
  d.pairFrame h 1 (fun d =>
    let n := lane.val
    let x := d.pair.lane n
    let d := d.setPair (fun p => p.setLane n { x with rxRun := x.rxRun + 1, lastAt := some d.clk.now })
    let d := d.setBit 0x440205 (2 + n) true
    let d := if !d.laneUp n && decide (10 ≤ x.rxRun + 1) then (d.setBit 0x440205 n true).raise 485 n else d
    let was := d.nat 0x440206
    let d := (d.setN 0x440206 (b.role : Nat)).setN 0x440207 (b.condition : Nat)
    d.judgeHeartbeat h b was)

def execHeartbeatReceive (dt : Nat) (lane : Fin 2) (frame : List Byte) (s : State) : Out := onDev s dt (heartbeatReceive lane frame)

/-- No valid heartbeat has come on a lane for 4400:04 (R480); an ACTIVE unit that so loses both while paired is isolated (R495). -/
def laneLoss (n : Nat) (d : Dev) : Dev :=
  d.when (d.up 2 && d.inPair && (d.laneUp n || d.bit 0x440205 (2 + n)) && d.since (d.pair.lane n).lastAt (msTicks (d.nat 0x440004))) (fun d =>
    let was := d.laneUp n
    let d := d.setPair (fun p => p.setLane n { p.lane n with rxRun := 0 })
    let d := (((d.setBit 0x440205 n false).setBit 0x440205 (2 + n) false)).raiseIf was 484 n
    let d := d.sendAgain n
    let d := if d.peerHeard then d else d.setPair (fun p => { p with lostAt := d.clk.now })
    if d.role = 2 ∧ d.pair.paired ∧ !d.peerHeard then
      ((d.setPair (fun p => { p with paired := false, isolated := true, isoAt := d.clk.now })).raiseM 486 0 2).showCondition
    else d)

def execLaneLoss (dt : Nat) (lane : Fin 2) (s : State) : Out := onDev s dt (laneLoss lane.val)

/-- No valid peer heartbeat within the election wait (R475). -/
def electionWaitExpiry (d : Dev) : Dev :=
  d.when (decide (d.role = 1) && d.up 8 && !d.upd.onTrial && !d.peerHeard && d.since (some d.pair.electAt) (msTicks (d.nat 0x440005)))
    (fun d => d.becomeActive 0 true)

def execElectionWaitExpiry (dt : Nat) (s : State) : Out := onDev s dt electionWaitExpiry

/-- The number of the present Cairn instant: every 100 ms of fleet time or, while that is unavailable, of the crystal count (R482). -/
def Dev.cairnInstant (d : Dev) : Bool × Nat := (d.noTime, (if d.noTime then d.xtalNs else d.fleetNs) / 100000000)

/-- A Cairn instant (R482): where the lane is free a Cairn is taken and sent, FINAL at the end of a switch-over (R500); else 490. -/
def cairnTake (d : Dev) : Dev :=
  let peer := d.nat 0x440206
  d.when (decide (d.role = 2) && d.up 8 && d.peerHeard && decide (3 ≤ peer ∧ peer ≤ 5) && decide (d.pair.tookAt ≠ some d.cairnInstant)) (fun d =>
    let d := d.setPair (fun p => { p with tookAt := some d.cairnInstant })
    if d.clk.now < d.pair.busyTill then d.raise 490 1
    else
      let final := decide (d.pair.switch_ = 2)
      let gen := (d.pair.gen + 1) % 2 ^ 32
      let c := d.cairnNow gen final
      let b := cairnBytes c
      let d := d.setPair (fun p => { p with
        gen := gen, sent := ((gen, c.term, d.clk.now, final) :: p.sent).take 8, switch_ := if final then 3 else p.switch_ })
      (d.setN 0x44020A (b.length : Nat)).sendBulk false gen b)

def execCairnTake (dt : Nat) (s : State) : Out := onDev s dt cairnTake

/-- A FINAL Cairn is complete at the peer of a switch-over (R500): its state is loaded, and the unit becomes ACTIVE in its term. -/
def Dev.finishSwitch (d : Dev) : Dev :=
  if d.role = 5 ∧ d.pair.waking = 1 ∧ d.nat 0x205002 = 0 then
    match d.cairnToUse with
    | none => d
    | some c =>
      let d := (d.takeStop c.stopSeq c.woState c.level).takeCairn c
      let inh := d.pair.inherited
      let d := d.startEngine
      (d.becomeActive c.term true).setPair (fun p => { p with inherited := inh })
  else d

/-- A Cairn is complete at the peer (R486): it is acknowledged on every lane that is up, and a FINAL one ends a switch-over (R500). -/
def Dev.cairnDone (d : Dev) (c : Cairn) (size : Nat) : Dev :=
  let age := if c.instant = 0 ∨ d.noTime then 0 else (d.fleetNs - c.instant) * 5 / 4
  let d := d.setPair (fun p => { p with cairnTerm := c.term, cairnAt := d.clk.now - age })
  let d := (d.setN 0x440208 c.gen).setN 0x44020A (size : Nat)
  let d := d.sendLanes .cairnAck [(c.gen : Int), (c.term : Int)]
  if c.final then d.finishSwitch else d

/-- A part of a Cairn arrives (R486). It goes to the slot that does not hold the newest complete Cairn, which is complete once its parts cover
LENGTH and both CRCs match. -/
def cairnPartReceive (lane : Fin 2) (frame : List Byte) (d : Dev) : Dev :=
  let h := pairOf lane frame
  d.pairFrame h 2 (fun d => d.when (decide (3 ≤ d.role ∧ d.role ≤ 5)) (fun d =>
    let gen := fieldN h.payload 0 4
    let part := (fieldN h.payload 4 4, h.payload.drop 8)
    let toB := match d.pair.slotA.filter (fun x => x.cairn.isSome), d.pair.slotB.filter (fun x => x.cairn.isSome) with
      | some a, some b => !b.newer a
      | some _, none => true
      | none, _ => false
    let old := if toB then d.pair.slotB else d.pair.slotA
    let got := match old with
      | some x => if x.term = h.term ∧ x.gen = gen ∧ x.cairn.isNone then x.got ++ [part] else [part]
      | none => [part]
    let whole := gather got (got.length + 1) 0
    let c := (cairnOf whole).filter (fun c => decide (c.gen = gen ∧ c.term = h.term))
    let x : CairnHeld := { term := h.term, gen := gen, got := if c.isSome then [] else got, cairn := c }
    let d := d.setPair (fun p => if toB then { p with slotB := some x } else { p with slotA := some x })
    match c with
    | some c => d.cairnDone c (fieldN whole 22 4)
    | none => d))

def execCairnPartReceive (dt : Nat) (lane : Fin 2) (frame : List Byte) (s : State) : Out := onDev s dt (cairnPartReceive lane frame)

/-- A CAIRN_ACK arrives (R489, R495, R496): grants accepted before the Cairn's instant are released; isolation and SOLO end where the
peer shows STANDBY; the acknowledgement of a FINAL Cairn demotes. -/
def cairnAckReceive (lane : Fin 2) (frame : List Byte) (d : Dev) : Dev :=
  let h := pairOf lane frame
  let gen := fieldN h.payload 0 4
  let term := fieldN h.payload 4 4
  d.pairFrame h 3 (fun d =>
    match d.pair.sent.find? (fun x => decide (x.1 = gen ∧ x.2.1 = term)) with
    | none => d
    | some x => d.when (decide (d.role = 2)) (fun d =>
      let at_ := x.2.2.1
      let d := d.setPair (fun p => { p with
        sent := p.sent.filter (fun y => decide (at_ < y.2.2.1)), cairnTerm := term, cairnAt := at_, busyTill := min p.busyTill d.clk.now })
      let d := d.setN 0x440208 gen
      if x.2.2.2 then d.demote 3
      else
        let back := decide (d.nat 0x440206 = 3) && (d.pair.isolated || d.pair.solo)
        let d := if back then
            let solo := d.pair.solo
            ((d.setPair (fun p => { p with isolated := false, solo := false, paired := true })).raiseIf solo 494 0).showCondition
          else d
        d.releaseGrants (some at_)))

def execCairnAckReceive (dt : Nat) (lane : Fin 2) (frame : List Byte) (s : State) : Out := onDev s dt (cairnAckReceive lane frame)

/-- A STOP_NOTICE arrives (R488): the newest is kept. -/
def stopNoticeReceive (lane : Fin 2) (frame : List Byte) (d : Dev) : Dev :=
  let h := pairOf lane frame
  let b := h.payload
  let n : Notice := { seq := fieldN b 0 4, state := fieldN b 4 1, level := fieldN b 5 1, causes := fieldN b 6 2, time := fieldT b 8 }
  d.pairFrame h 4 (fun d => d.when (decide (d.role ≠ 2)) (fun d =>
    let keep := match d.pair.notice with
      | some o => decide (o.time ≤ n.time)
      | none => true
    if keep then d.setPair (fun p => { p with notice := some n }) else d))

def execStopNoticeReceive (dt : Nat) (lane : Fin 2) (frame : List Byte) (s : State) : Out := onDev s dt (stopNoticeReceive lane frame)

/-- The records of a change set in bytes (R487): index, sub-index, reserved, value length and value. -/
def settingsBytes (l : List (Key × List Byte)) : List Byte :=
  l.flatMap (fun e => leBytes 2 (e.1 / 256) ++ leBytes 1 (e.1 % 256) ++ [0] ++ leBytes 4 e.2.length ++ e.2)

/-- Read the records of a change set; `fuel` bounds their number. -/
def settingsRecords : Nat → List Byte → List (Key × List Byte)
  | 0, _ => []
  | n + 1, b =>
    if b.length < 8 then []
    else
      let len := fieldN b 4 4
      (fieldN b 0 2 * 256 + fieldN b 2 1, (b.drop 8).take len) :: settingsRecords n (b.drop (8 + len))

/-- Entries that stay each unit's own (R487). -/
def ownSetting (k : Key) : Bool :=
  let idx := k / 256
  decide (0x1000 ≤ idx ∧ idx ≤ 0x1FFF) || decide (idx = 0x2030) || decide (k = 0x3A4001) || decide (0x4400 ≤ idx ∧ idx ≤ 0x4402)

/-- Store one record of the peer's change set: a table batch keeps its PERSIST entries, another entry its value. -/
def Dev.storeRecord (d : Dev) (e : Key × List Byte) : Dev :=
  if e.1 = 0x3A8101 then
    (records 56 e.2).foldl (fun (d : Dev) r => d.keep (fieldN r 0 1) (fieldN r 1 1) (fieldN r 8 24) (fieldN r 32 24)) d
  else match rowOf (e.1 / 256) (e.1 % 256) with
    | some r => match decodeVal r.ty e.2 with
      | some v => { d with nv := tabPut d.nv e.1 v }
      | none => d
    | none => d

/-- A part of a change set arrives at the peer (R487): once it is whole its records are written to the settings store atomically
and SETTINGS_ACK is sent. `written` says whether the store write succeeds; a failure raises 492. -/
def settingsPartReceive (lane : Fin 2) (frame : List Byte) (written : Bool) (d : Dev) : Dev :=
  let h := pairOf lane frame
  let gen := fieldN h.payload 0 4
  let off := fieldN h.payload 4 4
  let total := fieldN h.payload 8 4
  let data := h.payload.drop 12
  d.pairFrame h 5 (fun d => d.when (decide (d.role ≠ 2)) (fun d =>
    let held := match d.pair.parts with
      | some (g, t, b) => if g = gen ∧ t = total ∧ b.length = off then some (b ++ data) else if off = 0 then some data else none
      | none => if off = 0 then some data else none
    match held with
    | none => d
    | some b =>
      if b.length < total then d.setPair (fun p => { p with parts := some (gen, total, b) })
      else
        let d := d.setPair (fun p => { p with parts := none })
        if written then
          let d := (settingsRecords total b).foldl Dev.storeRecord d
          let d : Dev := { d with nv := tabPut d.nv 0x44020F (.num (gen : Int)) }
          (d.setN 0x44020F gen).sendLanes .settingsAck [(gen : Int), 0]
        else (d.sendLanes .settingsAck [(gen : Int), 1]).raise 492 0))

def execSettingsPartReceive (dt : Nat) (lane : Fin 2) (frame : List Byte) (written : Bool) (s : State) : Out :=
  onDev s dt (settingsPartReceive lane frame written)

/-- A SETTINGS_ACK arrives (R487). -/
def settingsAckReceive (lane : Fin 2) (frame : List Byte) (d : Dev) : Dev :=
  let h := pairOf lane frame
  let gen := fieldN h.payload 0 4
  let result := fieldN h.payload 4 4
  d.pairFrame h 6 (fun d =>
    match d.pair.unacked with
    | some u => if u.1 = gen then (d.setPair (fun p => { p with unacked := none })).raiseIf (decide (result = 1)) 492 0 else d
    | none => d)

def execSettingsAckReceive (dt : Nat) (lane : Fin 2) (frame : List Byte) (s : State) : Out := onDev s dt (settingsAckReceive lane frame)

/-- Send the change set that is not acknowledged (R487). -/
def Dev.sendSettings (d : Dev) : Dev :=
  match d.pair.unacked with
  | some u => (d.setPair (fun p => { p with setAt := d.clk.now })).sendBulk true u.1 u.2
  | none => d

/-- Every 1 s an unacknowledged change set is sent again (R487). -/
def settingsRepeat (d : Dev) : Dev :=
  d.when (d.up 2 && decide (d.role = 2) && d.since (some d.pair.setAt) secT) Dev.sendSettings

def execSettingsRepeat (dt : Nat) (s : State) : Out := onDev s dt settingsRepeat

/-- A WAKE arrives at a standby (R490, R500, R501): it thaws for a switch-over as TAKING_OVER, or for a drill as DRILL. -/
def pairWakeReceive (lane : Fin 2) (frame : List Byte) (d : Dev) : Dev :=
  let h := pairOf lane frame
  let reason := fieldN h.payload 0 1
  d.pairFrame h 7 (fun d => d.when (decide (d.role = 3) && d.pwr.hibernating && d.bit 0x205003 1 && decide (reason = 1 ∨ reason = 2)) (fun d =>
    let d := d.setN 0x440201 (if reason = 1 then 5 else 4)
    (d.setPair (fun p => { p with waking := reason, drill := decide (reason = 2), wokenAt := d.clk.now })).wake 2))

def execPairWakeReceive (dt : Nat) (lane : Fin 2) (frame : List Byte) (s : State) : Out := onDev s dt (pairWakeReceive lane frame)

/-- Both lanes are lost and the takeover delay has passed (R490). -/
def takeoverDelayExpiry (d : Dev) : Dev :=
  d.when (d.up 2 && d.inPair && !d.peerHeard && decide (3 ≤ d.role ∧ d.role ≤ 5)
    && d.since (some d.pair.lostAt) (msTicks (d.nat 0x440006))) Dev.takeOver

def execTakeoverDelayExpiry (dt : Nat) (s : State) : Out := onDev s dt takeoverDelayExpiry

/-- A grant has been held back for more than 500 ms: 490 once for each grant (R489). -/
def grantHoldAlert (n grant : Nat) (d : Dev) : Dev :=
  let c := d.car n
  let due (x : Nat × Nat × Nat) : Bool := decide (x.1 = grant) && decide (x.2.2 = 0) && decide (x.2.1 + secT / 2 < d.clk.now)
  d.when (d.up 6 && c.heldBack.any due) (fun d =>
    (d.setCar n { c with heldBack := c.heldBack.map (fun x => if due x then (x.1, x.2.1, 1) else x) }).raise 490 2)

def execGrantHoldAlert (dt : Nat) (slot : Fin 128) (grant : Nat) (s : State) : Out := onDev s dt (grantHoldAlert slot.val grant)

/-- The unit becomes SOLO (R495): every grant is released. -/
def Dev.goSolo (d : Dev) : Dev :=
  (((d.setPair (fun p => { p with solo := true })).releaseGrants none).raise 494 1).showCondition

/-- 4401:03 (R495): 1 makes an isolated ACTIVE unit SOLO, 0 leaves SOLO; RANGE for a unit that is not isolated (log 21). -/
def soloCommand (v : DVal) (d : Dev) : Dev × Nat :=
  if v.int = 1 then
    if d.role = 2 ∧ d.pair.isolated then (if d.pair.solo then (d, 0) else (d.goSolo, 0)) else (d, 8)
  else if v.int = 0 then
    if d.pair.solo then (((d.setPair (fun p => { p with solo := false })).raise 494 0).showCondition, 0) else (d, 0)
  else (d, 8)

def execSoloDeclare (dt : Nat) (q : Req) (s : State) : Out := onDev s dt (fun d => d.command q 0x4401 3 [1] soloCommand)
def execSoloLeave (dt : Nat) (q : Req) (s : State) : Out := onDev s dt (fun d => d.command q 0x4401 3 [0] soloCommand)

/-- The unit has been isolated for 4400:07 (R495). -/
def isolationExpiry (d : Dev) : Dev :=
  d.when (d.up 8 && d.pair.isolated && !d.pair.solo && decide (d.nat 0x440007 ≠ 0)
    && d.since (some d.pair.isoAt) (d.nat 0x440007 * secT)) Dev.goSolo

def execIsolationExpiry (dt : Nat) (s : State) : Out := onDev s dt isolationExpiry

/-- 4401:01 (R500): on a paired ACTIVE unit whose peer shows STANDBY in normal condition, 1 starts a switch-over. -/
def switchOver (v : DVal) (d : Dev) : Dev × Nat :=
  if v.int = 1 ∧ d.role = 2 ∧ d.pair.paired ∧ d.nat 0x440206 = 3 ∧ d.nat 0x440207 = 0 then
    ((d.setPair (fun p => { p with switch_ := 1, wokenAt := d.clk.now })).sendLanes .pairWake [1], 0)
  else (d, 8)

def execSwitchOver (dt : Nat) (q : Req) (data : List Byte) (s : State) : Out :=
  onDev s dt (fun d => d.command q 0x4401 1 data switchOver)

/-- A unit woken by its peer returns to Hibernate as STANDBY. -/
def Dev.backToStandby (d : Dev) : Dev :=
  (d.setPair (fun p => { p with waking := 0, drill := false })).becomeStandby

/-- The switch-over is not reached within 2 s (R500): the active stays active, with 489; the peer, which counts its 2 s from the WAKE (log 21),
returns to Hibernate. -/
def switchOverTimeout (d : Dev) : Dev :=
  if !d.since (some d.pair.wokenAt) (2 * secT) then d
  else if d.role = 2 ∧ d.pair.switch_ = 1 then (d.setPair (fun p => { p with switch_ := 0 })).raise 489 4
  else if d.role = 5 ∧ d.pair.waking = 1 then d.backToStandby
  else d

def execSwitchOverTimeout (dt : Nat) (s : State) : Out := onDev s dt switchOverTimeout

/-- A drill starts (R501): WAKE with reason 2. -/
def Dev.startDrill (d : Dev) : Dev := (d.setPair (fun p => { p with drill := true, drillAt := d.clk.now })).sendLanes .pairWake [2]

/-- 4401:02 (R501): refused with RANGE unless the unit is ACTIVE and paired and its peer shows STANDBY. -/
def drillCommand (v : DVal) (d : Dev) : Dev × Nat :=
  if v.int = 1 ∧ d.role = 2 ∧ d.pair.paired ∧ d.nat 0x440206 = 3 then (d.startDrill, 0) else (d, 8)

def execDrill (dt : Nat) (q : Req) (data : List Byte) (s : State) : Out := onDev s dt (fun d => d.command q 0x4401 2 data drillCommand)

/-- The drill period expires (R501). -/
def drillPeriodExpiry (d : Dev) : Dev :=
  d.when (d.up 8 && decide (d.nat 0x440008 ≠ 0) && decide (d.role = 2) && d.pair.paired && decide (d.nat 0x440206 = 3)
    && d.since (some d.pair.drillAt) (d.nat 0x440008 * 3600 * secT)) Dev.startDrill

def execDrillPeriodExpiry (dt : Nat) (s : State) : Out := onDev s dt drillPeriodExpiry

/-- What a drill finds (R501): none while its Thaw goes on, or while the 60 s for a usable time update, counted from the wake (log 21), run. -/
def Dev.drillResult (d : Dev) : Option Nat :=
  if d.pwr.failed ≠ [] ∨ d.pwr.thawFails ≠ 0 then some 1
  else if d.nat 0x205002 ≠ 0 then none
  else match d.cairnToUse with
    | none => some 2
    | some c =>
      if !d.cairnFits c then some 3
      else if d.servo.everValid.testBit 1 then some 0
      else if d.since (some d.pair.wokenAt) (60 * secT) then some 4
      else none

/-- The drill checks end at the unit that was woken (R501): its result is written and it returns to Hibernate. -/
def drillEnd (d : Dev) : Dev :=
  d.when (decide (d.role = 4) && d.up 2) (fun d =>
    match d.drillResult with
    | some n => (d.setN 0x44020C n).backToStandby
    | none => d)

def execDrillEnd (dt : Nat) (s : State) : Out := onDev s dt drillEnd

end Sys2Proof.Machine
end

