-- ==== Sys2Proof/Machine/Crypto.lean ====
section
/-!
DEFINITION. SHA-512 (FIPS 180-4) and the check of a pure Ed25519 signature (RFC 8032), which R512 and R513 name. The
constants of SHA-512 are computed from the roots that define them.
-/
namespace Sys2Proof.Machine

/-- `r` with the bits below `k` that make its `e`-th power at most `n`, taken from the highest down. -/
def rootBits (e n : Nat) : Nat → Nat → Nat
  | 0, r => r
  | k + 1, r => if (r + 2 ^ k) ^ e ≤ n then rootBits e n k (r + 2 ^ k) else rootBits e n k r

/-- The greatest r below `2 ^ bits` with `r ^ e` at most `n`. -/
def rootBelow (e n bits : Nat) : Nat := rootBits e n bits 0

/-- The primes below 410: there are 80. -/
def primes80 : List Nat :=
  (List.range 410).filter (fun n => decide (2 ≤ n) && (List.range 21).all (fun i => decide (i < 2) || decide (n ≤ i) || decide (n % i ≠ 0)))

/-- The 80 round constants: fractions of the cube roots of the first 80 primes. -/
def shaK : List (BitVec 64) := primes80.map (fun p => BitVec.ofNat 64 (rootBelow 3 (p * 2 ^ 192) 68))

/-- The initial hash: fractions of the square roots of the first 8 primes. -/
def shaH : List (BitVec 64) := (primes80.take 8).map (fun p => BitVec.ofNat 64 (rootBelow 2 (p * 2 ^ 128) 68))

/-- A word of 8 bytes, most significant first. -/
def beWord (b : List Byte) : BitVec 64 := BitVec.ofNat 64 (leNat b.reverse)

/-- Message schedule: the 80 words, newest first, from the 16 of a block. -/
def shaSchedule : Nat → List (BitVec 64) → List (BitVec 64)
  | 0, w => w
  | n + 1, w =>
    let g (i : Nat) : BitVec 64 := w.getD i 0
    let s0 := (g 14).rotateRight 1 ^^^ (g 14).rotateRight 8 ^^^ (g 14 >>> 7)
    let s1 := (g 1).rotateRight 19 ^^^ (g 1).rotateRight 61 ^^^ (g 1 >>> 6)
    shaSchedule n ((s1 + g 6 + s0 + g 15) :: w)

/-- One round on the eight working variables. -/
def shaRound (v : List (BitVec 64)) (kw : BitVec 64 × BitVec 64) : List (BitVec 64) :=
  match v with
  | [a, b, c, d, e, f, g, h] =>
    let s1 := e.rotateRight 14 ^^^ e.rotateRight 18 ^^^ e.rotateRight 41
    let t1 := h + s1 + ((e &&& f) ^^^ (~~~e &&& g)) + kw.1 + kw.2
    let s0 := a.rotateRight 28 ^^^ a.rotateRight 34 ^^^ a.rotateRight 39
    let t2 := s0 + ((a &&& b) ^^^ (a &&& c) ^^^ (b &&& c))
    [t1 + t2, a, b, c, d + t1, e, f, g]
  | v => v

/-- One block of 128 bytes. -/
def shaBlock (h : List (BitVec 64)) (block : List Byte) : List (BitVec 64) :=
  let w := (shaSchedule 64 ((records 8 block).map beWord).reverse).reverse
  let v := (shaK.zip w).foldl shaRound h
  (h.zip v).map (fun p => p.1 + p.2)

/-- SHA-512 of a message. -/
def sha512 (m : List Byte) : List Byte :=
  let fill := (111 + 128 - m.length % 128) % 128
  let padded := m ++ [0x80] ++ zeros fill ++ (leBytes 16 (8 * m.length)).reverse
  (((records 128 padded).foldl shaBlock shaH).map (fun w => (leBytes 8 w.toNat).reverse)).flatten

/-- The field prime 2^255 − 19. -/
def edP : Nat := 2 ^ 255 - 19

/-- The order of the base point. -/
def edL : Nat := 2 ^ 252 + 27742317777372353535851937790883648493

/-- Power modulo `edP`; `n` bounds the exponent's bits. -/
def edPow (b e : Nat) : Nat → Nat
  | 0 => 1
  | n + 1 =>
    let h := edPow b (e / 2) n
    if e % 2 = 1 then h * h % edP * b % edP else h * h % edP

/-- Inverse modulo `edP`. -/
def edInv (x : Nat) : Nat := edPow x (edP - 2) 256

/-- The curve constant −121665/121666. -/
def edD : Nat := (edP - 121665) * edInv 121666 % edP

/-- A point in extended coordinates X, Y, Z, T. -/
structure EdPoint where
  x : Nat
  y : Nat
  z : Nat
  t : Nat
deriving DecidableEq, Repr

/-- The neutral point. -/
def edZero : EdPoint := { x := 0, y := 1, z := 1, t := 0 }

/-- Point addition. -/
def edAdd (p q : EdPoint) : EdPoint :=
  let a := (p.y + edP - p.x) * (q.y + edP - q.x) % edP
  let b := (p.y + p.x) * (q.y + q.x) % edP
  let c := 2 * p.t * edD % edP * q.t % edP
  let d := 2 * p.z * q.z % edP
  let e := b + edP - a
  let f := d + edP - c
  let g := d + c
  let h := b + a
  { x := e * f % edP, y := g * h % edP, z := f * g % edP, t := e * h % edP }

/-- A multiple of a point; `n` bounds the bits of the factor. -/
def edMul (p : EdPoint) (k : Nat) : Nat → EdPoint
  | 0 => edZero
  | n + 1 =>
    let h := edMul p (k / 2) n
    let h := edAdd h h
    if k % 2 = 1 then edAdd h p else h

/-- A point from y and the sign of x; none where there is none. -/
def edFrom (y sign : Nat) : Option EdPoint :=
  if edP ≤ y then none
  else
    let u := (y * y + edP - 1) % edP
    let v := (edD * (y * y % edP) + 1) % edP
    let x2 := u * edInv v % edP
    let r := edPow x2 ((edP + 3) / 8) 256
    let r := if r * r % edP = x2 then r else r * edPow 2 ((edP - 1) / 4) 256 % edP
    if r * r % edP ≠ x2 ∨ (r = 0 ∧ sign = 1) then none
    else
      let x := if r % 2 = sign then r else edP - r
      some { x := x, y := y, z := 1, t := x * y % edP }

/-- The point that 32 bytes spell. -/
def edPoint (b : List Byte) : Option EdPoint := edFrom (leNat b % 2 ^ 255) (leNat b / 2 ^ 255)

/-- Two points are the same. -/
def edSame (p q : EdPoint) : Bool :=
  decide (p.x * q.z % edP = q.x * p.z % edP) && decide (p.y * q.z % edP = q.y * p.z % edP)

/-- True where 64 bytes are a pure Ed25519 signature of a message under a public key of 32 bytes (RFC 8032, 5.1.7), by the
group equation with the factor 8. -/
def edVerify (key msg sig : List Byte) : Bool :=
  match edPoint key, edPoint (sig.take 32), edFrom (4 * edInv 5 % edP) 0 with
  | some a, some r, some g =>
    let s := leNat (sig.drop 32)
    let k := leNat (sha512 (sig.take 32 ++ key ++ msg)) % edL
    let eight (p : EdPoint) : EdPoint := let q := edAdd p p; let q := edAdd q q; edAdd q q
    decide (key.length = 32) && decide (sig.length = 64) && decide (s < edL)
      && edSame (eight (edMul g s 256)) (eight (edAdd r (edMul a k 256)))
  | _, _, _ => false

end Sys2Proof.Machine
end

