-- ==== Sys2Proof/Machine/Update.lean ====
section
/-!
DEFINITION. Witness (R504 to R510), signing keys (R511), images and their download, activation, trial and fall-back (R512 to
R526), Jenyn (R528, R529) and ROM recovery over USB DFU (R530 to R532).
-/
namespace Sys2Proof.Machine

/-- Bring the fuses into line with what the device has blown: each fuse only ever goes from unblown to blown (R511, R523). -/
def Fuses.burn (f : Fuses) (d : Dev) : Fuses :=
  let key (n : Nat) : Option (List Byte) := if d.oct (0x462001 + n) = zeros 32 then none else some (d.oct (0x462001 + n))
  { counter := max f.counter (d.nat 0x460108)
    key1 := f.key1.or (key 1), key2 := f.key2.or (key 2), key3 := f.key3.or (key 3)
    revoked := f.revoked ||| d.nat 0x462005 }

/-- The outcome of a command that may blow fuses. -/
def onFuse (s : State) (dt : Nat) (f : Dev → Dev) : Out :=
  let d := f (s.dev.pass dt)
  .next { s with dev := d, fuses := s.fuses.burn d }

/-- Clear bits of 4610:05. -/
def Dev.latchOff (d : Dev) (bit : Nat) : Dev := d.setBit 0x461005 bit false

/-- Set a bit of 4610:05. -/
def Dev.latchOn (d : Dev) (bit : Nat) : Dev := d.setBit 0x461005 bit true

/-- A latch sets (R505): event source 498 and a Moraine entry now, or at the end of the next Thaw while the core island is not in
state 3. A latch that is set already stays as it is. -/
def Dev.latchSets (d : Dev) (bit : Nat) : Dev :=
  if d.bit 0x461005 bit then d
  else
    let d := d.latchOn bit
    if d.up 8 then d.raiseM 498 (2 ^ bit) 1 else { d with wit := { d.wit with late := d.wit.late ||| 2 ^ bit } }

/-- WIT_BTN_N is released (R507): the window opens, which 4610:08 counts, or restarts. In Hibernate the press is a wake source where 2050:03 enables it (R464), and opens nothing. -/
def witnessPress (lowMs : Nat) (fitted : Bool) (d : Dev) : Dev :=
  if d.pwr.hibernating then d.when (d.bit 0x205003 3) (fun d => d.wake 4)
  else
    let d := d.setBit 0x461005 3 fitted
    d.when (d.up 8 && fitted && decide (1000 ≤ lowMs ∧ lowMs ≤ 5000)) (fun d =>
      let again : Nat := if d.flag 0x461001 then 1 else 0
      let n := min (d.nat 0x461008 + 1 - again) 0xFFFFFFFF
      let d : Dev := { d with nv := tabPut d.nv 0x461008 (.num (n : Int)), wit := { d.wit with window := some d.clk.now } }
      ((d.setN 0x461008 (n : Nat)).setB 0x461001 true).raise 496 again)

def execWitnessPress (dt : Nat) (lowMs : Nat) (fitted : Bool) (s : State) : Out := onDev s dt (witnessPress lowMs fitted)

/-- SEAL_SNS has been low for a time (R505): past 100 µs the latch sets unless SEAL_OFF is set. -/
def sealOpen (lowUs : Nat) (d : Dev) : Dev :=
  let d := d.latchOff 4
  if d.wit.sealOff ∨ lowUs ≤ 100 then d else d.latchSets 0

def execSealOpen (dt : Nat) (lowUs : Nat) (s : State) : Out := onDev s dt (sealOpen lowUs)

/-- WIT_JMP_N falls (R505). -/
def jumperFitted (d : Dev) : Dev := (d.latchOn 3).latchSets 1

def execJumperFitted (dt : Nat) (s : State) : Out := onDev s dt jumperFitted

/-- WIT_JMP_N has read not fitted for a time, which ends the window at 100 ms (R508). -/
def jumperRemoved (outMs : Nat) (d : Dev) : Dev :=
  let d := d.latchOff 3
  if outMs < 100 then d else d.closeWindow 2

def execJumperRemoved (dt : Nat) (outMs : Nat) (s : State) : Out := onDev s dt (jumperRemoved outMs)

/-- 4610:03 has passed since the window last opened or restarted (R508). -/
def windowExpiry (d : Dev) : Dev :=
  d.when (match d.wit.window with
    | some t => decide (t + d.nat 0x461003 * secT ≤ d.clk.now)
    | none => false) (fun d => d.closeWindow 1)

def execWitnessWindowExpiry (dt : Nat) (s : State) : Out := onDev s dt windowExpiry

/-- 4610:04: any value closes the window (R508, R510). -/
def closeWindowCommand (_ : DVal) (d : Dev) : Dev × Nat := (d.closeWindow 3, 0)

def execCloseWindow (dt : Nat) (q : Req) (data : List Byte) (s : State) : Out :=
  onDev s dt (fun d => d.command q 0x4610 4 data closeWindowCommand)

/-- 4610:06 (R505, R506): a latch named by the value clears where its condition has gone; VBAK_LOST clears once both are clear.
The levels are those that 4610:05 shows from then on. -/
def clearLatches (fitted closed : Bool) (v : DVal) (d : Dev) : Dev × Nat :=
  let n := v.int.toNat
  let d := (d.setBit 0x461005 3 fitted).setBit 0x461005 4 closed
  let d := if n.testBit 0 ∧ closed then d.latchOff 0 else d
  let d := if n.testBit 1 ∧ fitted = false then d.latchOff 1 else d
  (if d.bit 0x461005 0 ∨ d.bit 0x461005 1 then d else d.latchOff 2, 0)

def execClearLatches (dt : Nat) (q : Req) (data : List Byte) (fitted closed : Bool) (s : State) : Out :=
  onDev s dt (fun d => d.command q 0x4610 6 data (clearLatches fitted closed))

/-- The public key in a slot of 0 to 3; all zero is an empty slot (R511). -/
def Dev.key (d : Dev) (slot : Nat) : List Byte := d.oct (0x462001 + slot)

/-- A slot holds a key (R511). -/
def Dev.keyHeld (d : Dev) (slot : Nat) : Bool := decide (slot = 0) || d.key slot != zeros 32

/-- A slot that signs: programmed and not revoked. -/
def Dev.keyUsable (d : Dev) (slot : Nat) : Bool := decide (slot ≤ 3) && d.keyHeld slot && !d.bit 0x462005 slot

/-- The Moraine entry of a key action (code 518). -/
def Dev.keyEntry (d : Dev) (sub value : Nat) : Dev := d.offer 518 2 2 0 (0x4621 * 65536 + sub * 256) (value % 2 ^ 32)

/-- 4621:01 (R511): byte 0 the slot, 1 to 3 and empty; bytes 1 to 32 the key. -/
def programKey (v : DVal) (d : Dev) : Dev × Nat :=
  let slot := fieldN v.bytes 0 1
  if slot = 0 ∨ 3 < slot ∨ d.keyHeld slot then (d, 8)
  else ((d.setO (0x462001 + slot) (v.bytes.drop 1)).keyEntry 1 (leNat v.bytes), 0)

def execProgramKey (dt : Nat) (q : Req) (data : List Byte) (s : State) : Out :=
  onFuse s dt (fun d => d.command q 0x4621 1 data programKey)

/-- 4621:02 (R511): the slot is revoked for ever, unless it is empty or no programmed slot would stay unrevoked. -/
def revokeKey (v : DVal) (d : Dev) : Dev × Nat :=
  let slot := v.int.toNat
  let others := [0, 1, 2, 3].filter (fun n => decide (n ≠ slot) && d.keyUsable n)
  if 3 < slot ∨ d.keyHeld slot = false ∨ others = [] then (d, 8)
  else ((d.setBit 0x462005 slot true).keyEntry 2 slot, 0)

def execRevokeKey (dt : Nat) (q : Req) (data : List Byte) (s : State) : Out :=
  onFuse s dt (fun d => d.command q 0x4621 2 data revokeKey)

/-- Bytes of header and component table (R512, R514). -/
def tableEnd (b : List Byte) : Nat := 256 + 16 * fieldN b 3 1

/-- The reserved fields of header and table are zero (R512, R514). -/
def reservedZero (b : List Byte) : Bool :=
  fieldN b 22 2 == 0 && ((b.drop 34).take 30).all (fun x => x == 0) && ((b.drop 192).take 60).all (fun x => x == 0)
    && (List.range (fieldN b 3 1)).all (fun i => fieldN b (257 + 16 * i) 3 == 0)

/-- A component: its type, offset and length (R514). -/
def component (b : List Byte) (i : Nat) : Nat × Nat × Nat :=
  (fieldN b (256 + 16 * i) 1, fieldN b (260 + 16 * i) 4, fieldN b (264 + 16 * i) 4)

/-- The component table keeps R514: 2 to 16 entries, types 1 and 2 there and none twice, bodies at multiples of 4,096 within
IMAGE_LEN and apart. -/
def tableOk (b : List Byte) : Bool :=
  let n := fieldN b 3 1
  let cs : List (Nat × Nat × Nat) := (List.range n).map (component b)
  let types : List Nat := cs.map (fun (c : Nat × Nat × Nat) => c.1)
  decide (2 ≤ n ∧ n ≤ 16) && types.all (fun t => decide (1 ≤ t ∧ t ≤ 7)) && types.contains 1 && types.contains 2
    && decide types.Nodup
    && cs.all (fun c => decide (c.2.1 % 4096 = 0) && decide (tableEnd b ≤ c.2.1) && decide (c.2.1 + c.2.2 ≤ fieldN b 4 4))
    && (List.range n).all (fun i => (List.range i).all (fun j =>
      let x := component b i
      let y := component b j
      decide (x.2.1 + x.2.2 ≤ y.2.1) || decide (y.2.1 + y.2.2 ≤ x.2.1)))

/-- The message that SIGNATURE signs: the digest of header bytes 0 to 127 (R513). -/
def signedDigest (b : List Byte) : List Byte := sha512 (b.take 128)

/-- The first of reasons 1 to 8 of R515 that refuses a header and table; 0 where none does. -/
def Dev.imageReason (d : Dev) (b : List Byte) : Nat :=
  let stepping := d.nat 0x101803 / 2 ^ 24 - 0x41
  let slot := fieldN b 13 1
  if fieldN b 0 2 ≠ 0x4D49 ∨ fieldN b 2 1 ≠ 1 ∨ fieldN b 252 4 ≠ crc32c (b.take 252) ∨ reservedZero b = false then 1
  else if (fieldN b 15 1).testBit stepping = false then 2
  else if d.nat 0x101803 % 2 ^ 16 < fieldN b 16 2 then 3
  else if 16777216 < fieldN b 4 4 ∨ tableOk b = false then 4
  else if d.keyUsable slot = false then 5
  else if edVerify (d.key slot) (signedDigest b) ((b.drop 128).take 64) = false then 6
  else if fieldN b 12 1 < d.nat 0x460108 then 7
  else if d.nat 0x460109 < fieldN b 20 2 then 8
  else 0

/-- A paired unit breaks R527 with an image of a level more than 1 from its peer's, which is 1: frames of another VERSION are dropped (R477, log 85). -/
def Dev.levelApart (d : Dev) (level : Nat) : Bool := d.inPair && d.pair.paired && decide (2 < level)

/-- A refusal of R515: event source 499 with the reason, and 4601:06. -/
def Dev.refuseImage (d : Dev) (reason : Nat) : Dev := (d.setN 0x460106 reason).raise 499 reason

/-- The bank that does not run. -/
def Dev.otherBank (d : Dev) : Nat := 1 - d.upd.running

/-- Change the update record. -/
def Dev.setUpd (d : Dev) (f : Update → Update) : Dev := { d with upd := f d.upd }

/-- What a bank holds once a header is written, with the bytes so far. -/
def bankOf (b : List Byte) : Bank :=
  { img := b, len := fieldN b 4 4, ver := (fieldN b 8 4 : Nat), sec := fieldN b 12 1, key := fieldN b 13 1, level := fieldN b 14 1
    schema := (fieldN b 18 2 : Nat), good := false }

/-- BODY_DIGEST is the digest of bytes 256 to IMAGE_LEN − 1 (R512). -/
def digestOk (b : List Byte) : Bool := (b.drop 64).take 64 == sha512 (b.drop 256)

/-- The inactive bank is empty and the state IDLE (R520, R524). -/
def Dev.dropImage (d : Dev) : Dev :=
  let o := d.otherBank
  let d := d.setUpd (fun u => { u.setBank o none with source := none, resume := 0 })
  (((d.setN 0x460101 0).setN 0x460104 0).setN 0x460105 0)

/-- The inactive bank holds these bytes, written and read back (R519): RESUME follows at each 65,536, and the state becomes
VERIFYING once IMAGE_LEN bytes are held (R520). -/
def Dev.holdImage (d : Dev) (bank : Bank) : Dev :=
  let o := d.otherBank
  let n := bank.img.length
  let d := d.setUpd (fun u => { u.setBank o (some bank) with resume := n / 65536 * 65536 })
  (d.setN 0x460105 (n : Nat)).setN 0x460101 (if n = bank.len then 2 else 1)

/-- A part at offset 0 that begins a download (R515, R519). `busy` is reason 12, which comes after those of header and table. -/
def Dev.firstPart (d : Dev) (p : Peer) (busy : Bool) (total : Nat) (b : List Byte) (bad : Option (Nat × Nat)) : Dev × Nat × Nat :=
  if b.length < 256 ∨ b.length < tableEnd b then (d, 7, 0)
  else
    let r := match d.imageReason b with
      | 0 => if d.levelApart (fieldN b 14 1) then 9 else if busy then 12 else 0
      | r => r
    if r ≠ 0 then (d.refuseImage r, 8, 0)
    else if total ≠ fieldN b 4 4 then (d, 7, 0)
    else
      let f := d.flashWrite bad
      let d := f.1
      if f.2 = false then (d.dropImage.refuseImage 11, 8, 0)
      else
      let d := d.setUpd (fun u => { u with sigId := (b.drop 128).take 16, source := some p })
      ((d.setN 0x460104 0).holdImage (bankOf b), 0, b.length)

/-- A first part of exactly 256 bytes resumes the download that the retention file and the bank hold (R519). -/
def Dev.resumes (d : Dev) (b : List Byte) : Bool :=
  decide (d.nat 0x460101 = 1) && decide (b.length = 256) && ((b.drop 128).take 16 == d.upd.sigId)
    && (match d.upd.bank d.otherBank with
      | some x => x.img.take 256 == b
      | none => false)

/-- A part written to 4602:01 (R519, R60): the status and the bytes accepted so far. -/
def Dev.imagePart (d : Dev) (p : Peer) (off total : Nat) (b : List Byte) (bad : Option (Nat × Nat)) : Dev × Nat × Nat :=
  let st := d.nat 0x460101
  let busy := decide (st = 4) || decide (st = 5) || (decide (st = 1) && d.upd.source.isSome && decide (d.upd.source ≠ some p))
  if total < off + b.length then (d, 7, 0)
  else if off = 0 then
    if d.resumes b && !busy then
      let o := d.otherBank
      let d := d.setUpd (fun u => { u.setBank o ((u.bank o).map (fun x => { x with img := x.img.take u.resume })) with source := some p })
      (d.setN 0x460105 (d.upd.resume : Nat), 0, d.upd.resume)
    else d.firstPart p busy total b bad
  else if busy then (d.refuseImage 12, 8, 0)
  else match (if st = 1 ∧ d.upd.source = some p then d.upd.bank d.otherBank else none) with
    | none => (d, 0x13, 0)
    | some x =>
      if total ≠ x.len then (d, 7, 0)
      else if off ≠ x.img.length then (d, 0x13, 0)
      else
        let f := d.flashWrite bad
        if f.2 = false then (f.1.dropImage.refuseImage 11, 8, 0) else (f.1.holdImage { x with img := x.img ++ b }, 0, off + b.length)

/-- IMAGE_DATA: a WRITE of 4602:01, or a Jenyn IMAGE_WRITE (R529). `bad` is a flash block that fails at the write (R546). -/
def imageData (q : Req) (off total : Nat) (data : List Byte) (bad : Option (Nat × Nat)) (d : Dev) : Dev :=
  d.serveWrite q opWrite 0x4602 1 off total data (fun d =>
    let reply (d : Dev) (status acc : Nat) : Dev := d.answer q opWrite status [0x4602, 1, acc]
    match d.writeCheck q.peer false 0x4602 1 with
    | 0 =>
      let r := (d.dropParts q.peer).imagePart q.peer off total data bad
      reply r.1 r.2.1 r.2.2
    | e => reply (d.refusedBy q.peer e 0x460201) e 0)

def execImageData (dt : Nat) (q : Req) (offset total : Nat) (data : List Byte) (bad : Option (Nat × Nat)) (s : State) : Out :=
  onDev s dt (imageData q offset total data bad)

/-- The check of R520 ends: `readBack` says whether the bank reads back whole. -/
def imageVerifyEnd (readBack : Bool) (d : Dev) : Dev :=
  match (if d.up 8 ∧ d.nat 0x460101 = 2 then d.upd.bank d.otherBank else none) with
  | none => d
  | some x =>
    if readBack = false then d.dropImage.refuseImage 11
    else if digestOk x.img = false then d.dropImage.refuseImage 10
    else
      let o := d.otherBank
      let d := d.setUpd (fun u => { u.setBank o (some { x with good := true }) with source := none, resume := 0 })
      ((d.setN 0x460101 3).setN 0x460104 x.ver).raise 500 0

def execImageVerifyEnd (dt : Nat) (readBack : Bool) (s : State) : Out := onDev s dt (imageVerifyEnd readBack)

/-- An accepted activation proceeds once no commit waits for its instant (R521, R526). -/
def Dev.settle (d : Dev) : Dev :=
  if d.upd.waiting ∧ d.nat 0x201003 ≠ 2 ∧ d.nat 0x201003 ≠ 3 then
    let o := d.otherBank
    let d := d.flushSettings.setUpd (fun u => { u.write o true 0 with waiting := false })
    { d with pwr := { d.pwr with due := some (.reset 5 0) } }
  else d

/-- 4602:02 (R521). -/
def activate (_ : DVal) (d : Dev) : Dev × Nat :=
  if d.flag 0x461001 = false ∧ d.flag 0x460003 = false then (d, 9)
  else if d.nat 0x460101 ≠ 3 then (d, 8)
  else match d.upd.bank d.otherBank with
    | none => (d, 8)
    | some x =>
      if x.sec < d.nat 0x460108 then (d.refuseImage 7, 8)
      else if d.levelApart x.level then (d.refuseImage 9, 8)
      else (d.setUpd (fun u => { u with waiting := true }), 0)

/-- The payload of a Jenyn message is empty where a dictionary write carries 1 (R529). -/
def jenynOne (q : Req) (data : List Byte) : List Byte := if q.peer.kind = 4 then [1] else data

def execActivate (dt : Nat) (q : Req) (data : List Byte) (s : State) : Out :=
  onDev s dt (fun d => (d.command q 0x4602 2 (jenynOne q data) activate).settle.doDue)

/-- The trial image is confirmed (R523): the descriptor, the fused counter, the old settings area; then 502 and the election of
a paired unit. The previous image in the other bank gives VERIFIED (R520). -/
def Dev.confirmTrial (d : Dev) : Dev :=
  let run := d.upd.running
  let d := d.setUpd (fun u => { u.write run false 0 with old := none })
  let sec := ((d.upd.bank run).map (·.sec)).getD 0
  let d := d.setN 0x460108 (max (d.nat 0x460108) sec : Nat)
  let d := match d.upd.bank (1 - run) with
    | some x => if x.good then (d.setN 0x460101 3).setN 0x460104 x.ver else (d.setN 0x460101 0).setN 0x460104 0
    | none => (d.setN 0x460101 0).setN 0x460104 0
  (({ d with pair := { d.pair with electAt := d.clk.now } } : Dev).raise 502 0).elect

/-- 4602:03 (R523). -/
def confirm (_ : DVal) (d : Dev) : Dev × Nat := if d.nat 0x460101 = 4 then (d.confirmTrial, 0) else (d, 8)

def execConfirm (dt : Nat) (q : Req) (data : List Byte) (s : State) : Out :=
  onFuse s dt (fun d => d.command q 0x4602 3 (jenynOne q data) confirm)

/-- A trial is left by a fall-back of cause 2 or 3 (R524), which ends in a reset of kind 5. Where the other bank holds no valid image
the descriptor stands, and the ROM enters recovery at that reset (R532). -/
def Dev.leaveTrial (d : Dev) (cause : Nat) : Dev :=
  let d := if d.bankOk d.otherBank then d.fallBack d.otherBank cause else d
  { d with pwr := { d.pwr with due := some (.reset 5 0) } }

/-- 4602:04 (R524). -/
def abandon (_ : DVal) (d : Dev) : Dev × Nat :=
  match d.nat 0x460101 with
  | 0 => (d, 8)
  | 4 => (d.leaveTrial 3, 0)
  | 5 => (d.leaveTrial 3, 0)
  | _ => (d.dropImage, 0)

def execAbandon (dt : Nat) (q : Req) (data : List Byte) (s : State) : Out :=
  onDev s dt (fun d => (d.command q 0x4602 4 (jenynOne q data) abandon).doDue)

/-- With policy 1, 4600:02 has passed in TRIAL (R523). -/
def autoConfirm (d : Dev) : Dev :=
  d.when (d.up 8 && decide (d.nat 0x460101 = 4) && decide (d.nat 0x460001 = 1)
    && decide (d.upd.trialAt + d.nat 0x460002 * secT ≤ d.clk.now)) Dev.confirmTrial

def execAutoConfirmExpiry (dt : Nat) (s : State) : Out := onFuse s dt autoConfirm

/-- 600 s have passed from the end of the Thaw in TRIAL or TRIAL_FAILED (R524). -/
def trialTimeout (d : Dev) : Dev :=
  d.when (d.up 8 && decide (d.nat 0x460101 = 4 ∨ d.nat 0x460101 = 5) && decide (d.pwr.thawEnd + 600 * secT ≤ d.clk.now)) (fun d =>
    (d.leaveTrial 2).doDue)

def execTrialTimeout (dt : Nat) (s : State) : Out := onDev s dt trialTimeout

/-- The answer to a Jenyn IDENTIFY (R529). -/
def Dev.identify (d : Dev) (q : Req) : Dev :=
  d.answer q 1 0 [d.num 0x101801, d.num 0x101802, d.num 0x101803, d.num 0x101804, d.num 0x460103, d.num 0x460101, d.num 0x461001]

/-- A Jenyn IDENTIFY (R529). -/
def jenynIdentify (q : Req) (d : Dev) : Dev := d.when (decide (q.peer.kind = 4)) (fun d => d.serve q 1 [] (fun d => d.identify q))

def execJenynIdentify (dt : Nat) (q : Req) (s : State) : Out := onDev s dt (jenynIdentify q)

/-- The states of USB DFU 1.1 that a device with R531's descriptor takes: 2 dfuIDLE, 3 dfuDNLOAD-SYNC, 5 dfuDNLOAD-IDLE,
6 dfuMANIFEST-SYNC, 7 dfuMANIFEST, 10 dfuERROR. A request is answered, or stalled, which gives errSTALLEDPKT (15). -/
def Dev.dfuError (d : Dev) (e : Nat) : Dev := d.setUpd (fun u => { u with dfuState := 10, dfuError := if u.dfuState = 10 then u.dfuError else e })

/-- A stalled request: one field, -1. -/
def Dev.dfuStall (d : Dev) (e : Nat) : Dev := (d.emit .dfuReply [] [-1]).dfuError e

/-- The bank that recovery writes (R532): the one that the newest valid descriptor does not name as confirmed, which is the trial's
own where it names a trial; A where no descriptor is valid. -/
def Update.dfuTarget (u : Update) : Nat :=
  match u.desc with
  | none => 0
  | some x => if x.trial then x.active else 1 - x.active

/-- A block of a download in recovery (R531): the first holds the header and the table. -/
def dfuDnload (b : List Byte) (written : Bool) (d : Dev) : Dev :=
  d.when d.upd.recovery (fun d =>
    let st := d.upd.dfuState
    if (st ≠ 2 ∧ st ≠ 5) ∨ 4096 < b.length ∨ (st = 2 ∧ b = []) then d.dfuStall 15
    else if b = [] then
      match d.upd.bank d.upd.dfuBank with
      | some x => if x.img.length = x.len then d.setUpd (fun u => { u with dfuState := 6 }) else d.dfuStall 9
      | none => d.dfuStall 9
    else
      let reason := if st = 5 then 0 else if b.length < 256 ∨ b.length < tableEnd b then 4 else d.imageReason b
      let bank := if st = 2 then d.upd.dfuTarget else d.upd.dfuBank
      let d := d.setUpd (fun u => { u with dfuBank := bank })
      let img := if st = 2 then b else d.upd.dfuImg ++ b
      let x := bankOf img
      if reason = 6 then d.dfuError 7
      else if reason ≠ 0 then d.dfuError 1
      else if written = false then d.dfuError 3
      else if x.len < img.length then d.dfuError 8
      else d.setUpd (fun u => { u.setBank bank (some x) with dfuImg := img, dfuState := 3 }))

def execDfuDnload (dt : Nat) (data : List Byte) (written : Bool) (s : State) : Out := onDev s dt (dfuDnload data written)

/-- The ROM's digest check ends (R532). -/
def dfuVerifyEnd (readBack : Bool) (d : Dev) : Dev :=
  match (if d.upd.recovery ∧ (d.upd.dfuState = 6 ∨ d.upd.dfuState = 7) then d.upd.bank d.upd.dfuBank else none) with
  | none => d
  | some x =>
    if readBack = false ∨ digestOk x.img = false then d.dfuError 7
    else
      let d := d.setUpd (fun u => (u.setBank u.dfuBank (some { x with good := true })).write u.dfuBank true 0)
      d.restart 5 0

def execDfuVerifyEnd (dt : Nat) (readBack : Bool) (s : State) : Out := onDev s dt (dfuVerifyEnd readBack)

/-- DFU_GETSTATUS (R531): bStatus, bwPollTimeout, bState, iString. It moves dfuDNLOAD-SYNC and dfuMANIFEST-SYNC on. -/
def dfuGetStatus (d : Dev) : Dev :=
  d.when d.upd.recovery (fun d =>
    let st := match d.upd.dfuState with
      | 3 => 5
      | 6 => 7
      | n => n
    let d := d.setUpd (fun u => { u with dfuState := st })
    d.emit .dfuReply [] [(d.upd.dfuError : Int), if st = 7 then 2000 else 0, (st : Int), 0])

def execDfuGetstatus (dt : Nat) (s : State) : Out := onDev s dt dfuGetStatus

/-- Back to dfuIDLE with nothing received. -/
def Dev.dfuIdle (d : Dev) : Dev := d.setUpd (fun u => { u with dfuState := 2, dfuError := 0, dfuImg := [] })

/-- DFU_CLRSTATUS (R531): from dfuERROR to dfuIDLE; stalled in another state. -/
def dfuClrStatus (d : Dev) : Dev :=
  d.when d.upd.recovery (fun d => if d.upd.dfuState = 10 then d.dfuIdle else d.dfuStall 15)

def execDfuClrstatus (dt : Nat) (s : State) : Out := onDev s dt dfuClrStatus

/-- DFU_GETSTATE (R531): the state, which stays. -/
def dfuGetState (d : Dev) : Dev := d.when d.upd.recovery (fun d => d.emit .dfuReply [] [(d.upd.dfuState : Int)])

def execDfuGetstate (dt : Nat) (s : State) : Out := onDev s dt dfuGetState

/-- DFU_ABORT (R531): to dfuIDLE, but from dfuERROR and dfuMANIFEST. -/
def dfuAbort (d : Dev) : Dev :=
  d.when d.upd.recovery (fun d => if d.upd.dfuState = 10 ∨ d.upd.dfuState = 7 then d.dfuStall 15 else d.dfuIdle)

def execDfuAbort (dt : Nat) (s : State) : Out := onDev s dt dfuAbort

/-- DFU_UPLOAD is stalled (R531). -/
def dfuUpload (d : Dev) : Dev := d.when d.upd.recovery (fun d => d.dfuStall 15)

def execDfuUpload (dt : Nat) (s : State) : Out := onDev s dt dfuUpload

/-- DFU_DETACH is stalled (R531). -/
def dfuDetach (d : Dev) : Dev := d.when d.upd.recovery (fun d => d.dfuStall 15)

def execDfuDetach (dt : Nat) (s : State) : Out := onDev s dt dfuDetach

/-- WIT_BTN_N has stayed low for 5 s from the end of a reset of kinds 1 to 5, with the jumper fitted (R530). -/
def recoveryButton (fitted : Bool) (d : Dev) : Dev :=
  d.when (d.up 2 && fitted && decide (1 ≤ d.pwr.kind ∧ d.pwr.kind ≤ 5) && !d.pwr.hibernating
      && decide (d.pwr.thawAt + 5 * secT ≤ d.clk.now)) (fun d =>
    d.islandsOff.enterRecovery.showCondition)

def execRecoveryButtonHold (dt : Nat) (fitted : Bool) (s : State) : Out := onDev s dt (recoveryButton fitted)

end Sys2Proof.Machine
end

