-- ==== Sys2Proof/Machine/Commands.lean ====
section
/-!
DEFINITION. The effect of every command entry (R35), as a staged command, a timed action or a plain write runs it; timed actions
(R429 to R431) and the clearing of pending bits (R65).
-/
namespace Sys2Proof.Machine

/-- Entry `sub` of timed action `a` (R429). -/
def actKey (a sub : Nat) : Key := (0x4100 + a) * 256 + sub

/-- Set or clear the late mark of a timed action (R431). -/
def Dev.actLate (d : Dev) (a : Nat) (on : Bool) : Dev :=
  let c := d.sched.actLate
  { d with sched := { d.sched with actLate := if on then tabPut c a d.schedNs else tabDel c a } }

/-- The tick at which an armed action runs: the first at or after its target, or for one marked late the first after its arming (R430, R431). -/
def Dev.actTick (d : Dev) (a : Nat) : Int :=
  match tabGet d.sched.actLate a with
  | some t => schedTick (t + 1)
  | none => schedTick (d.num (actKey a 2) + d.clk.engOff / 65536)

/-- 4100 + a:02 sets the target and arms the action (R429, R431). With mode 0, while fleet time is UNAVAILABLE (state 0), or for a target
already passed under late policy 1, it is rejected: disarmed, with status bit 2 and event source 457. The target written stands (log 71). -/
def armAction (a : Nat) (v : DVal) (d : Dev) : Dev × Nat :=
  let passed := decide (v.int ≤ d.fleetNs)
  let d := d.setN (actKey a 2) v.int
  if d.nat (actKey a 1) = 0 ∨ d.timeState = 0 ∨ (passed ∧ d.nat (actKey a 4) = 1) then
    (((d.setBit (actKey a 7) 0 false).setBit (actKey a 7) 2 true).raise 457 a, 0)
  else (((d.setBit (actKey a 7) 0 true).setBit (actKey a 7) 2 false).actLate a passed, 0)

def execTimedActionArm (dt : Nat) (q : Req) (a : Fin 256) (data : List Byte) (s : State) : Out :=
  onDev s dt (fun d => d.command q (0x4100 + a.val) 2 data (armAction a.val))

/-- Writing 1 to a bit of 4815 clears it, and 0 leaves it (R65). -/
def pendingClear (sub : Nat) (v : DVal) (d : Dev) : Dev × Nat :=
  let old := d.nat (0x481500 + sub)
  (d.setN (0x481500 + sub) ((old ^^^ (old &&& v.int.toNat) : Nat) : Int), 0)

def execPendingClear (dt : Nat) (q : Req) (sub : Nat) (data : List Byte) (s : State) : Out :=
  onDev s dt (fun d => d.command q 0x4815 sub data (pendingClear sub))

/-- The effect of a command entry with one index in the device. -/
def runFixed (m : Samples) (staged : Bool) (k : Key) (v : DVal) (d : Dev) : Dev × Nat :=
  match k with
  | 0x205001 => powerCommand v d
  | 0x206001 => softwareReset v d
  | 0x209002 => gpioOutput m.gpio v d
  | 0x243004 => receiverRestart v d
  | 0x249201 => surveyCommand v d
  | 0x2E1001 => reservation (parseReq v.bytes).1 v d
  | 0x2E1201 => schedSelect v d
  | 0x2E1401 => forceRelease v d
  | 0x300101 => taskSubmit v d
  | 0x300102 => taskCancel v d
  | 0x380001 => stopCommand v d
  | 0x380002 => clearCommand v (if d.up 10 then d.sampleHigh m.stop m.highUs else d)
  | 0x380003 => keepAlive v d
  | 0x3A8001 => if staged then (d.put k v, 0) else windowWrite (fun v (d : Dev) => (d.put k v, 0)) v d
  | 0x3A8002 => if staged then (d.put k v, 0) else windowWrite (fun v (d : Dev) => (d.put k v, 0)) v d
  | 0x3A8003 => if staged then (d.put k v, 0) else windowWrite (fun v (d : Dev) => (d.put k v, 0)) v d
  | 0x3A8004 =>
    if staged then (tableStaged v d, 0) else windowWrite tableExec v d.ownFirst
  | 0x3A8101 =>
    if staged then ((d.batch true v.bytes).1.busyFor ((records 56 v.bytes).map (fun r => windowBound (fieldN r 0 1) (fieldN r 1 1))).sum, 0)
    else windowWrite tableBatch v d.ownFirst
  | 0x3F1004 => clearQueueStats v d
  | 0x400003 => clearCoreStats v d
  | 0x420301 => captureCommand m.caps v d
  | 0x420302 => captureRelease v d
  | 0x440101 => switchOver v d
  | 0x440102 => drillCommand v d
  | 0x440103 => soloCommand v d
  | 0x460202 => activate v d
  | 0x460203 => confirm v d
  | 0x460204 => abandon v d
  | 0x461004 => closeWindowCommand v d
  | 0x461006 => clearLatches m.fitted m.closed v d
  | 0x462101 => programKey v d
  | 0x462102 => revokeKey v d
  | 0x482002 => readFrom v d
  | 0x482006 => clearLog v d
  | _ => (d, 0)

/-- The effect of any command entry (R35): those with one index for each unit, and the rest. -/
def Dev.runCommand (d : Dev) (m : Samples) (staged : Bool) (k : Key) (v : DVal) : Dev × Nat :=
  let idx := k / 256
  if 0x2280 ≤ idx ∧ idx ≤ 0x228E then armComparator (idx - 0x2280) v d
  else if 0x3620 ≤ idx ∧ idx ≤ 0x3627 then axCommand (idx - 0x3620) v d
  else if 0x3630 ≤ idx ∧ idx ≤ 0x3637 then axSetPosition (idx - 0x3630) v d
  else if 0x3E10 ≤ idx ∧ idx ≤ 0x3EFF then flushQueue (idx - 0x3E00) v d
  else if 0x4100 ≤ idx ∧ idx ≤ 0x41FF then armAction (idx - 0x4100) v d
  else if idx = 0x4815 then pendingClear (k % 256) v d
  else if 0x5000 ≤ idx ∧ idx ≤ 0x5FFF then
    if idx % 32 = 3 then slotCommand ((idx - 0x5000) / 32) v d else vehicleCommand ((idx - 0x5000) / 32) v d
  else runFixed m staged k v d

/-- The peer that a timed action's write counts as: no client of the device. -/
def noPeer : Peer := { kind := 0 }

/-- The write of a timed action (R430): checked like any other write, then carried out. Answers its status. -/
def Dev.actionWrite (d : Dev) (m : Samples) (a : Nat) : Dev × Nat :=
  let t := d.nat (actKey a 5)
  let idx := t / 65536
  let sub := t / 256 % 256
  if !d.up 8 then (d.notReady 8, 0x0A)
  else match d.writeCheck noPeer false idx sub with
    | 0 =>
      match valueOf idx sub ((d.oct (actKey a 6)).take (t % 256)) with
      | .error e => (d, e)
      | .ok v => d.runCommand m false (keyOf idx sub) v
    | e => (d.refusedBy noPeer e (keyOf idx sub), e)

/-- An armed action is due (R85, R430): the scheduler scale, which runs on in state 0, has reached its tick, and no other armed action stands before
it, at an earlier tick or at the same tick with a lower number. -/
def Dev.actionDue (d : Dev) (a : Nat) : Bool :=
  let t := d.actTick a
  d.bit (actKey a 7) 0 && decide (t ≤ d.schedNs)
    && (List.range 256).all (fun b => !d.bit (actKey b 7) 0 || decide (t < d.actTick b ∨ (t = d.actTick b ∧ a ≤ b)))

/-- A timed action runs (R430, R431): event source 456, then its write, whose failure sets status bit 3 and raises 458. A periodic
action re-targets at the first of its instants that has not passed; a one-shot disarms. -/
def timedActionRun (a : Nat) (m : Samples) (d : Dev) : Dev :=
  d.when (d.actionDue a) (fun d =>
    let late := (tabGet d.sched.actLate a).isSome
    let d := d.raise 456 (a + (if late then 256 else 0))
    let d := (d.setBit (actKey a 7) 1 late).actLate a false
    let d := if d.nat (actKey a 1) = 2 then
        d.setN (actKey a 2) (nextTarget (d.nat (actKey a 2)) (d.nat (actKey a 3)) (d.schedNs - d.clk.engOff / 65536).toNat : Nat)
      else d.setBit (actKey a 7) 0 false
    if d.nat (actKey a 5) = 0 then d
    else
      let r := d.actionWrite m a
      let d := (r.1.setN (actKey a 8) (r.2 : Nat)).setBit (actKey a 7) 3 (decide (r.2 ≠ 0))
      (d.raiseIf (decide (r.2 ≠ 0)) 458 a).settle.doDue)

def execTimedActionRun (dt : Nat) (a : Fin 256) (m : Samples) (s : State) : Out := onFuse s dt (timedActionRun a.val m)

end Sys2Proof.Machine
end

