-- ==== Sys2Proof/Machine/Closure.lean ====
section
/-!
DEFINITION. Closure (R42): the rules of classes 1 to 5 over the configuration, which is the live values with the staged ones laid
over them. A check never changes a live value.
-/
namespace Sys2Proof.Machine

/-- A rule of a check: the entries that it rests on, first the one whose value the rule judges, and whether it holds. -/
abbrev Check := List Key × Bool

/-- True for a command entry (R35). -/
def isCommand (k : Key) : Bool := ((rowOf (k / 256) (k % 256)).map (·.cmd)).getD false

/-- Staged settings: what is staged but for the commands. -/
def Dev.settings (d : Dev) : Tab DVal := d.cs.staged.filter (fun e => !isCommand e.1)

/-- The configuration that a check evaluates (R42). -/
def Dev.overlay (d : Dev) : Dev := { d with od := d.settings.foldl (fun t e => tabPut t e.1 e.2) d.od }

/-- True where an entry is staged. -/
def Dev.isStaged (d : Dev) (k : Key) : Bool := (tabGet d.cs.staged k).isSome

/-- True where a staged value differs from the live one. -/
def Dev.changes (d : Dev) (k : Key) : Bool := match tabGet d.cs.staged k with
  | some v => decide (v ≠ d.get k)
  | none => false

/-- DEDUCED, log 23. The entry that a failing rule of classes 1 to 4 reports: the one whose value it judges. -/
def Check.owner (c : Check) : Key := c.1.headD 0

/-- DEDUCED, log 23. The entry that a failing rule of class 5 reports: the first staged one of those that make up the load. -/
def Dev.loader (d : Dev) (c : Check) : Key := (c.1.find? d.isStaged).getD (c.1.headD 0)

/-- The least number of a list. -/
def leastOf : List Nat → Option Nat
  | [] => none
  | x :: xs => some (xs.foldl min x)

/-- The first offending entry of a class, in ascending index and sub-index order (R42). -/
def firstBad (report : Check → Key) (l : List Check) : Option Key := leastOf ((l.filter (fun c => !c.2)).map report)

/-! Class 1. -/

/-- Record size and greatest number of records of a table (R222, R234, R377, R378, R403). -/
def tableSize (k : Key) : Option (Nat × Nat) :=
  if k = 0x2C1001 then some (16, 16384) else if k = 0x2C1002 then some (24, 32768) else if k = 0x2C1003 then some (8, 65536)
  else if k = 0x2C1004 then some (4, 32768) else if k = 0x2C2001 then some (8, 2048) else if k = 0x2C2002 then some (8, 65536)
  else if k = 0x3A3001 then some (8, 256) else if k = 0x3A4001 then some (24, 16) else if k = 0x3A8101 then some (56, 4096)
  else if k = 0x400301 then some (2, 256) else none

/-- The fields of one record lie within their ranges (R224 to R226, R234, R377, R378, R426). -/
def recordOk (k : Key) (r : List Byte) : Bool :=
  let w := leNat r
  if k = 0x2C1002 then
    decide (-1000000 ≤ fieldI r 20 4 ∧ fieldI r 20 4 ≤ 1000000) && decide (1 ≤ fieldN r 16 4 ∧ fieldN r 16 4 ≤ 2000000000)
      && decide (1 ≤ fieldN r 7 1 ∧ fieldN r 7 1 ≤ 16)
  else if k = 0x2C1004 then decide (fieldN r 2 2 ≤ 1000)
  else if k = 0x2C2002 then decide (bitsOf w 15 11 ≤ 24)
  else if k = 0x3A3001 then decide (1 ≤ bitsOf w 11 0 ∧ bitsOf w 11 0 ≤ 4094)
  else if k = 0x3A4001 then
    decide (1 ≤ bitsOf w 11 0 ∧ bitsOf w 11 0 ≤ 4094) && decide (bitsOf w 23 16 ≤ 32) && decide (bitsOf w 31 24 ≤ 128)
  else if k = 0x400301 then (decide (fieldN r 0 1 ≤ 31) || decide (fieldN r 0 1 = 0xFF)) && decide (fieldN r 1 1 < 128)
  else true

/-- A table holds whole records, not too many, each in range. Of the task placement it is 256 records. -/
def tableShape (k : Key) (v : DVal) : Bool :=
  match tableSize k, v with
  | some (size, most), .oct b =>
    decide (b.length % size = 0) && decide (b.length ≤ size * most) && (records size b).all (recordOk k)
      && (decide (k ≠ 0x400301) || decide (b.length = 512))
  | _, _ => true

/-- A staged value has its entry's type, length and range (class 1). The flood VLANs are 0, 1 to 4,094 or 0xFFFF. -/
def stagedOk (k : Key) (v : DVal) : Bool :=
  match rowOf (k / 256) (k % 256) with
  | none => false
  | some r =>
    lengthOk r.ty (encodeVal r.ty v).length && inRange r v && extraOk k v && tableShape k v
      && (decide (k ≠ 0x382004) || ((records 2 v.bytes).map leNat).all (fun x => decide (x ≤ 4094 ∨ x = 0xFFFF)))

/-- The range of 2220:08 and 2221:08 under profile 2 (R102): it is 0 to 3 there. -/
def delayRange (d x : Dev) : List Check :=
  [0x2220, 0x2221].filterMap (fun i =>
    if d.isStaged (i * 256 + 1) || d.isStaged (i * 256 + 8) then some ([i * 256 + 8], decide (x.nat (i * 256 + 1) ≠ 2 ∨ x.num (i * 256 + 8) ≤ 3))
    else none)

def Dev.class1 (d : Dev) : List Check := d.cs.staged.map (fun e => ([e.1], stagedOk e.1 e.2)) ++ delayRange d d.overlay

/-- Class 2: a Guarded entry is staged with no Witness window open. -/
def Dev.class2 (d : Dev) : List Check :=
  d.cs.staged.map (fun e => ([e.1], d.flag 0x461001 || (rowOf (e.1 / 256) (e.1 % 256)).map (·.cls) != some Cls.guarded))

/-! Class 3. `x` is the configuration. -/

/-- R103: the PTP ports. Every port mode of R372 is one of those that R106 lists. -/
def ptpRules (x : Dev) : List Check :=
  let k (p sub : Nat) : Key := (0x2220 + p) * 256 + sub
  let both := decide (x.nat (k 0 1) ≠ 0 ∧ x.nat (k 1 1) ≠ 0)
  [0, 1].flatMap (fun p =>
    [([k p 1, k p 7], decide (x.nat (k p 1) ≠ 1) || decide (-1 ≤ x.num (k p 7) ∧ x.num (k p 7) ≤ 1))
    , ([k p 1, k p 3, k p 7, k p 0x0C], decide (x.nat (k p 1) ≠ 2)
        || (decide (x.nat (k p 3) = 0 ∧ x.nat (k p 0x0C) = 0) && decide (-3 ≤ x.num (k p 7) ∧ x.num (k p 7) ≤ 0)))])
    ++ [([k 0 1, k 0 3, k 1 1, k 1 3], !both || decide (x.nat (k 0 1) = x.nat (k 1 1) ∧ x.nat (k 0 3) = x.nat (k 1 3)))]

/-- R143: the loop classes. -/
def loopRules (x : Dev) : List Check :=
  [0, 1, 2, 3].flatMap (fun c =>
    let k (sub : Nat) : Key := (0x2440 + c) * 256 + sub
    let t := x.nat (k 9)
    [([k 2, k 9], decide (x.nat (k 2) * t ≤ 2500)), ([k 9], decide (c ≠ 1 ∨ t = 1 ∨ t = 2 ∨ t = 20))])

/-- The square of the length of three integers. -/
def square3 (a b c : Int) : Int := a * a + b * b + c * c

/-- R158: the Benchmark. -/
def benchRules (x : Dev) : List Check :=
  let b := x.oct 0x249001
  let none_ := decide (b = zeros 24)
  let r2 := square3 (fieldI b 0 8) (fieldI b 8 8) (fieldI b 16 8)
  let l := x.oct 0x249005
  let l2 := square3 (fieldI l 0 4) (fieldI l 4 4) (fieldI l 8 4)
  [([0x249001, 0x249003], decide (x.nat 0x249003 = 0) == none_)
  , ([0x249001], none_ || decide (63000000000 ^ 2 ≤ r2 ∧ r2 ≤ 64000000000 ^ 2))
  , ([0x249005], decide (l = zeros 12) || decide (5000 ^ 2 ≤ l2 ∧ l2 ≤ 1000000 ^ 2))]

/-- The station ID has been set since the Benchmark was last changed, in the configuration (R171). -/
def Dev.stationSet (d : Dev) : Bool := d.isStaged 0x249006 || (d.rx.station && !d.changes 0x249001)

/-- R171: MSM output. -/
def msmRules (d x : Dev) : List Check :=
  let m := msmPeriod (x.nat 0x24C004)
  let p := measPeriod (x.nat 0x247001)
  [([0x247001, 0x24C004], decide (p ≤ m ∧ m % p = 0))
  , ([0x249001, 0x249006, 0x24C001, 0x24C003], !x.flag 0x24C001 || (decide (x.nat 0x24C003 ≠ 0) && d.stationSet))]

/-- Pairs of enabled slots. -/
def slotPairs (on : List Nat) : List (Nat × Nat) := on.flatMap (fun n => (on.filter (fun m => decide (n < m))).map (fun m => (n, m)))

/-- R181, R257, R420: the vehicle slots. -/
def slotRules (d x : Dev) : List Check :=
  let on := x.slotsOn
  on.flatMap (fun n =>
    [([slotKey n 0 2, slotKey n 0 1], decide (x.nat (slotKey n 0 2) ≠ 0))
    , ([slotKey n 0 5, slotKey n 0 4], decide (x.nat (slotKey n 0 5) = 0xFFFF)
        || decide (x.nat (slotKey n 0 5) * x.reportHz n < 10000))
    , ([slotKey n 0 3, slotKey n 0 1, qKey (x.nat (slotKey n 0 3)) 3], decide (16 ≤ x.nat (slotKey n 0 3))
        && decide (x.nat (qKey (x.nat (slotKey n 0 3)) 3) = 1))])
    ++ [2, 3].flatMap (fun sub => (slotPairs on).map (fun p =>
      ([slotKey p.2 0 sub, slotKey p.1 0 sub, slotKey p.1 0 1, slotKey p.2 0 1]
      , decide (x.nat (slotKey p.1 0 sub) ≠ x.nat (slotKey p.2 0 sub)))))
    ++ ((d.resv.holds.map (·.path)).eraseDups.filter (fun n => decide (n < 128))).flatMap (fun n =>
      [([slotKey n 0 1], !(d.slotOn n && !x.slotOn n)), ([slotKey n 0 2], !d.changes (slotKey n 0 2))
      , ([slotKey n 0x10 1], !d.changes (slotKey n 0x10 1))])

/-- R220: the grid does not move under held vehicle paths. -/
def gridRules (d : Dev) : List Check :=
  (0x2C0001 :: benchKeys).map (fun k => ([k], !(d.changes k && d.pathsHeld)))

/-- The arcs of a graph. -/
def Graph.allArcs (g : Graph) : List (Nat × ArcRec) := (List.range g.nArcs).filterMap (fun i => (g.arc i).map (fun a => (i, a)))

/-- The segments of an arc lie in the table (R227). -/
def Graph.segsIn (g : Graph) (a : ArcRec) : Bool := decide (a.first + a.count ≤ g.nSegs)

/-- Segment ENDs rise strictly from above 0 to LENGTH (R227). -/
def Graph.endsOk (g : Graph) (a : ArcRec) : Bool :=
  let s := g.segsOf a
  s.all (fun e => decide (e.1 < e.2.1)) && decide ((s.getLast?).map (fun e => e.2.1) = some a.len)

/-- LENGTH is within 10 mm of the geometric length (R227). -/
def Graph.lengthOk (g : Graph) (a : ArcRec) : Bool :=
  match g.line a with
  | none => true
  | some l =>
    let half := (if l.k < 0 then -l.k else l.k) * l.c / 2
    decide (half ≤ 1) && decide (l.len - 10 ≤ a.len ∧ (a.len : Rat) ≤ l.len + 10)

/-- The groups that an arc's segments name. -/
def Graph.groupsOf (g : Graph) (a : ArcRec) : List Nat := (g.segsOf a).map (fun s => s.2.2)

/-- The greatest length of a DEFINED class that a mask admits (R228, R261). -/
def Dev.longest (x : Dev) (mask : Nat) : Nat :=
  ((List.range 16).filter (fun k => mask.testBit k && (x.cls k).defined)).foldl (fun m k => max m ((x.cls k).front + (x.cls k).rear)) 0

/-- R228 for a safe-park node. -/
def Dev.parkOk (x : Dev) (g : Graph) (arcs : List (Nat × ArcRec)) (i : Nat) (n : NodeRec) : Bool :=
  (List.range g.nNodes).all (fun j => decide (j = i) || decide ((g.node j).map (·.group) ≠ some n.group))
    && arcs.all (fun a =>
      let s := g.segsOf a.2
      (s.zip (List.range s.length)).all (fun e =>
        decide (e.1.2.2 ≠ n.group)
          || (((decide (e.2 + 1 = s.length) && decide (a.2.to_ = i)) || (decide (e.2 = 0) && decide (a.2.from_ = i)))
            && decide (x.longest a.2.mask ≤ e.1.2.1 - e.1.1))))

/-- True where the change set concerns the graph or the classes that its rules name. -/
def Dev.stagesGraph (d : Dev) : Bool :=
  [0x2C1001, 0x2C1002, 0x2C1003, 0x2C1004].any d.isStaged || (List.range 16).any (fun k => d.isStaged (0x340001 + k))

/-- Entries that the rules on arcs, segments and nodes rest on. -/
def graphKeys : List Key := [0x2C1001, 0x2C1002, 0x2C1003, 0x2C1004] ++ (List.range 16).map (fun k => 0x340001 + k)

/-- An arc whose FROM, TO and segments exist; of another arc, class 4 reports the reference, and no class 3 rule can judge it. -/
def Graph.refsOk (g : Graph) (a : ArcRec) : Bool := decide (a.from_ < g.nNodes ∧ a.to_ < g.nNodes) && g.segsIn a

/-- Class 3 of R227, R228 and R262 on the graph. -/
def graphRules (d x : Dev) : List Check :=
  if !d.stagesGraph then []
  else
    let g := x.graph
    let arcs := g.allArcs.filter (fun a => g.refsOk a.2)
    arcs.flatMap (fun a =>
      [([0x2C1003, 0x2C1002], g.endsOk a.2), ([0x2C1002, 0x2C1001], g.lengthOk a.2)
      , ([0x2C1002, 0x2C1003], match (if a.2.rev = 0xFFFF then none else g.arc a.2.rev) with
          | none => true
          | some b => !g.refsOk b || (g.groupsOf a.2).all (g.groupsOf b).contains && (g.groupsOf b).all (g.groupsOf a.2).contains)
      , ([0x2C1002], !a.2.gear || (List.range 16).all (fun k => !a.2.mask.testBit k || ((x.cls k).defined && (x.cls k).reversing)))])
      ++ (List.range g.nNodes).filterMap (fun i => (g.node i).map (fun n =>
        (graphKeys, (!n.park || x.parkOk g arcs i n) && (!n.task || n.park))))

/-- R262: a DEFINED class record lies within the ranges of R261. -/
def classOk (c : ClassRec) : Bool :=
  !c.defined || (decide (100 ≤ c.vmax ∧ c.vmax ≤ 20000) && decide (c.vmaxRev ≤ c.vmax) && decide (50 ≤ c.accel ∧ c.accel ≤ 5000)
    && decide (50 ≤ c.decel ∧ c.decel ≤ 5000) && decide (100 ≤ c.jerk ∧ c.jerk ≤ 20000) && decide (c.decel ≤ c.emerg ∧ c.emerg ≤ 10000)
    && decide (c.dwell ≤ 10000) && decide (c.front ≤ 30000 ∧ c.rear ≤ 30000))

/-- R235: the prefix table. -/
def zoneRules (x : Dev) : List Check :=
  let recs := records 8 (x.oct 0x2C2002)
  let pre (r : List Byte) : Nat × Nat := (bitsOf (leNat r) 63 16, bitsOf (leNat r) 15 11)
  [([0x2C2002], recs.all (fun r => decide ((pre r).1 % 2 ^ (48 - 2 * (pre r).2) = 0)) && decide (recs.map pre).Nodup
    && decide (trieNodes recs ≤ 4096))]

/-- True where the record of a table is changed by the change set, but for some of its bytes. -/
def Dev.recordChanges (d x : Dev) (k : Key) (size id : Nat) (skip : List Nat) : Bool :=
  let cut (b : List Byte) : List Byte := ((b.drop (size * id)).take size).mapIdx (fun i v => if skip.contains i then 0 else v)
  decide (cut (d.oct k) ≠ cut (x.oct k))

/-- R255: what held paths name stays. -/
def heldRules (d x : Dev) : List Check :=
  let held := d.resv.holds
  let cars := held.filter (fun h => decide (h.path < 128))
  if cars = [] then []
  else
    let arcs := (cars.flatMap (·.arcs)).eraseDups
    let gone (k : Key) (size id : Nat) : Bool := decide ((x.oct k).length / size ≤ id) && decide (id < (d.oct k).length / size)
    let segs (l : List Nat) : List Nat := l.flatMap (fun a => match d.graph.arc a with
      | some r => (List.range r.count).map (fun i => r.first + i)
      | none => [])
    let allArcs := (held.flatMap (·.arcs)).eraseDups
    [([0x2C1001], (cars.flatMap (·.nodes)).eraseDups.all (fun n => !d.recordChanges x 0x2C1001 16 n [])
        && (held.flatMap (·.nodes)).eraseDups.all (fun n => !gone 0x2C1001 16 n))
    , ([0x2C1002], arcs.all (fun a => !d.recordChanges x 0x2C1002 24 a [14, 15]) && allArcs.all (fun a => !gone 0x2C1002 24 a))
    , ([0x2C1003], (segs arcs).all (fun s => !d.recordChanges x 0x2C1003 8 s []) && (segs allArcs).all (fun s => !gone 0x2C1003 8 s))
    , ([0x2C1004], (held.map (·.group)).eraseDups.all (fun i => !gone 0x2C1004 4 i))]

/-- The directed broadcast addresses of the interfaces 3A40:01, as four bytes (R324, R378). -/
def broadcasts (x : Dev) : List (List Byte) :=
  ((records 24 (x.oct 0x3A4001)).filter (fun r => decide (1 ≤ fieldN r 2 1 ∧ fieldN r 2 1 ≤ 30))).map (fun r =>
    let ip := leNat ((r.drop 4).take 4).reverse
    let host := 2 ^ (32 - fieldN r 2 1)
    (leBytes 4 (ip / host * host + (host - 1))).reverse)

/-- 3820:02 is a broadcast or multicast address (R324). -/
def floodAddressOk (x : Dev) : Bool :=
  let b := x.oct 0x382002
  let v4 := b.drop 12
  decide (fieldN b 0 1 = 0xFF)
    || (decide (b.take 12 = zeros 10 ++ [0xFF, 0xFF]) && (decide (v4 = [0xFF, 0xFF, 0xFF, 0xFF])
      || decide (224 ≤ fieldN v4 0 1 ∧ fieldN v4 0 1 < 240) || (broadcasts x).contains v4))

/-- R324: Whiteout. -/
def stopRules (x : Dev) : List Check :=
  let v := x.floodVlans
  [([0x382004], decide (v ≠ []) && decide v.Nodup)
  , ([0x381009, 0x381008], decide (x.nat 0x381008 = 0) || decide (x.nat 0x381009 < x.nat 0x381008 * 1000))
  , ([0x382002, 0x3A4001], floodAddressOk x)]

/-- R356: the axes. -/
def axisRules (x : Dev) : List Check :=
  (List.range 8).flatMap (fun n =>
    let k (sub : Nat) : Key := axSet n sub
    let v (sub : Nat) : Nat := x.nat (k sub)
    [([k 2, k 5], decide (v 5 * 10 * v 2 ≤ 1000000000)), ([k 9, k 0x0A], decide (x.num (k 9) < x.num (k 0x0A)))
    , ([k 5, k 0x12, k 0x15, k 0x16], decide (v 0x12 ≤ v 5 ∧ v 0x15 ≤ v 5 ∧ v 0x16 ≤ v 0x15))
    , ([k 7, k 8, k 0x14, k 0x15, k 0x17], decide (v 0x14 = 0) || decide (stopDist (v 7) (v 8) (v 0x15) 0 < (v 0x17 : Rat)))])

/-- R377, R403: the VLAN table and a staged batch, which runs on a copy of the configured entries. -/
def switchRules (d x : Dev) : List Check :=
  let batch := match tabGet d.cs.staged 0x3A8101 with
    | some (.oct b) => (x.ownSessions.configured.batchRun true 0 (records 56 b)).2.2.isNone
    | _ => true
  [([0x3A3001], decide (x.vlans.map (·.1)).Nodup && x.vlans.all (fun r => decide (r.2.2.1 &&& r.2.1 = r.2.2.1)))
  , ([0x3A8101], batch)]

/-- R351, R417, R420: queues and the telegram port. -/
def queueRules (x : Dev) : List Check :=
  let handler (q h : Nat) : Bool := decide (16 ≤ q) && decide (x.nat (qKey q 3) = h)
  let firn := (((List.range 256).filter (fun q => decide (16 ≤ q) && x.flag (qKey q 1))).map (fun q => 4 * (x.nat (qKey q 2) - 128))).sum
  let keys := (List.range 240).flatMap (fun i => [qKey (16 + i) 1, qKey (16 + i) 2])
  let port := x.nat 0x342001
  [([0x342001], decide (port ≠ x.nat 0x203001 ∧ port ≠ 30513 ∧ port ≠ 30514))
  , ([0x342003, qKey (x.nat 0x342003) 3], handler (x.nat 0x342003) 2), ([0x3A4002, qKey (x.nat 0x3A4002) 3], handler (x.nat 0x3A4002) 3)
  , (keys ++ [0x3F1001], decide (firn ≤ x.nat 0x3F1001 * 1048576))]

/-- R426: every affinity mask that is not 0 names an active core; the core that COOL parks is left to class 5. -/
def coreRules (d x : Dev) : List Check :=
  [([0x400301], (records 2 (x.oct 0x400301)).all (fun r =>
    decide (fieldN r 1 1 = 0) || d.coresInService.any (fun c => (fieldN r 1 1).testBit c)))]

/-- R429: a target is a live Open command entry of 2000–5FFF whose type has the value's length. -/
def actionRules (x : Dev) : List Check :=
  (List.range 256).map (fun a =>
    let k : Key := (0x4100 + a) * 256 + 5
    let t := x.nat k
    ([k], decide (t = 0) || (inTwinRange (t / 65536) && match rowOf (t / 65536) (t / 256 % 256) with
      | some r => r.cmd && r.cls == .opn && r.dir != .ro && tySize r.ty == some (t % 256)
      | none => false)))

/-- R440: capture settings, and those that stay while a capture runs or a record is held. -/
def captureRules (d x : Dev) : List Check :=
  let edge := x.nat 0x420103
  let src := x.nat 0x420101
  let setKeys : List Key := (List.range 8).map (fun i => 0x420001 + i) ++ (List.range 5).map (fun i => 0x420101 + i)
    ++ (List.range 16).map (fun i => 0x420201 + i)
  let busy := decide (1 ≤ d.capState ∧ d.capState ≤ 3)
  [([0x420001, 0x420002], x.flag 0x420002 || decide (x.nat 0x420001 ≠ 0))
  , ([0x420001, 0x420002, 0x420003, 0x420004, 0x420005], decide (x.nat 0x420005 + 1 ≤ x.segFrames))
  , ([0x420001, 0x420101], !decide (1 ≤ src ∧ src ≤ 4) || x.bit 0x420001 (src - 1))
  , ([0x420103, 0x420104, 0x420105], decide (edge = 1) || decide (x.nat 0x420105 ≤ x.nat 0x420104))
  , ([0x420103, 0x420104, 0x420105], decide (edge = 0) || decide (x.nat 0x420104 + x.nat 0x420105 ≤ 4095))]
    ++ setKeys.map (fun k => ([k], !(busy && d.changes k)))
    ++ [0x420001, 0x420002, 0x420003, 0x420004].map (fun k => ([k], !(d.changes k && !d.cap.records.isEmpty)))

/-- Class 3: every cross-entry rule. -/
def Dev.class3 (d x : Dev) : List Check :=
  ptpRules x ++ loopRules x ++ benchRules x ++ msmRules d x ++ slotRules d x ++ gridRules d ++ graphRules d x
    ++ (List.range 16).map (fun k => ([0x340001 + k], classOk (x.cls k))) ++ zoneRules x ++ heldRules d x ++ stopRules x ++ axisRules x
    ++ switchRules d x ++ queueRules x ++ coreRules d x ++ actionRules x ++ captureRules d x
    ++ [([0x440003, 0x440004], decide (3 * x.nat 0x440003 ≤ x.nat 0x440004))]

/-! Class 4. -/

/-- References of the graph (R227, R262). -/
def graphRefs (d x : Dev) : List Check :=
  if !d.stagesGraph then []
  else
    let g := x.graph
    let arcs := g.allArcs
    let segs := (arcs.filter (fun a => g.segsIn a.2)).flatMap (fun a => (List.range a.2.count).map (fun i => a.2.first + i))
    arcs.flatMap (fun a =>
      [([0x2C1002, 0x2C1001], decide (a.2.from_ < g.nNodes ∧ a.2.to_ < g.nNodes ∧ a.2.from_ ≠ a.2.to_))
      , ([0x2C1002], decide (a.2.rev = 0xFFFF) || (match g.arc a.2.rev with
          | some b => decide (b.from_ = a.2.to_ ∧ b.to_ = a.2.from_ ∧ b.rev = a.1)
          | none => false))
      , ([0x2C1002, 0x2C1003], g.segsIn a.2)
      , ([0x2C1002], (List.range 16).all (fun k => !a.2.mask.testBit k || (x.cls k).defined))])
      ++ [([0x2C1003, 0x2C1002], decide segs.Nodup)
        , ([0x2C1001, 0x2C1004], (List.range g.nNodes).all (fun i => ((g.node i).map (fun n => decide (n.group < g.nGroups))).getD true))
        , ([0x2C1003, 0x2C1004], (List.range g.nSegs).all (fun i => ((g.seg i).map (fun s => decide (s.2 < g.nGroups))).getD true))]

/-- Class 4: every reference names an object that exists (R181, R227, R235, R262, R351, R377, R378, R420). -/
def Dev.class4 (d x : Dev) : List Check :=
  let on := x.slotsOn
  let known (v : Nat) : Bool := decide (v = 0) || (x.vlan v).isSome
  let nobodys (q : Nat) : Bool := x.queueExists q && on.all (fun n => decide (x.nat (slotKey n 0 3) ≠ q))
  let intakes := on.flatMap (fun n => [slotKey n 0 1, slotKey n 0 3])
  let zones := (x.oct 0x2C2001).length / 8
  on.flatMap (fun n =>
    let q := x.nat (slotKey n 0 3)
    let c := x.slotClass n
    [([slotKey n 0 3, slotKey n 0 1, qKey q 1], x.queueExists q), ([slotKey n 0x10 1, slotKey n 0 1, 0x340001 + c], (x.cls c).defined)])
    ++ graphRefs d x
    ++ [([0x2C2002, 0x2C2001], (records 8 (x.oct 0x2C2002)).all (fun r => decide (bitsOf (leNat r) 10 0 < zones)))
      , ([0x342003, qKey (x.nat 0x342003) 1] ++ intakes, nobodys (x.nat 0x342003))
      , ([0x3A4002, qKey (x.nat 0x3A4002) 1] ++ intakes, nobodys (x.nat 0x3A4002))
      , ([0x3A4001, 0x3A3001], (records 24 (x.oct 0x3A4001)).all (fun r => (x.vlan (bitsOf (leNat r) 11 0)).isSome))
      , ([0x382004, 0x3A3001], x.floodVlans.all known)]
    ++ [0x22200B, 0x22210B, 0x24C008].map (fun k => ([k, 0x3A3001], known (x.nat k)))
    ++ (List.range 8).map (fun p => ([portSet p 4, 0x3A3001], (x.vlan (x.nat (portSet p 4))).isSome))

/-! Class 5. -/

/-- The epoch capacity of an envelope (R21). -/
def envelopeEpochs (e : Nat) : Nat := if e = 0 then 2560 else if e = 1 then 1920 else 1280

/-- Class 5: the load fits the envelope (R23, R426). The mask of a task slot is the one in force, override or firmware's. -/
def Dev.class5 (d x : Dev) : List Check :=
  let e := x.nat 0x204001
  let load := (x.slotsOn.map x.reportHz).sum
  let keys := (List.range 128).flatMap (fun n => [slotKey n 0 1, slotKey n 0 4])
  let only6 := decide (d.coresInService.length = 7) && (List.range 256).any (fun j => decide (x.maskOf j = 0x40))
  [(0x204001 :: keys, decide (load ≤ envelopeEpochs e)), ([0x204001, 0x400301], decide (e ≠ 2) || !only6)]
    ++ [4, 5, 6, 7].map (fun p => ([0x204001, portSet p 2], decide (e ≠ 2) || decide (2 ≤ x.nat (portSet p 2))))

/-- The first failure of classes 1 to 5: the class and the entry. A class that needs well-formed values is not reached when class 1
fails. -/
def Dev.closure (d : Dev) : Option (Nat × Key) :=
  let x := d.overlay
  match firstBad Check.owner d.class1 with
  | some k => some (1, k)
  | none => match firstBad Check.owner d.class2 with
    | some k => some (2, k)
    | none => match firstBad Check.owner (d.class3 x) with
      | some k => some (3, k)
      | none => match firstBad Check.owner (d.class4 x) with
        | some k => some (4, k)
        | none => (firstBad d.loader (d.class5 x)).map (fun k => (5, k))

end Sys2Proof.Machine
end

