-- ==== Sys2Proof/Machine/Ptp.lean ====
section
/-!
DEFINITION. PTP on ports 0 and 1 (R101 to R107). Message exchange, data set comparison and port states are those of IEEE
1588-2019, of which the spec names the parts the device uses.
-/
namespace Sys2Proof.Machine

/-- A setting of PTP port `p` (R102). -/
def ptpSet (p : Fin 2) (sub : Nat) : Key := (0x2220 + p.val) * 256 + sub

/-- The portState of a port: 2 FAULTY, 3 DISABLED, 4 LISTENING, 6 MASTER, 7 PASSIVE, 8 UNCALIBRATED, 9 SLAVE (R105). -/
def Dev.portState (d : Dev) (p : Fin 2) : Nat := d.nat (0x222202 + p.val)

/-- A port's PTP instance is on: a profile is set and fleet time is not in state 0 (R84, R102). -/
def Dev.ptpOn (d : Dev) (p : Fin 2) : Bool := decide (d.nat (ptpSet p 1) ≠ 0) && decide (d.timeState ≠ 0) && decide (d.portState p ≠ 2)

/-- True where a port takes part in PTP: a profile is set, fleet time is not in state 0, and an SGMII port runs at 1,000
Mb/s (R84, R102, R375). -/
def Dev.ptpRuns (d : Dev) (p : Fin 2) : Bool :=
  d.ptpOn p && d.up 7 && (tabGetD d.sw.ports p.val port0).up && !d.quiet

/-- How a message leaves: the port, its VLAN, its transport, its domain, and its logMessageInterval as a byte (R102), which IEEE 1588-2019 takes from
a log interval of the port, or sets to 0x7F. -/
def Dev.ptpOut (d : Dev) (p : Fin 2) (sub : Option Nat) : List Nat :=
  [p.val, d.nat (ptpSet p 0x0B), d.nat (ptpSet p 0x0C), d.nat (ptpSet p 3), (sub.map (fun n => ofSigned 8 (d.num (ptpSet p n)))).getD 0x7F]

/-- An interval given as a power of two of seconds (R102), in ticks. -/
def logTicks (n : Int) : Nat := if 0 ≤ n then 2 ^ n.toNat * secT else secT / 2 ^ (-n).toNat

/-- Ingress latency of a port's mode in 2^-16 ns (R106). -/
def ingressLatency (mode : Nat) : Int :=
  if mode ≤ 1 then 3355443 else if mode = 2 then 6081740 else if mode = 3 then 13841203 else 14680064

/-- Egress latency of a port's mode in 2^-16 ns (R106). -/
def egressLatency (mode : Nat) : Int :=
  if mode ≤ 1 then 2936012 else if mode = 2 then 5033165 else if mode = 3 then 11796480 else 12373197

/-- The receive timestamp of a frame that arrives now (R106). -/
def Dev.rxStamp (d : Dev) (p : Fin 2) : Int := d.fleet - ingressLatency (d.nat ((0x3A10 + p.val) * 256 + 2))

/-- The transmit timestamp of a frame that leaves now (R106). -/
def Dev.txStamp (d : Dev) (p : Fin 2) : Int := d.fleet + egressLatency (d.nat ((0x3A10 + p.val) * 256 + 2))

/-- The parent's port identity as a number (R105). -/
def Dev.parent (d : Dev) : Nat := beNat (d.oct 0x222204)

/-- True where a message comes from the parent in the port's domain, on a port that is or becomes slave. -/
def Dev.fromParent (d : Dev) (p : Fin 2) (m : PtpMsg) : Bool :=
  d.ptpRuns p && decide (m.domain = d.nat (ptpSet p 3)) && decide (m.src = d.parent)
    && (decide (d.portState p = 8) || decide (d.portState p = 9))

/-- A Sync is received and timestamped (R101, R106). -/
def ptpSyncReceive (p : Fin 2) (m : PtpMsg) (d : Dev) : Dev :=
  d.when (d.fromParent p m) (fun d => d.setPtp p { d.ptp p with
    syncSeq := m.seq, syncT2 := d.rxStamp p, syncCorr := m.corr, syncOpen := true, syncAt := d.clk.now
    syncLog := if m.logInt = 0x7F then d.num (ptpSet p 7) else m.logInt })

/-- A Follow_Up completes the offset of its Sync: offset from master is t2 − t1 − path delay − corrections, corrected by
the port's asymmetry (R88, R101). The servo takes it at the SERVO_UPDATE that follows. -/
def ptpFollowUpReceive (p : Fin 2) (m : PtpMsg) (d : Dev) : Dev :=
  let x := d.ptp p
  d.when (d.fromParent p m && x.syncOpen && decide (m.seq = x.syncSeq)) (fun d =>
    let asym := d.num (ptpSet p 0x0A) * 65536 / 1000
    let delay := if d.nat (ptpSet p 1) = 2 then x.linkDelay else d.num 0x222208
    let off := x.syncT2 - m.origin - delay - x.syncCorr - m.corr - asym
    let d := d.setPtp p { x with syncOpen := false }
    let d := d.setN 0x222207 off
    let d := if d.portState p = 8 then d.setPortState p.val 9 else d
    d.offerTime (2 + p.val) off none)

/-- The data set comparison of IEEE 1588-2019 on what an Announce carries: true where `a` is better than `b`. -/
def betterAnnounce (a b : Announce) : Bool :=
  let ka := if a.gm = b.gm then [a.steps, a.src] else [a.priority1, a.clkClass, a.accuracy, a.variance, a.priority2, a.gm]
  let kb := if a.gm = b.gm then [b.steps, b.src] else [b.priority1, b.clkClass, b.accuracy, b.variance, b.priority2, b.gm]
  let rec lt : List Nat → List Nat → Bool
    | x :: xs, y :: ys => if x < y then true else if y < x then false else lt xs ys
    | _, _ => false
  lt ka kb

/-- The quality the device announces of its own clock: clockClass, clockAccuracy and timeSource (R104). -/
def Dev.ownQuality (d : Dev) : Nat × Nat × Nat :=
  match d.timeState with
  | 3 => if d.nat 0x220004 = 1 then (6, 0x21, 0x20) else (248, 0xFE, 0xA0)
  | 4 => (7, 0x22, 0x20)
  | 5 => (187, 0xFE, 0xA0)
  | _ => (248, 0xFE, 0xA0)

/-- The device's own data set for the BMCA, through port `p`. IEEE 1588-2019 has the variance; the spec gives none. -/
def Dev.ownAnnounce (d : Dev) (p : Fin 2) : Announce :=
  { src := beNat Config.clockIdentity * 65536 + p.val + 1, seq := 0, domain := d.nat (ptpSet p 3)
    priority1 := d.nat (ptpSet p 4), clkClass := d.ownQuality.1, accuracy := d.ownQuality.2.1
    variance := Config.clockVariance, priority2 := d.nat (ptpSet p 5), gm := beNat Config.clockIdentity
    steps := 0, utc := d.num 0x220009, utcValid := d.servo.utcSeen, timeSource := d.ownQuality.2.2 }

/-- Set parent, grandmaster and stepsRemoved; a change of grandmaster raises event source 41 (R105). -/
def Dev.setMaster (d : Dev) (parent gm steps : Nat) : Dev :=
  let old := d.oct 0x222205
  let new := beBytes 8 gm
  let d := ((d.setO 0x222204 (beBytes 10 parent)).setO 0x222205 new).setN 0x222206 (steps : Nat)
  d.raiseIf (decide (old ≠ new)) 41 0

/-- The state decision of the BMCA for both ports, under the roles of 2220:02 and 2221:02 (R101, R102): a port whose best
Announce beats the device's own clock and the other port's is slave, one that is beaten by neither is master, and a port
that hears a better clock but is not the slave port is passive. A port in LISTENING that has heard nothing stays there. -/
def Dev.bmca (d : Dev) : Dev :=
  let heard (p : Fin 2) : Option Announce :=
    if d.nat (ptpSet p 2) = 1 then none
    else match (d.ptp p).best with
      | some a => if d.nat (ptpSet p 2) = 2 || betterAnnounce a (d.ownAnnounce p) then some a else none
      | none => none
  let slave : Option (Fin 2) := match heard 0, heard 1 with
    | some a, some b => if betterAnnounce b a then some 1 else some 0
    | some _, none => some 0
    | none, some _ => some 1
    | none, none => none
  let stateOf (p : Fin 2) : Nat :=
    if slave = some p then (if d.portState p = 9 ∧ d.parent = ((heard p).map (·.src)).getD 0 then 9 else 8)
    else if (heard p).isSome then 7
    else if d.nat (ptpSet p 2) = 2 ∨ (d.portState p = 4 ∧ (d.ptp p).best.isNone) then 4
    else 6
  let one (p : Fin 2) (d' : Dev) : Dev := if d.ptpOn p then d'.setPortState p.val (stateOf p) else d'
  let d' := one 1 (one 0 d)
  match slave with
  | some p => match heard p with
    | some a => d'.setMaster a.src a.gm (a.steps + 1)
    | none => d'
  | none => d'.setMaster (beNat Config.clockIdentity * 65536) (beNat Config.clockIdentity) 0

/-- An Announce is received and fed to the BMCA (R101, R105). -/
def ptpAnnounceReceive (p : Fin 2) (a : Announce) (d : Dev) : Dev :=
  d.when (d.ptpRuns p && decide (a.domain = d.nat (ptpSet p 3))) (fun d =>
    let keep := match (d.ptp p).best with
      | some b => decide (a.src = b.src) || betterAnnounce a b
      | none => true
    let d := if keep then (d.setPtp p { d.ptp p with best := some a }).mark (.heard p.val) d.clk.now else d
    let d := d.bmca
    if d.nat 0x220004 = 2 + p.val ∧ d.parent = a.src ∧ a.utcValid then d.setUtc a.utc else d)

/-- A Delay_Req on a master port is answered with Delay_Resp (R101). -/
def ptpDelayReqReceive (p : Fin 2) (m : PtpMsg) (d : Dev) : Dev :=
  d.when (d.ptpRuns p && decide (d.portState p = 6) && decide (d.nat (ptpSet p 1) = 1)
      && decide (m.domain = d.nat (ptpSet p 3))) (fun d =>
    d.emit .ptpDelayResp (d.ptpOut p (some 8)) [m.seq, d.rxStamp p, m.corr, m.src])

/-- A Delay_Resp updates the mean path delay: ((t2 − t1) + (t4 − t3)) / 2 (R101, R105). -/
def ptpDelayRespReceive (p : Fin 2) (m : PtpMsg) (d : Dev) : Dev :=
  let x := d.ptp p
  d.when (d.fromParent p m && x.delayOpen && decide (m.seq = x.txDelay)) (fun d =>
    let ms := d.num 0x222207 + d.num 0x222208
    let sm := m.origin - x.t3 - m.corr
    (d.setPtp p { x with delayOpen := false }).setN 0x222208 ((ms + sm) / 2))

/-- A Pdelay_Req is answered with Pdelay_Resp and Pdelay_Resp_Follow_Up (R101, profile 2). -/
def ptpPdelayReqReceive (p : Fin 2) (m : PtpMsg) (d : Dev) : Dev :=
  d.when (d.ptpRuns p && decide (d.nat (ptpSet p 1) = 2)) (fun d =>
    (d.emit .ptpPdelayResp (d.ptpOut p none) [m.seq, d.rxStamp p, m.src]).emit .ptpPdelayRespFollowUp (d.ptpOut p none)
      [m.seq, d.txStamp p, m.src])

/-- A Pdelay_Resp gives t2 and t4, its follow-up t3 and with it the link delay ((t4 − t1) − (t3 − t2)) / 2 (R101). -/
def ptpPdelayRespReceive (p : Fin 2) (followUp : Bool) (m : PtpMsg) (d : Dev) : Dev :=
  let x := d.ptp p
  d.when (d.ptpRuns p && x.pOpen && decide (m.seq = x.txDelay)) (fun d =>
    if followUp then
      let ld := ((x.pt4 - x.pt1) - (m.origin - x.pt2)) / 2
      (d.setPtp p { x with pOpen := false, linkDelay := ld }).setN 0x222208 ld
    else d.setPtp p { x with pt2 := m.origin, pt4 := d.rxStamp p })

/-- The sync interval 2220:07 of a master port expires: Sync and Follow_Up are sent (R101, R106). -/
def ptpSyncInterval (p : Fin 2) (d : Dev) : Dev :=
  d.when (d.ptpRuns p && decide (d.portState p = 6) && d.dueIn (.sync p.val) (logTicks (d.num (ptpSet p 7)))) (fun d =>
    let x := d.ptp p
    let n := (x.txSync + 1) % 65536
    let d := (d.setPtp p { x with txSync := n }).mark (.sync p.val) d.clk.now
    (d.emit .ptpSync (d.ptpOut p (some 7)) [n]).emit .ptpFollowUp (d.ptpOut p (some 7)) [n, d.txStamp p])

/-- The announce interval 2220:06 expires: the states are decided anew, and a master port sends an Announce with the device's quality, or with the
parent's data set, its time source and its UTC offset as a boundary clock passes them on while slave on the other port (R101, R104). -/
def ptpAnnounceInterval (p : Fin 2) (d : Dev) : Dev :=
  d.when (d.ptpRuns p && d.dueIn (.announce p.val) (logTicks (d.num (ptpSet p 6)))) (fun d =>
    let d := (d.mark (.announce p.val) d.clk.now).bmca
    d.when (decide (d.portState p = 6)) (fun d =>
    let o : Fin 2 := 1 - p
    let x := d.ptp p
    let n := (x.txAnn + 1) % 65536
    let own := d.ownAnnounce p
    let a := if d.portState o = 9 then ((d.ptp o).best.map (fun b => { b with steps := b.steps + 1 })).getD own else own
    (d.setPtp p { x with txAnn := n }).emit .ptpAnnounce (d.ptpOut p (some 6))
      [n, a.priority1, a.clkClass, a.accuracy, a.variance, a.priority2, a.gm, a.steps, a.timeSource, a.utc, if a.utcValid then 1 else 0]))

/-- The delay request interval 2220:08 expires: a Delay_Req of a slave port, or a Pdelay_Req with profile 2 (R101). -/
def ptpDelayReqInterval (p : Fin 2) (d : Dev) : Dev :=
  d.when (d.ptpRuns p && d.dueIn (.delay p.val) (logTicks (d.num (ptpSet p 8)))) (fun d =>
    let x := d.ptp p
    let n := (x.txDelay + 1) % 65536
    if d.nat (ptpSet p 1) = 2 then
      ((d.mark (.delay p.val) d.clk.now).setPtp p { x with txDelay := n, pt1 := d.txStamp p, pOpen := true }).emit .ptpPdelayReq (d.ptpOut p (some 8)) [n]
    else if d.portState p = 8 ∨ d.portState p = 9 then
      ((d.mark (.delay p.val) d.clk.now).setPtp p { x with txDelay := n, t3 := d.txStamp p, delayOpen := true }).emit .ptpDelayReq (d.ptpOut p none) [n]
    else d)

/-- No Announce within the receipt timeout, 2220:09 announce intervals (R89, R101, R102): the port forgets what it has heard and the BMCA decides anew; a port in LISTENING becomes
MASTER unless it is slave only. The port's source becomes invalid. -/
def announceReceiptTimeout (p : Fin 2) (d : Dev) : Dev :=
  d.when (d.ptpOn p && d.dueIn (.heard p.val) (d.nat (ptpSet p 9) * logTicks (d.num (ptpSet p 6)))) (fun d =>
    let d := d.setPtp p (d.ptp p).deaf
    let d := if d.portState p = 4 ∧ d.nat (ptpSet p 2) ≠ 2 then d.setPortState p.val 6 else d
    (d.bmca.breakRun (2 + p.val)).invalidate (2 + p.val))

def execPtpSyncReceive (dt : Nat) (port : Fin 2) (m : PtpMsg) (s : State) : Out := onDev s dt (ptpSyncReceive port m)
def execPtpFollowUpReceive (dt : Nat) (port : Fin 2) (m : PtpMsg) (s : State) : Out := onDev s dt (ptpFollowUpReceive port m)
def execPtpAnnounceReceive (dt : Nat) (port : Fin 2) (a : Announce) (s : State) : Out := onDev s dt (ptpAnnounceReceive port a)
def execPtpDelayReqReceive (dt : Nat) (port : Fin 2) (m : PtpMsg) (s : State) : Out := onDev s dt (ptpDelayReqReceive port m)
def execPtpDelayRespReceive (dt : Nat) (port : Fin 2) (m : PtpMsg) (s : State) : Out := onDev s dt (ptpDelayRespReceive port m)
def execPtpPdelayReqReceive (dt : Nat) (port : Fin 2) (m : PtpMsg) (s : State) : Out := onDev s dt (ptpPdelayReqReceive port m)
def execPtpPdelayRespReceive (dt : Nat) (port : Fin 2) (followUp : Bool) (m : PtpMsg) (s : State) : Out :=
  onDev s dt (ptpPdelayRespReceive port followUp m)
def execPtpSyncInterval (dt : Nat) (port : Fin 2) (s : State) : Out := onDev s dt (ptpSyncInterval port)
def execPtpAnnounceInterval (dt : Nat) (port : Fin 2) (s : State) : Out := onDev s dt (ptpAnnounceInterval port)
def execPtpDelayReqInterval (dt : Nat) (port : Fin 2) (s : State) : Out := onDev s dt (ptpDelayReqInterval port)
def execAnnounceReceiptTimeout (dt : Nat) (port : Fin 2) (s : State) : Out := onDev s dt (announceReceiptTimeout port)

end Sys2Proof.Machine
end

