-- ==== Sys2Proof/Machine/Commit.lean ====
section
/-!
DEFINITION. What a commit does at its instant (R35, R46, R47): the staged settings take effect as a whole, with the effects that the
chapters give to a change, and then the staged commands act.
-/
namespace Sys2Proof.Machine

/-- Fold an effect over the units below a number. -/
def Dev.forEach (d : Dev) (n : Nat) (f : Nat → Dev → Dev) : Dev := (List.range n).foldl (fun (d : Dev) i => f i d) d

/-- True where an entry differs from what it was. -/
def Dev.differs (d0 d : Dev) (k : Key) : Bool := decide (d0.get k ≠ d.get k)

/-- The vehicle of a slot is another or new. The device's streams and grant numbers go on within the term (R329, R336). -/
def Dev.newCar (d : Dev) (n : Nat) : Dev :=
  let c := d.car n
  d.setCar n { vehicle0 with seqFix := c.seqFix, seqGrant := c.seqGrant, seqBlock := c.seqBlock, seqPerm := c.seqPerm
                             seqTask := c.seqTask, nextGrant := c.nextGrant }

/-- Slots enabled, disabled or given another vehicle ID (R184). -/
def commitSlot (d0 : Dev) (n : Nat) (d : Dev) : Dev :=
  let was := d0.slotOn n
  let now := d.slotOn n
  if !was && now then (let d := d.newCar n; if d.up 5 then d.enableSlot n else d)
  else if was && !now then d.disableSlot n
  else if now && d0.differs d (slotKey n 0 2) then
    (let d := d.newCar n; if d.up 5 then d.resetSlot n else d.clearSlot n)
  else d

/-- The vehicle slots: their states, phases (R182), the device's own sessions (R393). -/
def commitSlots (d0 d : Dev) : Dev :=
  let moved := (List.range 128).any (fun n => [1, 2, 3, 4, 5].any (fun s => d0.differs d (slotKey n 0 s)))
  let d := if moved then d.forEach 128 (commitSlot d0) else d
  let d := if moved || d0.differs d 0x342001 || d0.differs d 0x342003 then d.ownSessions else d
  if moved || d0.differs d 0x204001 then d.txPhases else d

/-- The envelope (R22 to R24, R27). -/
def commitEnvelope (d0 d : Dev) : Dev :=
  if d0.differs d 0x204001 then
    (d.showEnvelope.raise 9 0).moveReady.giveGroups
  else d

/-- Task placement and queues (R419, R425). -/
def commitSched (d0 d : Dev) : Dev :=
  let d := if d0.differs d 0x400301 then d.replaceJobs (d0.oct 0x400301) else d
  let d := d.forEach 256 (fun q d => if 16 ≤ q ∧ d0.flag (qKey q 1) ∧ d.flag (qKey q 1) = false then d.flush q else d)
  if d0.differs d 0x3F1001 || d0.differs d 0x3F1002 then d.firnStatus else d

/-- One switch port (R25, R407): a port disabled or given another mode finishes its frame and goes down; one enabled waits for its
link. Frames that wait and have not begun are discarded and counted as at a link that goes down, which R25 leaves open (log 64). -/
def commitPort (d0 : Dev) (p : Nat) (d : Dev) : Dev :=
  let on := d.flag (portSet p 1)
  let mode := d.nat (portSet p 2)
  if d0.flag (portSet p 1) && !on then d.portDown p 0
  else if on && !d0.flag (portSet p 1) then (d.setPort p { d.port p with downAt := some d.clk.now }).setN (portKey p 1) 1
  else if on && d0.differs d (portSet p 2) && (d.port p).up then (d.portDown p 0).setN (portKey p 1) 1
  else if on && d0.differs d (portSet p 3) && (d.port p).up then
    d.setN (portKey p 3) (pauseBits mode (d.nat (portSet p 3)) (d.port p).ability : Nat)
  else d

/-- Receiver settings that act at once: antenna feeds and notches (R126). -/
def commitReceiver (d0 d : Dev) : Dev :=
  if !d.up 4 then d
  else
    let d := d.forEach 2 (fun a d => if d0.differs d (feedKey 1 a) then d.feedEnable a else d)
    d.forEach 6 (fun p d => d.forEach 4 (fun n d =>
      if d0.differs d (bandSet p (1 + n)) || d0.differs d (bandSet p (5 + n)) then d.notchMode p n else d))

/-- The Benchmark and the grid (R157, R171, R215, R219, R221). While no Benchmark is committed, positions stay in the grid of the last one, and the
next one translates them from there (log 76). -/
def commitGrid (d0 d : Dev) : Dev :=
  let station := d0.stationSet
  let d : Dev := { d with rx := { d.rx with station := station } }
  let d := if d0.differs d 0x249001 || d0.differs d 0x2C0001 then
      d.showGrid.setN 0x2C0102 ((d.nat 0x2C0102 + 1) % 2 ^ 32 : Nat)
    else d
  if !(benchKeys.any (fun k => d0.differs d k) || d0.differs d 0x2C0001) then d
  else
    let old := if d0.benchmark then some (d0.bench, d0.basis) else d.eng_.oldGrid
    let d : Dev := { d with eng_ := { d.eng_ with oldGrid := if d.benchmark then none else old } }
    (if d.benchmark then (match old with
      | some g => d.regrid g.1 g.2
      | none => d) else d).gridChanged

/-- Graph status (R232) and zone status (R234, R239). -/
def commitGraph (d0 d : Dev) : Dev :=
  let d := if [0x2C1001, 0x2C1002, 0x2C1003, 0x2C1004].any (fun k => d0.differs d k) then
      let gen := (d.nat 0x2C1101 + 1) % 2 ^ 32
      (d.showGraph.setN 0x2C1101 (gen : Nat)).raise 256 (gen % 65536)
    else d
  if d0.differs d 0x2C2001 || d0.differs d 0x2C2002 then
    let gen := (d.nat 0x2C2101 + 1) % 2 ^ 32
    (d.showZones.setN 0x2C2101 (gen : Nat)).raise 257 (gen % 65536)
  else d

/-- Time settings: the source priority (R89), PTP profiles (R101), and comparators and timed actions switched off (R120, R431). -/
def commitTime (d0 d : Dev) : Dev :=
  let d := if d0.differs d 0x221001 && d.up 3 then d.chooseSource else d
  let d := d.forEach 2 (fun p d =>
    let k : Key := (0x2220 + p) * 256 + 1
    if !d0.differs d k ∧ !d0.differs d (k + 2) then d
    else if d.nat k = 0 then d.setPortState p 3
    else if d.timeState ≠ 0 then
      let q : Fin 2 := if p = 0 then 0 else 1
      (d.setPtp q (d.ptp q).deaf).setPortState p 4
    else d)
  let d := if [2, 4, 5].any (fun s => d0.differs d (0x222000 + s) || d0.differs d (0x222100 + s)) then d.bmca else d
  let d := d.forEach 15 (fun n d => if d0.differs d (cmpKey n 1) ∧ d.nat (cmpKey n 1) = 0 then d.setBit (cmpKey n 7) 0 false else d)
  d.forEach 256 (fun a d => if d0.differs d (actKey a 1) ∧ d.nat (actKey a 1) = 0 then d.setBit (actKey a 7) 0 false else d)

/-- A PTP profile on a port at another speed (R375), the supervisor watchdog (R318), seal monitoring (R510) and capture status (R450). -/
def commitRest (d0 d : Dev) : Dev :=
  let d := d.forEach 2 (fun p d => if d0.differs d ((0x2220 + p) * 256 + 1) then d.ptpSpeed p else d)
  let d : Dev := if d0.differs d 0x38100B then { d with wo := { d.wo with wdRun := decide (d.nat 0x38100B ≠ 0), wdAt := d.clk.now } } else d
  let d : Dev := if d0.differs d 0x381008 then { d with wo := { d.wo with testAt0 := none, testAt1 := none } } else d
  let d : Dev := if d0.differs d 0x461007 then { d with wit := { d.wit with sealOff := !d.flag 0x461007 } } else d
  if [1, 2, 3, 4].any (fun s => d0.differs d (0x420000 + s)) then d.capStatus else d

/-- The staged settings take effect as a whole (R46). -/
def Dev.applySettings (d : Dev) : Dev :=
  let d0 := d
  let due := d.settings.foldl (fun t e => tabPut t e.1 e.2) d.nvDue
  let d := d0.settings.foldl (fun (d : Dev) e => d.put e.1 e.2) d
  let d : Dev := { d with nvDue := due }
  let d := commitEnvelope d0 d
  let d := (commitSlots d0 d).forEach 8 (commitPort d0)
  let d := commitTime d0 (commitGraph d0 (commitGrid d0 (commitReceiver d0 (commitSched d0 d))))
  commitRest d0 d

/-- The records of a change set as they go to the peer (R487): settings, but for each unit's own, and the records of a table batch
that set PERSIST entries. -/
def Dev.peerRecords (d : Dev) : List (Key × List Byte) :=
  (d.cs.staged.filterMap (fun e =>
    if ownSetting e.1 then none
    else if e.1 = 0x3A8101 then
      let r := ((records 56 e.2.bytes).filter (fun r => persists (fieldN r 0 1) (fieldN r 32 24))).flatten
      if r = [] then none else some (e.1, r)
    else if isCommand e.1 then none
    else (rowOf (e.1 / 256) (e.1 % 256)).map (fun r => (e.1, encodeVal r.ty e.2))))

/-- On the ACTIVE unit the settings generation advances and the change set goes to the peer (R487). What is not acknowledged yet
goes with it, ahead of it. -/
def Dev.passOn (d : Dev) (recs : List (Key × List Byte)) : Dev :=
  if d.role = 2 then
    let gen : Nat := (d.nat 0x44020F + 1) % 2 ^ 32
    let d : Dev := { d with nv := tabPut d.nv 0x44020F (.num (gen : Int)) }
    let d := d.setN 0x44020F (gen : Nat)
    (d.setPair (fun p => { p with unacked := some (gen, ((p.unacked.map (·.2)).getD []) ++ settingsBytes recs) })).sendSettings
  else d

/-- The staged commands act in ascending index order, each for itself (R35). -/
def Dev.applyCommands (d : Dev) (m : Samples) (l : Tab DVal) : Dev := l.foldl (fun (d : Dev) e => (d.runCommand m true e.1 e.2).1) d

/-- The commit instant (R46, R47): settings, event source 11, 2010:06 and :09, the set is closed, and then the commands. An
activation that waited goes on (R526). -/
def commitApply (m : Samples) (d : Dev) : Dev :=
  d.when (decide (d.nat 0x201003 = 3)) (fun d =>
    let d := d.ownFirst
    let at_ : Nat := match d.cs.instant with
      | some (false, t) => if d.noTime then 0 else t
      | _ => 0
    let cmds := d.cs.staged.filter (fun e => isCommand e.1)
    let recs := d.peerRecords
    let d := d.applySettings
    let d := ((d.inc32 0x201006).setN 0x201009 (at_ : Nat)).closeSet
    let d := (d.raise 11 0).passOn recs
    (d.applyCommands m cmds).settle.doDue)

def execCommitApply (dt : Nat) (m : Samples) (s : State) : Out := onFuse s dt (commitApply m)

end Sys2Proof.Machine
end

