-- ==== Sys2Proof/Machine/Ledger.lean ====
section
/-!
DEFINITION. The Ledger service: register writes in one or more parts (R59 to R61), check, commit and abort (R40 to R52), the settings
store (R49), subscriptions and notifications (R68 to R71), emergency messages (R72), the configuration of Ledger (R63), and CANopen FD
(R74, R75).
-/
namespace Sys2Proof.Machine

/-! Commit, check and abort. -/

/-- Fleet time in ns, or with the flag the crystal count that stands in for it (R50), rounded up. -/
def Dev.instantNow (d : Dev) (crystal : Bool) : Nat :=
  if crystal then (d.clk.now * 4 + 4) / 5 else ((d.fleet + 65535) / 65536).toNat

/-- 2 ms, the time that R45 and R48 give before a commit instant, in ns. -/
def commitLead : Nat := 2000000

/-- The commit instant is less than 2 ms away (R48). -/
def Dev.tooLate (d : Dev) : Bool :=
  match d.cs.instant with
  | some (c, t) => decide (t < d.instantNow c + commitLead)
  | none => false

/-- Write 2010:04 and 2010:05. -/
def Dev.result (d : Dev) (status offending : Nat) : Dev := (d.setN 0x201004 (status : Nat)).setN 0x201005 (offending : Nat)

/-- A commit, check or abort refused when it is executed (R52). -/
def Dev.refuseCommit (d : Dev) (status : Nat) : Dev × Nat := (d.result status 0, status)

/-- A commit or check (R38, R41, R52): refused, or accepted, which locks the change set. -/
def Dev.commitAsk (d : Dev) (q : Req) (asWrite : Bool) (mode instant : Nat) : Dev × Nat :=
  let st := d.nat 0x201003
  if st = 0 then d.refuseCommit 0x0F
  else if d.cs.owner ≠ some q.peer then d.refuseCommit 0x0D
  else if st ≠ 1 then d.refuseCommit 0x0E
  else
    let r : CommitReq := { peer := q.peer, reqId := q.reqId, mode := mode, instant := instant, asWrite := asWrite, at_ := d.fleetNs }
    let d := ({ d with cs := { d.cs with req := some r } }).csStatus 2
    (if asWrite then d else { d with led := { d.led with waiting := (q.peer, q.reqId) :: d.led.waiting } }, 0)

/-- A COMMIT, or a write of its mode to 2010:01 (R51, R52, R61). A COMMIT that is refused is answered at once, with no offending
entry and no instant; one that is accepted is answered when its check ends. -/
def Dev.commitCommand (d : Dev) (q : Req) (asWrite : Bool) (mode instant : Nat) : Dev :=
  if asWrite then d.command q 0x2010 1 (leBytes 1 mode) (fun _ (d : Dev) => d.commitAsk q true mode instant)
  else d.serveLedger q opCommit (leBytes 1 mode ++ zeros 5 ++ time80Bytes instant) (fun (d : Dev) =>
    let r := d.commitAsk q false mode instant
    if r.2 = 0 then r.1 else r.1.answer q opCommit r.2 [(r.2 : Int), 0, 0])

/-- CHECK_ONLY (R41). -/
def execCheckOnly (dt : Nat) (q : Req) (asWrite : Bool) (s : State) : Out := onDev s dt (fun d => d.commitCommand q asWrite 1 0)

/-- COMMIT_NEXT_INSTANT (R45). -/
def execCommitNextInstant (dt : Nat) (q : Req) (asWrite : Bool) (s : State) : Out := onDev s dt (fun d => d.commitCommand q asWrite 2 0)

/-- COMMIT_AT_INSTANT (R45): as a write, the instant is 2010:02. -/
def execCommitAtInstant (dt : Nat) (q : Req) (asWrite : Bool) (instant : Nat) (s : State) : Out :=
  onDev s dt (fun d => d.commitCommand q asWrite 3 (if asWrite then d.nat 0x201002 else instant))

/-- The request of a check or commit is answered, and its change set has the state given (R61). -/
def Dev.checkAnswer (d : Dev) (r : CommitReq) (status offending instant : Nat) : Dev :=
  if r.asWrite then d
  else
    let q : Req := { peer := r.peer, reqId := r.reqId }
    let d : Dev := { d with led := { d.led with waiting := d.led.waiting.filter (fun w => w != (r.peer, r.reqId)) } }
    d.answer q opCommit status [(status : Int), (offending : Int), (instant : Int)]

/-- The change set is left open by a check that ends without a commit (R41, R42, R45). -/
def Dev.reopen (d : Dev) : Dev := ({ d with cs := { d.cs with req := none } }).csStatus 1

/-- A check fails in a class (R42): the results, event source 12, and the set stays open. -/
def Dev.checkFails (d : Dev) (r : CommitReq) (status cls : Nat) (k : Key) : Dev :=
  let off := k * 256 + cls
  ((d.result status off).reopen.raise 12 cls).checkAnswer r status off 0

/-- The commit instant of mode 2 (R45, R50): of fleet time, or of the crystal count. -/
def Dev.nextInstant (d : Dev) : Bool × Nat := (d.noTime, closureInstant (d.instantNow d.noTime + commitLead))

/-- Class 6 of R42: the status that R45 or R50 gives a mode 3 instant, or 0. -/
def Dev.class6 (d : Dev) (r : CommitReq) : Nat :=
  if r.mode ≠ 3 then 0
  else if d.noTime then 0x14
  else if r.instant % 20000000 ≠ 0 then 8
  else if r.instant < d.instantNow false + commitLead then 0x11
  else if r.at_ + 600000000000 < r.instant then 8
  else 0

/-- A commit awaits its instant (R45): the COMMIT is answered with the instant, which is zero where it is one of the crystal count. -/
def Dev.awaitInstant (d : Dev) (r : CommitReq) (t : Bool × Nat) : Dev :=
  let d := ((d.result 0 0).csStatus 3)
  ({ d with cs := { d.cs with req := none, instant := some t } }).checkAnswer r 0 0 (if t.1 then 0 else t.2)

/-- The check of a change set ends (R42, R45). -/
def checkEnd (d : Dev) : Dev :=
  match (if d.nat 0x201003 = 2 then d.cs.req else none) with
  | none => d
  | some r =>
    match d.closure with
    | some (c, k) => d.checkFails r 0x10 c k
    | none =>
      let bad := d.class6 r
      if bad ≠ 0 then d.checkFails r bad 6 0x201002
      else if r.mode = 1 then ((d.result 0 0).reopen).checkAnswer r 0 0 0
      else d.awaitInstant r (if r.mode = 3 then (false, r.instant) else d.nextInstant)

def execClosureCheckEnd (dt : Nat) (s : State) : Out := onDev s dt (fun d => checkEnd d)

/-- The change set is discarded; a COMMIT whose check is running is answered with NO_CHANGESET first (R48, R61). -/
def Dev.discardSet (d : Dev) : Dev :=
  let d := match (if d.nat 0x201003 = 2 then d.cs.req else none) with
    | some r => d.checkAnswer r 0x0F 0 0
    | none => d
  d.closeSet

/-- An abort (R38, R48, R52). -/
def Dev.abortAsk (d : Dev) (q : Req) : Dev × Nat :=
  if d.nat 0x201003 = 0 then d.refuseCommit 0x0F
  else if d.cs.owner ≠ some q.peer then d.refuseCommit 0x0D
  else if d.nat 0x201003 = 3 ∧ d.tooLate then d.refuseCommit 0x11
  else (d.discardSet.result 0 0, 0)

/-- ABORT, or a write of 4 to 2010:01. An activation that waited for the commit goes on (R526). -/
def abortCommand (q : Req) (asWrite : Bool) (d : Dev) : Dev :=
  let d := if asWrite then d.command q 0x2010 1 [4] (fun _ (d : Dev) => d.abortAsk q)
    else d.serveLedger q opAbort [] (fun (d : Dev) => let r := d.abortAsk q; r.1.answer q opAbort r.2 [])
  d.settle.doDue

def execAbort (dt : Nat) (q : Req) (asWrite : Bool) (s : State) : Out := onDev s dt (abortCommand q asWrite)

/-- The peer timeout 2030:03, in 0.8 ns. -/
def Dev.peerTimeout (d : Dev) : Nat := d.nat 0x203003 * secT

/-- The owner has sent no request for the peer timeout (R40). A commit within 2 ms of its instant is applied (R48). -/
def ownerTimeout (d : Dev) : Dev :=
  d.when (decide (d.nat 0x201003 ≠ 0) && !d.tooLate && decide (d.cs.lastReq + d.peerTimeout ≤ d.clk.now)) (fun d =>
    let owner := d.oct 0x201008
    ((d.discardSet.result 0 0).raiseM 13 0 8 (Config.ownerDatum owner % 2 ^ 32)).settle.doDue)

def execChangesetOwnerTimeout (dt : Nat) (s : State) : Out := onDev s dt ownerTimeout

/-! Writes in parts. -/

/-- No part has come from the peer for the peer timeout (R60). -/
def partTimeout (p : Peer) (d : Dev) : Dev :=
  d.when (d.led.parts.any (fun b => b.peer == p && decide (b.at_ + d.peerTimeout ≤ d.clk.now))) (fun d => d.dropParts p)

def execPartBufferTimeout (dt : Nat) (peer : Peer) (s : State) : Out := onDev s dt (partTimeout peer)

/-- A live write of 2030 (R63): sub-entries 3 and 4 act at once, 1 and 2 a second after the answer. -/
def configWrite (sub : Nat) (v : DVal) (d : Dev) : Dev × Nat :=
  let d := d.put (keyOf 0x2030 sub) v
  let d : Dev := { d with nvDue := tabPut d.nvDue (keyOf 0x2030 sub) v }
  (if sub ≤ 2 then { d with led := { d.led with change := d.led.change ++ [(sub, v.int.toNat, d.clk.now)] } } else d, 0)

def execLedgerConfigWrite (dt : Nat) (q : Req) (sub : Nat) (data : List Byte) (s : State) : Out :=
  onDev s dt (fun d => d.command q 0x2030 sub data (configWrite sub))

/-- The oldest change of the port or of the port enable takes effect, 1 s after its answer (R63). -/
def portChange (d : Dev) : Dev :=
  match d.led.change with
  | [] => d
  | (sub, v, at_) :: rest => d.when (decide (at_ + secT ≤ d.clk.now)) (fun d =>
    let led : Ledger := if sub = 1 then { d.led with port := v } else { d.led with enable := v }
    { d with led := { led with change := rest } })

def execLedgerPortChangeEffect (dt : Nat) (s : State) : Out := onDev s dt portChange

/-- What a complete live write does (R35 to R37, R52, R63). -/
def Dev.liveWrite (d : Dev) (q : Req) (m : Samples) (k : Key) (v : DVal) : Dev × Nat :=
  let idx := k / 256
  if k = 0x201001 then
    if v.int = 4 then d.abortAsk q
    else d.commitAsk q true v.int.toNat (if v.int = 3 then d.nat 0x201002 else 0)
  else if idx = 0x2010 then (d.put k v, 0)
  else if idx = 0x2030 then configWrite (k % 256) v d
  else if idx < 0x2000 then
    let d := d.put k v
    ({ d with nvDue := tabPut d.nvDue k v }, 0)
  else d.runCommand m false k v

/-- A whole value is staged, or written live. -/
def Dev.wholeValue (d : Dev) (q : Req) (m : Samples) (idx sub : Nat) (staged : Bool) (b : List Byte) : Dev × Nat :=
  match valueOf idx sub b with
  | .error e => (d, e)
  | .ok v => if staged then d.stage q.peer (keyOf idx sub) v else d.liveWrite q m (keyOf idx sub) v

/-- A kept response is discarded after 2 s (R57). -/
def cacheExpiry (p : Peer) (reqId : Nat) (d : Dev) : Dev :=
  { d with led := { d.led with cache := d.led.cache.filter (fun c => !(c.peer == p && c.reqId == reqId && decide (c.at_ + 2 * secT ≤ d.clk.now))) } }

def execResponseCacheExpiry (dt : Nat) (peer : Peer) (reqId : Nat) (s : State) : Out := onDev s dt (cacheExpiry peer reqId)

/-- The pending writes of the settings store are made (R49); with no reserve block left for a bad one the store refuses the write (R546). -/
def storeWrite (bad : Option (Nat × Nat)) (d : Dev) : Dev :=
  d.when (d.up 2 && !d.nvDue.isEmpty) (fun d =>
    let r := d.flashWrite bad
    if r.2 then r.1.flushSettings else { r.1 with nvDue := [] })

def execSettingsStoreWrite (dt : Nat) (bad : Option (Nat × Nat)) (s : State) : Out := onDev s dt (storeWrite bad)

/-! Subscriptions. -/

/-- Bring 4817 into line with the slots (R66). -/
def Dev.subscribed (d : Dev) : Dev :=
  let all : Nat := d.ev.subs.foldl (fun m (e : Nat × Subscriber) => m ||| e.2.mask) 0
  (List.range 16).foldl (fun (d : Dev) w => d.setN (0x481701 + w) (all / 2 ^ (32 * w) % 2 ^ 32 : Nat)) d

/-- Change the subscriber slots. -/
def Dev.setSubs (d : Dev) (t : Tab Subscriber) : Dev := ({ d with ev := { d.ev with subs := t } }).subscribed

/-- The mask of a range of sources. -/
def rangeMask (first last : Nat) : Nat := 2 ^ (last + 1) - 2 ^ first

/-- The end of a lease that starts now (R63, R68). -/
def Dev.leaseFrom (d : Dev) : Nat := d.clk.now + d.nat 0x203004 * secT

/-- SUBSCRIBE (R68): the status, and the slot and lease that the answer gives. -/
def Dev.subscribe (d : Dev) (p : Peer) (first last action : Nat) : Dev × Nat × List Int :=
  let lease : Int := (d.nat 0x203004 * 1000 : Nat)
  let none_ : List Int := [0xFF, 0]
  if action = 0 ∨ 3 < action ∨ last < first ∨ 511 < last then (d, 8, none_)
  else match d.ev.subs.find? (fun (e : Nat × Subscriber) => e.2.peer == p) with
    | some (n, x) =>
      let m := rangeMask first last
      let mask := if action = 1 then x.mask ||| m else if action = 2 then x.mask ^^^ (x.mask &&& m) else x.mask
      if mask = 0 then (d.setSubs (tabDel d.ev.subs n), 0, none_)
      else (d.setSubs (tabPut d.ev.subs n { x with mask := mask, leaseEnd := d.leaseFrom }), 0, [(n : Int), lease])
    | none =>
      if action ≠ 1 then (d, 0, none_)
      else match tabFree d.ev.subs 16 with
        | none => (d, 0x15, none_)
        | some n =>
          let x : Subscriber := { peer := p, mask := rangeMask first last, leaseEnd := d.leaseFrom, seq := 0, lost := 0, recs := [], sentAt := [] }
          (d.setSubs (tabPut d.ev.subs n x), 0, [(n : Int), lease])

/-- A SUBSCRIBE request; a reserved field that is not zero is malformed (R55). -/
def ledgerSubscribe (q : Req) (first last action rsv : Nat) (d : Dev) : Dev :=
  d.serveLedger q opSubscribe (leBytes 2 first ++ leBytes 2 last ++ leBytes 1 action ++ leBytes 3 rsv) (fun (d : Dev) =>
    if rsv ≠ 0 then d.answer q opSubscribe 1 []
    else
      let r := d.subscribe q.peer first last action
      r.1.answer q opSubscribe r.2.1 r.2.2)

def execLedgerSubscribe (dt : Nat) (q : Req) (first last action rsv : Nat) (s : State) : Out :=
  onDev s dt (ledgerSubscribe q first last action rsv)

/-- The lease of a slot runs out (R68). -/
def leaseExpiry (n : Nat) (d : Dev) : Dev :=
  match tabGet d.ev.subs n with
  | none => d
  | some x => d.when (decide (x.leaseEnd ≤ d.clk.now)) (fun (d : Dev) => (d.setSubs (tabDel d.ev.subs n)).raise 14 0)

def execLeaseExpiry (dt : Nat) (slot : Fin 16) (s : State) : Out := onDev s dt (leaseExpiry slot.val)

/-- The fields of a record of R70: SOURCE, COALESCED, COUNT, TIME, DETAIL. -/
def recFields (r : EvRec) : List Int := [(r.src : Int), if 1 < r.count then 1 else 0, (r.count : Int), (r.time : Int), (r.detail : Int)]

/-- NOTIFY frames of at most 71 records each (R69, R70): at most `n` of them, from the records that wait. MORE stands in all but the
last. -/
def notifyFrames (x : Subscriber) : Nat → Nat → List EvRec → List Sent
  | 0, _, _ => []
  | _, _, [] => []
  | n + 1, seq, rs =>
    let now := rs.take 71
    let rest := rs.drop 71
    let more : Int := if n ≠ 0 ∧ rest ≠ [] then 1 else 0
    { kind := .notify, whom := [x.peer.addr, x.peer.port, x.peer.kind]
      flds := [(seq : Int), more, (now.length : Int), (x.lost : Int)] ++ now.flatMap recFields }
    :: notifyFrames x n ((seq + 1) % 2 ^ 32) rest

/-- NOTIFY frames leave for one slot (R69): at most 1,000 in a second, what is beyond them waiting for later frames. -/
def notifySend (n : Nat) (d : Dev) : Dev :=
  match (if d.up 8 ∧ d.up 7 then tabGet d.ev.subs n else none) with
  | none => d
  | some x =>
    let sent := x.sentAt.filter (fun t => decide (d.clk.now < t + secT))
    let fs := notifyFrames x (1000 - sent.length) x.seq x.recs
    let k := fs.length
    let x : Subscriber := { x with sentAt := List.replicate k d.clk.now ++ sent, seq := (x.seq + k) % 2 ^ 32, recs := x.recs.drop (71 * k) }
    { d with out := fs.reverse ++ d.out, ev := { d.ev with subs := tabPut d.ev.subs n x } }

def execNotifySend (dt : Nat) (slot : Fin 16) (s : State) : Out := onDev s dt (notifySend slot.val)

/-! Emergency messages and CANopen FD. -/

/-- The inhibit time 1015:00, in 100 µs, ends (R72): the oldest waiting message is sent and the inhibit time starts again; with none waiting it is over.
An inhibit time set to 0 meanwhile holds nothing back. -/
def emcyInhibitEnd (d : Dev) : Dev :=
  let zero := decide (d.nat 0x101500 = 0)
  d.when (d.ev.inhibit && (zero || decide (d.ev.inhibitAt + d.nat 0x101500 * 100 * usT ≤ d.clk.now))) (fun d =>
    let go : Dev → Nat × Nat × Nat → Dev := fun (d : Dev) w => d.sendEmcy w.1 w.2.1 w.2.2
    match d.ev.emcyWait with
    | [] => { d with ev := { d.ev with inhibit := false } }
    | w :: rest =>
      let d := if zero then (w :: rest).foldl go d else go d w
      { d with ev := { d.ev with inhibit := !zero, inhibitAt := d.clk.now, emcyWait := if zero then [] else rest } })

def execEmcyInhibitExpiry (dt : Nat) (s : State) : Out := onDev s dt emcyInhibitEnd

/-- An NMT command puts a port that takes part in NMT into a state (R74). -/
def nmtTo (p : Fin 2) (st : Nmt) (d : Dev) : Dev :=
  d.when (d.up 8 && decide ((d.can p).nmt ≠ .initialisation)) (fun d => d.setCan p { d.can p with nmt := st })

def execNmtStartRemoteNode (dt : Nat) (port : Fin 2) (s : State) : Out := onDev s dt (nmtTo port .operational)

def execNmtStopRemoteNode (dt : Nat) (port : Fin 2) (s : State) : Out := onDev s dt (nmtTo port .stopped)

def execNmtEnterPreOperational (dt : Nat) (port : Fin 2) (s : State) : Out := onDev s dt (nmtTo port .preOperational)

/-- NMT reset communication (R75): the node ID and bit rates set for the port are in force, and it is pre-operational. -/
def nmtResetComm (p : Fin 2) (d : Dev) : Dev :=
  let idx := 0x1E00 + p.val
  d.when (d.up 8 && decide ((d.can p).nmt ≠ .initialisation)) (fun d =>
    d.setCan p { nmt := .preOperational, node := d.nat (keyOf idx 1), nom := d.nat (keyOf idx 2), dataR := d.nat (keyOf idx 3) })

def execNmtResetCommunication (dt : Nat) (port : Fin 2) (s : State) : Out := onDev s dt (nmtResetComm port)

/-- The state codes of a heartbeat. PRESUMED: CiA 301. -/
def nmtCode : Nmt → Nat
  | .initialisation => 0 | .preOperational => 127 | .operational => 5 | .stopped => 4

/-- The heartbeat of a port (R74), every 1017:00 ms where that is not 0. -/
def canHeartbeat (p : Fin 2) (d : Dev) : Dev :=
  d.when (d.up 8 && decide ((d.can p).nmt ≠ .initialisation) && decide (d.nat 0x101700 ≠ 0)
      && d.dueIn (.heartbeat p.val) (msTicks (d.nat 0x101700))) (fun d =>
    (d.mark (.heartbeat p.val) d.clk.now).emit .canHeartbeat [p.val, (d.can p).node] [(nmtCode (d.can p).nmt : Int)])

def execCanHeartbeat (dt : Nat) (port : Fin 2) (s : State) : Out := onDev s dt (canHeartbeat port)

/-- A TPDO leaves on each operational port that has it enabled (R74, R75). The enable acts as soon as it is written: the settings that wait for
NMT reset communication are the node ID and bit rates (log 63). -/
def Dev.sendTpdo (d : Dev) (k : SentKind) (bit base : Nat) (flds : List Int) : Dev :=
  let one (p : Fin 2) (d : Dev) : Dev :=
    if (d.can p).nmt = .operational ∧ d.bit (keyOf (0x1E00 + p.val) 4) bit then
      d.emit k [p.val, base + (d.can p).node] flds
    else d
  one 1 (one 0 d)

/-- TPDO1 (R75), every 100 ms and on a change of the Whiteout level: 1001:00, the level, the enabled slots and the commit count. -/
def tpdo1 (d : Dev) : Dev :=
  d.when (d.up 8 && (d.dueIn .tpdo1 (100 * msT) || decide (d.lastOf .level ≠ some d.woLevel))) (fun d =>
    ((d.mark .tpdo1 d.clk.now).mark .level d.woLevel).sendTpdo .tpdo1 0 0x180 [(d.errorRegister : Int), (d.woLevel : Int), (d.slotsOn.length : Int), (d.nat 0x201006 : Int)])

def execTpdo1Send (dt : Nat) (s : State) : Out := onDev s dt tpdo1

/-- TPDO2 (R75), at a whole second of fleet time, which runs in every time state but 0 (R82): the second and the time state. -/
def tpdo2 (d : Dev) : Dev :=
  let sec := d.fleetNs / 1000000000
  d.when (d.up 8 && decide (d.timeState ≠ 0) && decide (d.lastOf .tpdo2 ≠ some sec)) (fun d =>
    (d.mark .tpdo2 sec).sendTpdo .tpdo2 1 0x280 [((sec * 1000000000 : Nat) : Int), (d.timeState : Int)])

def execTpdo2Send (dt : Nat) (s : State) : Out := onDev s dt tpdo2

end Sys2Proof.Machine
end

