-- ==== Sys2Proof/Machine/Reading.lean ====
section
/-!
DEFINITION. What a read of the dictionary gives (R32, R34, R59, R572, R573), with the entries that are worked out at the reading.
-/
namespace Sys2Proof.Machine

/-- Whole seconds from now to an instant of model time, 0 where it has passed. -/
def Dev.secsTo (d : Dev) (t : Nat) : Nat := (t - d.clk.now) / secT

/-- The equation snapshot 2201:01 (R77): B, O, r and the count of reloads and steps. -/
def Dev.equation (d : Dev) : List Byte :=
  leBytes 8 d.clk.base ++ leBytes 12 (ofSigned 96 d.clk.off) ++ leBytes 5 (ofSigned 40 d.clk.rate) ++ zeros 3 ++ leBytes 4 d.clk.reloads

/-- The group schedule 2E12:02: the holds of the selected group in group order, on fleet time (R242). -/
def Dev.groupSchedule (d : Dev) : List Byte :=
  (d.order d.resv.sched).flatMap (fun h =>
    let start := d.toReqLow 0 h.start
    let span : Nat := if h.open_ then 0xFFFFFFFF else (d.toReqHigh 0 h.stop - start).toNat
    leBytes 1 h.code ++ leBytes 1 (if h.path < 128 then h.path else 0xFF) ++ leBytes 2 h.path ++ leBytes 4 span
      ++ leBytes 8 (ofSigned 64 start))

/-- The 32 bytes of a Moraine entry (R533). -/
def MorEntry.encoded (e : MorEntry) : List Byte :=
  let b := leBytes 2 e.detail ++ leBytes 1 e.step
    ++ leBytes 1 ((if e.fwTime then 1 else 0) + (if e.flash then 2 else 0) + e.sev * 4 + e.island * 16)
    ++ leBytes 4 e.seq ++ leBytes 2 e.code ++ time80Bytes e.time ++ leBytes 4 e.data0 ++ leBytes 4 e.data1
  b ++ leBytes 4 (crc32c b)

/-- The status records of all tasks, 3002:01 (R267). -/
def Dev.fleetTasks (d : Dev) : List Byte := (List.range 1024).flatMap (fun j => (d.task j).status)

/-- The lowest SEQ held in either ring (4820:04). -/
def Dev.oldestSeq (d : Dev) : Nat :=
  match (d.mor.flash ++ d.mor.ring).map (·.seq) with
  | [] => 0
  | n :: l => l.foldl min n

/-- The entries that do not stand in the dictionary but are worked out at the reading. -/
def Dev.workedOut (d : Dev) (k : Key) : Option DVal :=
  match k with
  | 0x100100 => some (.num d.errorRegister)
  | 0x180001 => some (.num (0x180 + (d.can Config.tpdoPort).node : Nat))
  | 0x180101 => some (.num (0x280 + (d.can Config.tpdoPort).node : Nat))
  | 0x206006 => some (.num (if d.pwr.thawing then 0 else ((d.clk.now - d.pwr.thawEnd) / secT : Nat)))
  | 0x207101 => some (.oct d.retentionFile)
  | 0x220002 => some (.num d.fleetNs)
  | 0x220003 => some (.num d.clk.tick)
  | 0x220005 => some (.num d.estError)
  | 0x220101 => some (.oct d.equation)
  | 0x221103 => some (.num d.slewNs)
  | 0x226007 => some (.num d.warmLeft)
  | 0x246001 => some (.oct d.chanTable)
  | 0x249207 => some (.num (if d.nat 0x249204 = 1 then (d.surveySecs : Int) else d.num 0x249207))
  | 0x280101 => some (.num (d.groupsUsed.length : Nat))
  | 0x280102 => some (.num (d.capacity : Nat))
  | 0x280104 => some (.num (min ((d.eng_.fixTimes.filter (fun t => decide (d.clk.now < t + secT))).length) 65535 : Nat))
  | 0x280109 => some (.num ((d.eng_.bases.filter (fun b => decide (d.clk.now < b.at_ + 2 * secT))).length : Nat))
  | 0x28010C => some (.num (min ((d.eng_.wait.filter (fun e => e.stage == 2)).length) 65535 : Nat))
  | 0x2E1202 => some (.oct d.groupSchedule)
  | 0x300201 => some (.oct d.fleetTasks)
  | 0x343101 => some (.oct d.linkTable)
  | 0x3F0001 => some (.oct d.queueStatus)
  | 0x400101 => some (.oct d.taskTable)
  | 0x401001 => some (.oct d.coreStatus)
  | 0x440209 => some (.num (if d.nat 0x440208 = 0 then 0 else min ((d.clk.now - d.pair.cairnAt) / 1250000) 0xFFFFFFFF : Nat))
  | 0x460107 => some (.num (if d.nat 0x460101 = 4 ∨ d.nat 0x460101 = 5 then d.secsTo (d.upd.trialAt + 600 * secT) else 0 : Nat))
  | 0x461002 => some (.num (match d.wit.window with
      | some t => (d.secsTo (t + d.nat 0x461003 * secT) : Nat)
      | none => 0))
  | 0x3A8005 => some (.num (if d.windowBusy then 0x8000 else d.num 0x3A8005))
  | 0x482001 => some (.oct (d.morWindow.flatMap MorEntry.encoded))
  | 0x482003 => some (.num (d.mor.next - 1 : Nat))
  | 0x482004 => some (.num d.oldestSeq)
  | k =>
    if 0x3610 ≤ k / 256 ∧ k / 256 ≤ 0x3617 ∧ k % 256 = 5 then some (.num (d.axPhase (k / 256 - 0x3610) : Nat))
    else if k / 256 = 0x4220 then some (.oct (d.capBlob (k % 256 - 1)))
    else if k % 256 = 0 ∧ (rowOf (k / 256) 0).isNone then some (.num (highestSub (k / 256)))
    else none

/-- The live value of an entry as it reads. -/
def Dev.reading (d : Dev) (k : Key) : DVal := (d.workedOut k).getD (d.get k)

/-- A read of an entry (R572): the status, and on success the type and the value. A twin gives what is staged, else the live value
(R34); twins of 2010, 2030 and 4602 give the live value (R36, R518). Sub-index 0 is present at every present index (R573). -/
def Dev.readEntry (d : Dev) (rawIdx sub : Nat) : Nat × Ty × DVal :=
  let twin := isTwin rawIdx
  let idx := baseIdx rawIdx
  let rows := rowsAt idx
  let none_ (e : Nat) : Nat × Ty × DVal := (e, .u8, .num 0)
  if rows = [] ∨ (twin ∧ !rows.any (fun r => r.dir != .ro)) then none_ 3
  else
    let k := keyOf idx sub
    let value := (if twin then tabGet d.cs.staged k else none).getD (d.reading k)
    match rows.find? (fun r => decide (r.s0 ≤ sub) && decide (sub ≤ r.s1)) with
    | none => if sub = 0 then (0, .u8, d.reading k) else none_ 4
    | some r =>
      if twin ∧ r.dir = .ro ∧ sub ≠ 0 then none_ 4
      else if r.dir = .wo then none_ 6
      else if !d.up (ownerIsland k) then none_ 0x0A
      else (0, r.ty, value)

/-- The generation of an entry (R59). That of a twin advances with its live entry and with what is staged. -/
def Dev.generation (d : Dev) (rawIdx sub : Nat) : Nat :=
  let g := tabGetD d.gen (keyOf (baseIdx rawIdx) sub) 0
  if isTwin rawIdx then (g + tabGetD d.gen (keyOf (baseIdx rawIdx) sub + 0x800000) 0) % 65536 else g

/-- A READ of an entry that is worked out at the reading advances its generation where its value is another than the last READ found
(R59, log 61). -/
def Dev.noteRead (d : Dev) (k : Key) : Dev :=
  match d.workedOut k with
  | none => d
  | some v =>
    let d' : Dev := { d with led := { d.led with seen := tabPut d.led.seen k v } }
    match tabGet d.led.seen k with
    | none => d'
    | some x => if x = v then d else { d' with gen := tabMod d.gen k 0 (fun n => (n + 1) % 65536) }

/-- The answer to a READ (R58, R59): the status; TYPE, total length, generation; and the data from the offset, at most `len` bytes. -/
def Dev.readPart (d : Dev) (idx sub off len : Nat) : Nat × Nat × Nat × Nat × List Byte :=
  match d.readEntry idx sub with
  | (0, ty, v) =>
    let b := encodeVal ty v
    if b.length < off then (8, 0, 0, 0, [])
    else (0, tyCode ty, b.length, d.generation idx sub, (b.drop off).take len)
  | (e, _) => (e, 0, 0, 0, [])

end Sys2Proof.Machine
end

