-- ==== Sys2Proof/Machine/Window.lean ====
section
/-!
DEFINITION. Commands of the table window as peers give them (R62, R397 to R403): TABLE requests, writes of 3A80:04 and batches.
-/
namespace Sys2Proof.Machine

/-- What a TABLE request does (R62, R399): it loads :01 to :03 and executes as one request. -/
def Dev.tableBody (d : Dev) (q : Req) (cmd : Nat) (l : Nat × Nat × Nat) : Dev :=
  let d := d.ownFirst
  if !d.up 7 then (d.notReady 7).answer q opTable 0x0A []
  else if d.windowBusy then d.answer q opTable 0x12 []
  else
    let d := ((d.setN 0x3A8001 l.1).setO 0x3A8002 (leBytes 24 l.2.1)).setO 0x3A8003 (leBytes 24 l.2.2)
    let r := tableExec (.num cmd) d
    r.1.answer q opTable r.2 ([(l.1 : Int), cmd, r.1.num 0x3A8005] ++ (r.1.oct 0x3A8006).map (fun b => (b.toNat : Int)))

/-- A TABLE request with a key and a value of 24 bytes each. -/
def Dev.tableRequest (d : Dev) (q : Req) (cmd : Nat) (l : Nat × Nat × Nat) : Dev :=
  let p := leBytes 1 l.1 ++ leBytes 1 cmd ++ leBytes 1 24 ++ leBytes 1 24 ++ leBytes 24 l.2.1 ++ leBytes 24 l.2.2
  d.serveLedger q opTable p (fun d => d.tableBody q cmd l)

/-- A window command: by a TABLE request, or by the write of 3A80:04. -/
def Dev.tableCmd (d : Dev) (q : Req) (cmd : Nat) (load : Option (Nat × Nat × Nat)) : Dev :=
  match load with
  | some l => d.tableRequest q cmd l
  | none => d.command q 0x3A80 4 (leBytes 1 cmd) (windowWrite (fun v d => tableExec v d.ownFirst))

def execTableInsert (dt : Nat) (q : Req) (load : Option (Nat × Nat × Nat)) (s : State) : Out :=
  onDev s dt (fun d => d.tableCmd q 1 load)
def execTableReplace (dt : Nat) (q : Req) (load : Option (Nat × Nat × Nat)) (s : State) : Out :=
  onDev s dt (fun d => d.tableCmd q 2 load)
def execTableDelete (dt : Nat) (q : Req) (load : Option (Nat × Nat × Nat)) (s : State) : Out :=
  onDev s dt (fun d => d.tableCmd q 3 load)
def execTableLookup (dt : Nat) (q : Req) (load : Option (Nat × Nat × Nat)) (s : State) : Out :=
  onDev s dt (fun d => d.tableCmd q 4 load)
def execTableReadIndex (dt : Nat) (q : Req) (load : Option (Nat × Nat × Nat)) (s : State) : Out :=
  onDev s dt (fun d => d.tableCmd q 5 load)
def execTableFlush (dt : Nat) (q : Req) (load : Option (Nat × Nat × Nat)) (s : State) : Out :=
  onDev s dt (fun d => d.tableCmd q 6 load)

def execTableBatch (dt : Nat) (q : Req) (data : List Byte) (s : State) : Out :=
  onDev s dt (fun d => d.command q 0x3A81 1 data (windowWrite (fun v d => tableBatch v d.ownFirst)))

end Sys2Proof.Machine
end

