-- ==== Sys2Proof/Machine/Requests.lean ====
section
/-!
DEFINITION. Requests by their OP and the bytes of their payload (R58, R529): READ, WRITE and STAGE, and every operation that has rows of its
own; a payload that does not fit its OP is MALFORMED (R55), and an OP that the protocol does not have is UNKNOWN_OP (R64).
-/
namespace Sys2Proof.Machine

/-- The payload of a READ (R58). -/
structure ReadReq where
  idx : Nat
  sub : Nat
  off : Nat
  len : Nat
deriving DecidableEq, Repr

/-- The payload of a WRITE or STAGE (R58). -/
structure WriteReq where
  idx   : Nat
  sub   : Nat
  off   : Nat
  total : Nat
  data  : List Byte
deriving DecidableEq, Repr

/-- Read the payload of a READ; none where it does not fit. -/
def readReq (p : List Byte) : Option ReadReq :=
  if p.length = 12 ∧ fieldN p 3 1 = 0 ∧ fieldN p 10 2 = 0 then
    some { idx := fieldN p 0 2, sub := fieldN p 2 1, off := fieldN p 4 4, len := fieldN p 8 2 }
  else none

/-- Read the payload of a WRITE or STAGE; none where it does not fit. -/
def writeReq (p : List Byte) : Option WriteReq :=
  if 12 ≤ p.length ∧ fieldN p 3 1 = 0 then
    some { idx := fieldN p 0 2, sub := fieldN p 2 1, off := fieldN p 4 4, total := fieldN p 8 4, data := p.drop 12 }
  else none

/-- The most data that the answer to a READ holds: what is left of a frame of R53 or a message of R528. -/
def readRoom (q : Req) : Nat := if q.peer.kind = 4 then 65528 else if q.peer.kind = 3 then 65535 else 1416

/-- A READ (R32, R34, R58, R59). An entry of an island that is not in state 3 gives a not-ready reply (R17). -/
def Dev.readRequest (d : Dev) (q : Req) (op : Nat) (r : ReadReq) (m : Samples) : Dev :=
  let d := if keyOf (baseIdx r.idx) r.sub = 0x209003 ∧ d.up 10 then d.gpioSample m.gpio else d
  let d := d.noteRead (keyOf (baseIdx r.idx) r.sub)
  let a := d.readPart r.idx r.sub r.off (min r.len (readRoom q))
  if a.1 = 0 then
    d.answer q op 0 ([(r.idx : Int), (r.sub : Int), (a.2.1 : Int), (a.2.2.1 : Int), (r.off : Int), (a.2.2.2.1 : Int)]
      ++ a.2.2.2.2.map (fun b => (b.toNat : Int)))
  else (d.refusedBy q.peer a.1 (keyOf (baseIdx r.idx) r.sub)).answer q op a.1 [(r.idx : Int), (r.sub : Int), 0, 0, (r.off : Int), 0]

/-- A WRITE or STAGE (R34, R35, R60, R61, R572). -/
def Dev.writeRequest (d : Dev) (q : Req) (staged : Bool) (w : WriteReq) (m : Samples) : Dev :=
  let t := writeTarget staged w.idx
  let reply (d : Dev) (status acc : Nat) : Dev :=
    d.answer q (if staged then opStage else opWrite) status [(w.idx : Int), (w.sub : Int), (acc : Int)]
  match d.writeCheck q.peer staged w.idx w.sub with
  | 0 =>
    if keyOf t.1 w.sub = 0x460201 ∧ !t.2 then
      let r := (d.dropParts q.peer).imagePart q.peer w.off w.total w.data none
      reply r.1 r.2.1 r.2.2
    else
      let r := d.takePart q.peer (keyOf t.1 w.sub) t.2 w.off w.total w.data
      if r.2.1 ≠ 0 then reply r.1 r.2.1 0
      else match r.2.2 with
        | none => reply r.1 0 (w.off + w.data.length)
        | some b =>
          let x := r.1.wholeValue q m t.1 w.sub t.2 b
          reply x.1 x.2 (if x.2 = 0 then w.total else 0)
  | e => reply (d.refusedBy q.peer e (keyOf t.1 w.sub)) e 0

/-- The instant of a COMMIT payload (R58), and whether it is a TIME80 (R30). -/
def commitInstant (p : List Byte) : Nat × Bool := (fieldT p 6, decide (fieldN p 12 4 ≤ 999999999))

/-- A COMMIT by its payload: a mode that R58 does not list is refused with RANGE (R9). -/
def Dev.commitRequest (d : Dev) (q : Req) (p : List Byte) : Dev :=
  let mode := fieldN p 0 1
  if mode = 0 ∨ 3 < mode ∨ (mode = 3 ∧ !(commitInstant p).2) then d.answer q opCommit 8 [8, 0, 0]
  else
    let r := d.commitAsk q false mode (commitInstant p).1
    if r.2 = 0 then r.1 else r.1.answer q opCommit r.2 [(r.2 : Int), 0, 0]

/-- The body of a Ledger or USDO request that its intake passes (R58). -/
def Dev.ledgerBody (d : Dev) (q : Req) (op : Nat) (p : List Byte) (m : Samples) : Dev :=
  let bad := d.answer q op 1 []
  match op with
  | 1 => match readReq p with
    | some r => d.readRequest q op r m
    | none => bad
  | 2 => match writeReq p with
    | some w => d.writeRequest q false w m
    | none => bad
  | 3 => match writeReq p with
    | some w => d.writeRequest q true w m
    | none => bad
  | 4 => if p.length = 16 ∧ fieldN p 1 5 = 0 then d.commitRequest q p else bad
  | 5 => if p = [] then (let r := d.abortAsk q; r.1.answer q opAbort r.2 []) else bad
  | 6 =>
    if p.length = 8 ∧ fieldN p 5 3 = 0 then
      let r := d.subscribe q.peer (fieldN p 0 2) (fieldN p 2 2) (fieldN p 4 1)
      r.1.answer q opSubscribe r.2.1 r.2.2
    else bad
  | 7 =>
    let kl := fieldN p 2 1
    let vl := fieldN p 3 1
    if p.length = 4 + kl + vl ∧ kl ≤ 24 ∧ vl ≤ 24 then
      d.tableBody q (fieldN p 1 1) (fieldN p 0 1, fieldN p 4 kl, fieldN p (4 + kl) vl)
    else bad
  | _ => d.answer q op 2 []

/-- The body of a Jenyn request that its intake passes (R529). -/
def Dev.jenynBody (d : Dev) (q : Req) (op : Nat) (p : List Byte) (m : Samples) : Dev :=
  let bad := d.answer q op 1 []
  let one (sub : Nat) : Dev :=
    if p = [] then d.writeRequest q false { idx := 0x4602, sub := sub, off := 0, total := 1, data := [1] } m else bad
  match op with
  | 1 => if p = [] then d.identify q else bad
  | 2 => match readReq p with
    | some r => d.readRequest q op r m
    | none => bad
  | 3 =>
    if 8 ≤ p.length then
      d.writeRequest q false { idx := 0x4602, sub := 1, off := fieldN p 0 4, total := fieldN p 4 4, data := p.drop 8 } m
    else bad
  | 4 => one 2
  | 5 => one 3
  | 6 => one 4
  | _ => d.answer q op 2 []

/-- A request of any OP, by the bytes of its payload (R53 to R62, R74, R529). -/
def registerWrite (q : Req) (op : Nat) (p : List Byte) (m : Samples) (d : Dev) : Dev :=
  (d.serve q op p (fun (d : Dev) =>
    if q.peer.kind = 4 then d.jenynBody q op p m else d.ledgerBody q op p m)).settle.doDue

def execRegisterWrite (dt : Nat) (q : Req) (op : Nat) (payload : List Byte) (m : Samples) (s : State) : Out :=
  onFuse s dt (registerWrite q op payload m)

end Sys2Proof.Machine
end

