-- ==== Sys2Proof/Machine/Dispatch.lean ====
section
/-!
DEFINITION. The dispatch of a command to its meaning: one arm for each constructor of `Instr`.
-/
namespace Sys2Proof.Machine

def exec (i : Instr) (s : State) : Host.Outcome State Fault Refusal :=
  match i with
  | .powerOverBound dt mw => Sys2Proof.Machine.execPowerOverBound dt mw s
  | .registerWrite dt q op payload m => Sys2Proof.Machine.execRegisterWrite dt q op payload m s
  | .ledgerSubscribe dt q first last action rsv => Sys2Proof.Machine.execLedgerSubscribe dt q first last action rsv s
  | .checkOnly dt q asWrite => Sys2Proof.Machine.execCheckOnly dt q asWrite s
  | .commitNextInstant dt q asWrite => Sys2Proof.Machine.execCommitNextInstant dt q asWrite s
  | .commitAtInstant dt q asWrite instant => Sys2Proof.Machine.execCommitAtInstant dt q asWrite instant s
  | .abort dt q asWrite => Sys2Proof.Machine.execAbort dt q asWrite s
  | .closureCheckEnd dt => Sys2Proof.Machine.execClosureCheckEnd dt s
  | .commitApply dt m => Sys2Proof.Machine.execCommitApply dt m s
  | .changesetOwnerTimeout dt => Sys2Proof.Machine.execChangesetOwnerTimeout dt s
  | .partBufferTimeout dt peer => Sys2Proof.Machine.execPartBufferTimeout dt peer s
  | .settingsStoreWrite dt bad => Sys2Proof.Machine.execSettingsStoreWrite dt bad s
  | .responseCacheExpiry dt peer reqId => Sys2Proof.Machine.execResponseCacheExpiry dt peer reqId s
  | .leaseExpiry dt slot => Sys2Proof.Machine.execLeaseExpiry dt slot s
  | .notifySend dt slot => Sys2Proof.Machine.execNotifySend dt slot s
  | .pendingClear dt q sub data => Sys2Proof.Machine.execPendingClear dt q sub data s
  | .emcyInhibitExpiry dt => Sys2Proof.Machine.execEmcyInhibitExpiry dt s
  | .ledgerConfigWrite dt q sub data => Sys2Proof.Machine.execLedgerConfigWrite dt q sub data s
  | .ledgerPortChangeEffect dt => Sys2Proof.Machine.execLedgerPortChangeEffect dt s
  | .nmtStartRemoteNode dt port => Sys2Proof.Machine.execNmtStartRemoteNode dt port s
  | .nmtStopRemoteNode dt port => Sys2Proof.Machine.execNmtStopRemoteNode dt port s
  | .nmtEnterPreOperational dt port => Sys2Proof.Machine.execNmtEnterPreOperational dt port s
  | .nmtResetCommunication dt port => Sys2Proof.Machine.execNmtResetCommunication dt port s
  | .canHeartbeat dt port => Sys2Proof.Machine.execCanHeartbeat dt port s
  | .tpdo1Send dt => Sys2Proof.Machine.execTpdo1Send dt s
  | .tpdo2Send dt => Sys2Proof.Machine.execTpdo2Send dt s
  | .servoUpdate dt src => Sys2Proof.Machine.execServoUpdate dt src s
  | .slewEnd dt => Sys2Proof.Machine.execSlewEnd dt s
  | .stepApply dt => Sys2Proof.Machine.execStepApply dt s
  | .efcOffload dt => Sys2Proof.Machine.execEfcOffload dt s
  | .sourceTimeout dt src => Sys2Proof.Machine.execSourceTimeout dt src s
  | .sourceHoldoffExpiry dt src => Sys2Proof.Machine.execSourceHoldoffExpiry dt src s
  | .holdoverDegrade dt => Sys2Proof.Machine.execHoldoverDegrade dt s
  | .cartridgeFail dt seated missingNs count => Sys2Proof.Machine.execCartridgeFail dt seated missingNs count s
  | .cartridgeValid dt image => Sys2Proof.Machine.execCartridgeValid dt image s
  | .warmupEnd dt => Sys2Proof.Machine.execWarmupEnd dt s
  | .lifeRecordWrite dt written => Sys2Proof.Machine.execLifeRecordWrite dt written s
  | .ppsMessage dt out => Sys2Proof.Machine.execPpsMessage dt out s
  | .ppsPulse dt out => Sys2Proof.Machine.execPpsPulse dt out s
  | .ptpSyncReceive dt port m => Sys2Proof.Machine.execPtpSyncReceive dt port m s
  | .ptpFollowUpReceive dt port m => Sys2Proof.Machine.execPtpFollowUpReceive dt port m s
  | .ptpAnnounceReceive dt port a => Sys2Proof.Machine.execPtpAnnounceReceive dt port a s
  | .ptpDelayReqReceive dt port m => Sys2Proof.Machine.execPtpDelayReqReceive dt port m s
  | .ptpDelayRespReceive dt port m => Sys2Proof.Machine.execPtpDelayRespReceive dt port m s
  | .ptpPdelayReqReceive dt port m => Sys2Proof.Machine.execPtpPdelayReqReceive dt port m s
  | .ptpPdelayRespReceive dt port followUp m => Sys2Proof.Machine.execPtpPdelayRespReceive dt port followUp m s
  | .ptpSyncInterval dt port => Sys2Proof.Machine.execPtpSyncInterval dt port s
  | .ptpAnnounceInterval dt port => Sys2Proof.Machine.execPtpAnnounceInterval dt port s
  | .ptpDelayReqInterval dt port => Sys2Proof.Machine.execPtpDelayReqInterval dt port s
  | .announceReceiptTimeout dt port => Sys2Proof.Machine.execAnnounceReceiptTimeout dt port s
  | .comparatorArm dt q n data => Sys2Proof.Machine.execComparatorArm dt q n data s
  | .comparatorFire dt n => Sys2Proof.Machine.execComparatorFire dt n s
  | .feedShort dt ant current => Sys2Proof.Machine.execFeedShort dt ant current s
  | .feedRetry dt ant current => Sys2Proof.Machine.execFeedRetry dt ant current s
  | .feedStateChange dt ant current => Sys2Proof.Machine.execFeedStateChange dt ant current s
  | .notchEngage dt pair freq level => Sys2Proof.Machine.execNotchEngage dt pair freq level s
  | .notchRelease dt pair notch => Sys2Proof.Machine.execNotchRelease dt pair notch s
  | .jammingRise dt pair b => Sys2Proof.Machine.execJammingRise dt pair b s
  | .jammingClear dt pair b => Sys2Proof.Machine.execJammingClear dt pair b s
  | .channelAssign dt sky => Sys2Proof.Machine.execChannelAssign dt sky s
  | .acqSearchComplete dt codeBin dopBin power noise verify1 verify2 => Sys2Proof.Machine.execAcqSearchComplete dt codeBin dopBin power noise verify1 verify2 s
  | .signalRequeue dt => Sys2Proof.Machine.execSignalRequeue dt s
  | .loopIntegration dt chan us d2 sync k => Sys2Proof.Machine.execLoopIntegration dt chan us d2 sync k s
  | .pullInTimeout dt chan => Sys2Proof.Machine.execPullInTimeout dt chan s
  | .coastTimeout dt chan => Sys2Proof.Machine.execCoastTimeout dt chan s
  | .restartCold dt q => Sys2Proof.Machine.execRestartCold dt q s
  | .restartWarm dt q => Sys2Proof.Machine.execRestartWarm dt q s
  | .restartHot dt q => Sys2Proof.Machine.execRestartHot dt q s
  | .measurementEpoch dt chans bands => Sys2Proof.Machine.execMeasurementEpoch dt chans bands s
  | .baseRecordComplete dt => Sys2Proof.Machine.execBaseRecordComplete dt s
  | .epochDrop dt => Sys2Proof.Machine.execEpochDrop dt s
  | .shadowTestEnd dt => Sys2Proof.Machine.execShadowTestEnd dt s
  | .channelRetire dt chan => Sys2Proof.Machine.execChannelRetire dt chan s
  | .surveyStart dt q => Sys2Proof.Machine.execSurveyStart dt q s
  | .surveyStop dt q => Sys2Proof.Machine.execSurveyStop dt q s
  | .surveyComplete dt => Sys2Proof.Machine.execSurveyComplete dt s
  | .surveyTimeout dt => Sys2Proof.Machine.execSurveyTimeout dt s
  | .benchmarkMeanCheck dt => Sys2Proof.Machine.execBenchmarkMeanCheck dt s
  | .gnssTimeUpdate dt t => Sys2Proof.Machine.execGnssTimeUpdate dt t s
  | .msmEpoch dt => Sys2Proof.Machine.execMsmEpoch dt s
  | .observationIntake dt slot addr port telegram ago cells => Sys2Proof.Machine.execObservationIntake dt slot addr port telegram ago cells s
  | .epochCompletionTimeout dt slot => Sys2Proof.Machine.execEpochCompletionTimeout dt slot s
  | .pairingWaitExpiry dt slot => Sys2Proof.Machine.execPairingWaitExpiry dt slot s
  | .fixWrite dt group geo seedGeo => Sys2Proof.Machine.execFixWrite dt group geo seedGeo s
  | .laneFault dt lane => Sys2Proof.Machine.execLaneFault dt lane s
  | .slotStale dt slot => Sys2Proof.Machine.execSlotStale dt slot s
  | .slotSuspend dt => Sys2Proof.Machine.execSlotSuspend dt s
  | .slotResume dt => Sys2Proof.Machine.execSlotResume dt s
  | .slotResetFilter dt q slot => Sys2Proof.Machine.execSlotResetFilter dt q slot s
  | .slotDropCarried dt q slot => Sys2Proof.Machine.execSlotDropCarried dt q slot s
  | .epochShed dt => Sys2Proof.Machine.execEpochShed dt s
  | .reserve dt q r => Sys2Proof.Machine.execReserve dt q r s
  | .extend dt q r => Sys2Proof.Machine.execExtend dt q r s
  | .release dt q r => Sys2Proof.Machine.execRelease dt q r s
  | .lookup dt q r => Sys2Proof.Machine.execLookup dt q r s
  | .intervalLapse dt path group => Sys2Proof.Machine.execIntervalLapse dt path group s
  | .standingAlert dt path group => Sys2Proof.Machine.execStandingAlert dt path group s
  | .groupPassed dt slot group => Sys2Proof.Machine.execGroupPassed dt slot group s
  | .bucketRelease dt => Sys2Proof.Machine.execBucketRelease dt s
  | .forceRelease dt q data => Sys2Proof.Machine.execForceRelease dt q data s
  | .scheduleGroupSelect dt q data => Sys2Proof.Machine.execScheduleGroupSelect dt q data s
  | .taskSubmit dt q data => Sys2Proof.Machine.execTaskSubmit dt q data s
  | .taskCancel dt q data => Sys2Proof.Machine.execTaskCancel dt q data s
  | .taskEarliest dt task => Sys2Proof.Machine.execTaskEarliest dt task s
  | .taskRetentionExpiry dt task => Sys2Proof.Machine.execTaskRetentionExpiry dt task s
  | .roundPeriodExpiry dt => Sys2Proof.Machine.execRoundPeriodExpiry dt s
  | .auctionRoundStart dt passHundredths => Sys2Proof.Machine.execAuctionRoundStart dt passHundredths s
  | .roundBoundExpiry dt cycles => Sys2Proof.Machine.execRoundBoundExpiry dt cycles s
  | .auctionRoundEnd dt hundredths => Sys2Proof.Machine.execAuctionRoundEnd dt hundredths s
  | .serviceTimeExpiry dt slot => Sys2Proof.Machine.execServiceTimeExpiry dt slot s
  | .setpointBlock dt late => Sys2Proof.Machine.execSetpointBlock dt late s
  | .permissionPeriod dt => Sys2Proof.Machine.execPermissionPeriod dt s
  | .readinessTimeout dt slot => Sys2Proof.Machine.execReadinessTimeout dt slot s
  | .vehicleHold dt q slot rsv arg => Sys2Proof.Machine.execVehicleHold dt q slot rsv arg s
  | .vehicleResume dt q slot rsv arg => Sys2Proof.Machine.execVehicleResume dt q slot rsv arg s
  | .vehicleGoToNode dt q slot rsv node => Sys2Proof.Machine.execVehicleGoToNode dt q slot rsv node s
  | .vehicleGiveUpTask dt q slot rsv arg => Sys2Proof.Machine.execVehicleGiveUpTask dt q slot rsv arg s
  | .revDwellEnd dt slot => Sys2Proof.Machine.execRevDwellEnd dt slot s
  | .stopInputAct dt input levels us fbTenths => Sys2Proof.Machine.execStopInputAct dt input levels us fbTenths s
  | .stopInputDiscrepancy dt input levels ms => Sys2Proof.Machine.execStopInputDiscrepancy dt input levels ms s
  | .stopInputFaultClear dt input levels => Sys2Proof.Machine.execStopInputFaultClear dt input levels s
  | .inputTestPulse dt line => Sys2Proof.Machine.execInputTestPulse dt line s
  | .testPulseCheck dt line levels => Sys2Proof.Machine.execTestPulseCheck dt line levels s
  | .outputTest dt out followed => Sys2Proof.Machine.execOutputTest dt out followed s
  | .outputReadbackFault dt out levels us => Sys2Proof.Machine.execOutputReadbackFault dt out levels us s
  | .stopCommand dt q data => Sys2Proof.Machine.execStopCommand dt q data s
  | .clearCommand dt q data levels highUs => Sys2Proof.Machine.execClearCommand dt q data levels highUs s
  | .keepAlive dt q data => Sys2Proof.Machine.execKeepAlive dt q data s
  | .supervisorWatchdogExpiry dt => Sys2Proof.Machine.execSupervisorWatchdogExpiry dt s
  | .resumePress dt lowMs levels highUs => Sys2Proof.Machine.execResumePress dt lowMs levels highUs s
  | .resumeArmTimeout dt => Sys2Proof.Machine.execResumeArmTimeout dt s
  | .floodWave dt => Sys2Proof.Machine.execFloodWave dt s
  | .clearWave dt => Sys2Proof.Machine.execClearWave dt s
  | .acknowledgement dt addr port telegram => Sys2Proof.Machine.execAcknowledgement dt addr port telegram s
  | .taskStatusReport dt addr port telegram => Sys2Proof.Machine.execTaskStatusReport dt addr port telegram s
  | .ackTimeout dt slot => Sys2Proof.Machine.execAckTimeout dt slot s
  | .axisMoveAbsolute dt q n rsv arg => Sys2Proof.Machine.execAxisMoveAbsolute dt q n rsv arg s
  | .axisMoveRelative dt q n rsv arg => Sys2Proof.Machine.execAxisMoveRelative dt q n rsv arg s
  | .axisJog dt q n rsv arg => Sys2Proof.Machine.execAxisJog dt q n rsv arg s
  | .axisStop dt q n rsv arg => Sys2Proof.Machine.execAxisStop dt q n rsv arg s
  | .axisHome dt q n rsv arg => Sys2Proof.Machine.execAxisHome dt q n rsv arg s
  | .axisEnable dt q n rsv arg => Sys2Proof.Machine.execAxisEnable dt q n rsv arg s
  | .axisDisable dt q n rsv arg => Sys2Proof.Machine.execAxisDisable dt q n rsv arg s
  | .axisClearFault dt q n rsv arg => Sys2Proof.Machine.execAxisClearFault dt q n rsv arg s
  | .axisSetPosition dt q n data => Sys2Proof.Machine.execAxisSetPosition dt q n data s
  | .axisSegment dt n => Sys2Proof.Machine.execAxisSegment dt n s
  | .axisLimitInput dt n levels us => Sys2Proof.Machine.execAxisLimitInput dt n levels us s
  | .axisFaultInput dt n levels us => Sys2Proof.Machine.execAxisFaultInput dt n levels us s
  | .axisHomeEdge dt n levels us => Sys2Proof.Machine.execAxisHomeEdge dt n levels us s
  | .axisHoldDelay dt n => Sys2Proof.Machine.execAxisHoldDelay dt n s
  | .axisDwellEnd dt n => Sys2Proof.Machine.execAxisDwellEnd dt n s
  | .frameReceive dt port f => Sys2Proof.Machine.execFrameReceive dt port f s
  | .learnNotice dt pipe => Sys2Proof.Machine.execLearnNotice dt pipe s
  | .ageingSweep dt pipe index => Sys2Proof.Machine.execAgeingSweep dt pipe index s
  | .stashReinsert dt pipe => Sys2Proof.Machine.execStashReinsert dt pipe s
  | .linkUp dt port speed ability => Sys2Proof.Machine.execLinkUp dt port speed ability s
  | .linkDown dt port => Sys2Proof.Machine.execLinkDown dt port s
  | .pauseExpiry dt port => Sys2Proof.Machine.execPauseExpiry dt port s
  | .tableInsert dt q load => Sys2Proof.Machine.execTableInsert dt q load s
  | .tableReplace dt q load => Sys2Proof.Machine.execTableReplace dt q load s
  | .tableDelete dt q load => Sys2Proof.Machine.execTableDelete dt q load s
  | .tableLookup dt q load => Sys2Proof.Machine.execTableLookup dt q load s
  | .tableReadIndex dt q load => Sys2Proof.Machine.execTableReadIndex dt q load s
  | .tableFlush dt q load => Sys2Proof.Machine.execTableFlush dt q load s
  | .tableBatch dt q data => Sys2Proof.Machine.execTableBatch dt q data s
  | .shadowSweep dt table index verdict => Sys2Proof.Machine.execShadowSweep dt table index verdict s
  | .entryRewrite dt table key => Sys2Proof.Machine.execEntryRewrite dt table key s
  | .queuePush dt queue src typ tag words flds => Sys2Proof.Machine.execQueuePush dt queue src typ tag words flds s
  | .queuePop dt queue consumer => Sys2Proof.Machine.execQueuePop dt queue consumer s
  | .queueFlush dt q queue data => Sys2Proof.Machine.execQueueFlush dt q queue data s
  | .firnSpill dt queue => Sys2Proof.Machine.execFirnSpill dt queue s
  | .firnRefill dt queue => Sys2Proof.Machine.execFirnRefill dt queue s
  | .firnError dt queue block region => Sys2Proof.Machine.execFirnError dt queue block region s
  | .queueStatisticsClear dt q data => Sys2Proof.Machine.execQueueStatisticsClear dt q data s
  | .taskReady dt slot prio mask kind num => Sys2Proof.Machine.execTaskReady dt slot prio mask kind num s
  | .dispatchEnd dt core into kind num delayNs => Sys2Proof.Machine.execDispatchEnd dt core into kind num delayNs s
  | .timerExpiry dt timer => Sys2Proof.Machine.execTimerExpiry dt timer s
  | .schedulerStatisticsClear dt q data => Sys2Proof.Machine.execSchedulerStatisticsClear dt q data s
  | .timedActionArm dt q a data => Sys2Proof.Machine.execTimedActionArm dt q a data s
  | .timedActionRun dt a m => Sys2Proof.Machine.execTimedActionRun dt a m s
  | .captureArm dt q => Sys2Proof.Machine.execCaptureArm dt q s
  | .captureForceTrigger dt q => Sys2Proof.Machine.execCaptureForceTrigger dt q s
  | .captureStop dt q ss => Sys2Proof.Machine.execCaptureStop dt q ss s
  | .captureRelease dt q data => Sys2Proof.Machine.execCaptureRelease dt q data s
  | .captureFillComplete dt => Sys2Proof.Machine.execCaptureFillComplete dt s
  | .captureTrigger dt ss edges => Sys2Proof.Machine.execCaptureTrigger dt ss edges s
  | .captureRecordComplete dt ss => Sys2Proof.Machine.execCaptureRecordComplete dt ss s
  | .captureRearm dt => Sys2Proof.Machine.execCaptureRearm dt s
  | .powerRun dt q => Sys2Proof.Machine.execPowerRun dt q s
  | .powerIdle dt q => Sys2Proof.Machine.execPowerIdle dt q s
  | .powerHibernate dt q => Sys2Proof.Machine.execPowerHibernate dt q s
  | .powerGlacier dt q => Sys2Proof.Machine.execPowerGlacier dt q s
  | .powerOnReset dt goodUs strap => Sys2Proof.Machine.execPowerOnReset dt goodUs strap s
  | .vmainPgTimeout dt => Sys2Proof.Machine.execVmainPgTimeout dt s
  | .vmainRetry dt => Sys2Proof.Machine.execVmainRetry dt s
  | .brownOut dt supply lowNs => Sys2Proof.Machine.execBrownOut dt supply lowNs s
  | .resetNPulse dt lowNs => Sys2Proof.Machine.execResetNPulse dt lowNs s
  | .watchdogReset dt quietMs => Sys2Proof.Machine.execWatchdogReset dt quietMs s
  | .softwareReset dt q data => Sys2Proof.Machine.execSoftwareReset dt q data s
  | .thawIslandStart dt island => Sys2Proof.Machine.execThawIslandStart dt island s
  | .islandStarted dt island failed => Sys2Proof.Machine.execIslandStarted dt island failed s
  | .islandStartTimeout dt island => Sys2Proof.Machine.execIslandStartTimeout dt island s
  | .thawRetry dt => Sys2Proof.Machine.execThawRetry dt s
  | .islandRecoveryStart dt island => Sys2Proof.Machine.execIslandRecoveryStart dt island s
  | .islandRecoveryEnd dt island => Sys2Proof.Machine.execIslandRecoveryEnd dt island s
  | .wakeNWake dt lowUs => Sys2Proof.Machine.execWakeNWake dt lowUs s
  | .wakeTimerExpiry dt => Sys2Proof.Machine.execWakeTimerExpiry dt s
  | .glacierWake dt lowUs => Sys2Proof.Machine.execGlacierWake dt lowUs s
  | .countsSave dt => Sys2Proof.Machine.execCountsSave dt s
  | .heartbeatSend dt => Sys2Proof.Machine.execHeartbeatSend dt s
  | .heartbeatReceive dt lane frame => Sys2Proof.Machine.execHeartbeatReceive dt lane frame s
  | .laneLoss dt lane => Sys2Proof.Machine.execLaneLoss dt lane s
  | .electionWaitExpiry dt => Sys2Proof.Machine.execElectionWaitExpiry dt s
  | .cairnTake dt => Sys2Proof.Machine.execCairnTake dt s
  | .cairnPartReceive dt lane frame => Sys2Proof.Machine.execCairnPartReceive dt lane frame s
  | .cairnAckReceive dt lane frame => Sys2Proof.Machine.execCairnAckReceive dt lane frame s
  | .stopNoticeReceive dt lane frame => Sys2Proof.Machine.execStopNoticeReceive dt lane frame s
  | .settingsPartReceive dt lane frame written => Sys2Proof.Machine.execSettingsPartReceive dt lane frame written s
  | .settingsAckReceive dt lane frame => Sys2Proof.Machine.execSettingsAckReceive dt lane frame s
  | .settingsRepeat dt => Sys2Proof.Machine.execSettingsRepeat dt s
  | .pairWakeReceive dt lane frame => Sys2Proof.Machine.execPairWakeReceive dt lane frame s
  | .takeoverDelayExpiry dt => Sys2Proof.Machine.execTakeoverDelayExpiry dt s
  | .grantHoldAlert dt slot grant => Sys2Proof.Machine.execGrantHoldAlert dt slot grant s
  | .soloDeclare dt q => Sys2Proof.Machine.execSoloDeclare dt q s
  | .soloLeave dt q => Sys2Proof.Machine.execSoloLeave dt q s
  | .isolationExpiry dt => Sys2Proof.Machine.execIsolationExpiry dt s
  | .switchOver dt q data => Sys2Proof.Machine.execSwitchOver dt q data s
  | .switchOverTimeout dt => Sys2Proof.Machine.execSwitchOverTimeout dt s
  | .drill dt q data => Sys2Proof.Machine.execDrill dt q data s
  | .drillPeriodExpiry dt => Sys2Proof.Machine.execDrillPeriodExpiry dt s
  | .drillEnd dt => Sys2Proof.Machine.execDrillEnd dt s
  | .witnessPress dt lowMs fitted => Sys2Proof.Machine.execWitnessPress dt lowMs fitted s
  | .sealOpen dt lowUs => Sys2Proof.Machine.execSealOpen dt lowUs s
  | .jumperFitted dt => Sys2Proof.Machine.execJumperFitted dt s
  | .jumperRemoved dt outMs => Sys2Proof.Machine.execJumperRemoved dt outMs s
  | .witnessWindowExpiry dt => Sys2Proof.Machine.execWitnessWindowExpiry dt s
  | .closeWindow dt q data => Sys2Proof.Machine.execCloseWindow dt q data s
  | .clearLatches dt q data fitted closed => Sys2Proof.Machine.execClearLatches dt q data fitted closed s
  | .programKey dt q data => Sys2Proof.Machine.execProgramKey dt q data s
  | .revokeKey dt q data => Sys2Proof.Machine.execRevokeKey dt q data s
  | .imageData dt q offset total data bad => Sys2Proof.Machine.execImageData dt q offset total data bad s
  | .imageVerifyEnd dt readBack => Sys2Proof.Machine.execImageVerifyEnd dt readBack s
  | .activate dt q data => Sys2Proof.Machine.execActivate dt q data s
  | .confirm dt q data => Sys2Proof.Machine.execConfirm dt q data s
  | .abandon dt q data => Sys2Proof.Machine.execAbandon dt q data s
  | .autoConfirmExpiry dt => Sys2Proof.Machine.execAutoConfirmExpiry dt s
  | .trialTimeout dt => Sys2Proof.Machine.execTrialTimeout dt s
  | .jenynIdentify dt q => Sys2Proof.Machine.execJenynIdentify dt q s
  | .dfuDnload dt data written => Sys2Proof.Machine.execDfuDnload dt data written s
  | .dfuVerifyEnd dt readBack => Sys2Proof.Machine.execDfuVerifyEnd dt readBack s
  | .dfuGetstatus dt => Sys2Proof.Machine.execDfuGetstatus dt s
  | .dfuClrstatus dt => Sys2Proof.Machine.execDfuClrstatus dt s
  | .dfuGetstate dt => Sys2Proof.Machine.execDfuGetstate dt s
  | .dfuAbort dt => Sys2Proof.Machine.execDfuAbort dt s
  | .dfuUpload dt => Sys2Proof.Machine.execDfuUpload dt s
  | .dfuDetach dt => Sys2Proof.Machine.execDfuDetach dt s
  | .moraineEntry dt => Sys2Proof.Machine.execMoraineEntry dt s
  | .moraineFlashCopy dt bad => Sys2Proof.Machine.execMoraineFlashCopy dt bad s
  | .moraineReadFrom dt q data => Sys2Proof.Machine.execMoraineReadFrom dt q data s
  | .moraineClear dt q data => Sys2Proof.Machine.execMoraineClear dt q data s
  | .wearMeasure dt wear slack => Sys2Proof.Machine.execWearMeasure dt wear slack s
  | .sramScrub dt island array row verdict => Sys2Proof.Machine.execSramScrub dt island array row verdict s
  | .dramPatrol dt region verdict => Sys2Proof.Machine.execDramPatrol dt region verdict s
  | .coreSelfTest dt core passed => Sys2Proof.Machine.execCoreSelfTest dt core passed s
  | .coreRetire dt core cause => Sys2Proof.Machine.execCoreRetire dt core cause s
  | .sramRowRetire dt island array row cause corrected => Sys2Proof.Machine.execSramRowRetire dt island array row cause corrected s
  | .dramRegionRetire dt region cause lost => Sys2Proof.Machine.execDramRegionRetire dt region cause lost s
  | .gpioOutput dt q data levels => Sys2Proof.Machine.execGpioOutput dt q data levels s
  | .temperatureRead dt readings => Sys2Proof.Machine.execTemperatureRead dt readings s
  | .frameTransmitEnd dt port => Sys2Proof.Machine.execFrameTransmitEnd dt port s
  | .coreLoadAlert dt core => Sys2Proof.Machine.execCoreLoadAlert dt core s
  | .alwaysOnSupplyLoss dt => Sys2Proof.Machine.execAlwaysOnSupplyLoss dt s
  | .vbakLoss dt => Sys2Proof.Machine.execVbakLoss dt s
  | .recoveryButtonHold dt fitted => Sys2Proof.Machine.execRecoveryButtonHold dt fitted s

end Sys2Proof.Machine
end

