-- ==== Sys2Proof/Safety.lean ====
section
/-!
DEFINITION. The terms in which claims about the machine are stated: that a command runs, which entries and parts of the device it keeps,
which event sources it raises, and what holds of the fuses for ever.
-/
namespace Sys2Proof.Machine

/-- A command answers a next state in which fuses and queue are as they were, and the device has a property. -/
def Runs (c : Instr) (s : State) (P : Dev → Prop) : Prop := ∃ d, exec c s = .next { s with dev := d } ∧ P d

/-- As `Runs`, for a command that may blow fuses: the fuses blown are those that the device's new entries show. -/
def RunsFuse (c : Instr) (s : State) (P : Dev → Prop) : Prop :=
  ∃ d, exec c s = .next { s with dev := d, fuses := s.fuses.burn d } ∧ P d

/-- A command answers the next state in which the device is the one given, and fuses and queue are as they were. -/
def Gives (c : Instr) (s : State) (d : Dev) : Prop := exec c s = .next { s with dev := d }

/-- As `Gives`, for a command that may blow fuses. -/
def GivesFuse (c : Instr) (s : State) (d : Dev) : Prop := exec c s = .next { s with dev := d, fuses := s.fuses.burn d }

/-- A whole write of an entry passes the checks of its protocol (R55, R57, R74, R529) and checks 1 to 8 of R572, and no part of that entry
is held for the peer (R60). -/
def Dev.admits (d : Dev) (q : Req) (idx sub : Nat) (data : List Byte) : Prop :=
  d.intake q (if q.peer.kind = 4 then 2 + sub else opWrite) (writePayload q idx sub 0 data.length data) = .execute
    ∧ (q.peer.kind = 4 → idx = 0x4602) ∧ d.writeCheck q.peer false idx sub = 0
    ∧ ∀ x ∈ d.led.parts, x.peer = q.peer → x.key = keyOf idx sub → x.staged = true

/-- A whole value, by WRITE or STAGE of an index as it stands in the request, passes what a request of that protocol passes (R53 to R57, R74) and
checks 1 to 8 of R572, and no part of that value is held for the peer (R60). -/
def Dev.takes (d : Dev) (q : Req) (stg : Bool) (i sub : Nat) (data : List Byte) : Prop :=
  d.intake q (if stg then opStage else opWrite) (writePayload q i sub 0 data.length data) = .execute
    ∧ d.writeCheck q.peer stg i sub = 0
    ∧ ∀ x ∈ d.led.parts, x.peer = q.peer → x.key = keyOf (writeTarget stg i).1 sub → x.staged ≠ (writeTarget stg i).2

/-- A write of a command entry is admitted, and carries the value `v` (checks 9 and 10 of R572). -/
def Dev.accepts (d : Dev) (q : Req) (idx sub : Nat) (data : List Byte) (v : DVal) : Prop :=
  d.admits q idx sub data ∧ valueOf idx sub data = .ok v

/-- The device as a command entry's effect finds it: the owner of a change set has been heard (R40), and parts held for the peer are
gone (R60). -/
def Dev.heard (d : Dev) (q : Req) : Dev := (d.touch q.peer).dropParts q.peer

/-- The answer to a write of an entry (R58): with status 0 it accepts every byte, else none. -/
def Dev.ack (d : Dev) (q : Req) (idx sub : Nat) (data : List Byte) (status : Nat) : Dev :=
  d.answer q opWrite status [(idx : Int), (sub : Int), if status = 0 then (data.length : Int) else 0]

/-- The entries that the event router changes on its own account: the pending bits (R65) and the emergency messages dropped (R72). -/
def isRouter (k : Key) : Bool := decide (k / 256 = 0x4815) || decide (k = 0x481800)

/-- Every entry of the dictionary but those listed, and those of the event router, is as it was. -/
def Keeps (d d' : Dev) (ks : List Key) : Prop := ∀ k, k ∉ ks → isRouter k = false → d'.get k = d.get k

/-- Every entry but those of the indexes listed, and those of the event router, is as it was. -/
def KeepsIdx (d d' : Dev) (is : List Nat) : Prop := ∀ k, k / 256 ∉ is → isRouter k = false → d'.get k = d.get k

/-- Exactly the sources listed have been raised: their pending bits are set, and every other pending bit is as it was (R65). -/
def Raises (d d' : Dev) (srcs : List Nat) : Prop :=
  ∀ n, n < 512 → d'.pendingEv n = (d.pendingEv n || srcs.contains n)

/-- The device less its dictionary, event router, clock and record of what left it: what most commands leave alone. -/
def Dev.rest (d : Dev) : Dev := { d with od := [], gen := [], out := [], ev := dev0.ev, clk := dev0.clk }

/-- What a command changes at most: the entries `ks`, the event sources `srcs` (with none raised, the whole event router is as it was),
what left the device, and the parts that `e`, which is `d'` with those parts as they were in `d`, restores. -/
def Only (d d' : Dev) (ks : List Key) (srcs : List Nat) (e : Dev) : Prop :=
  Keeps d d' ks ∧ Raises d d' srcs ∧ d'.clk = d.clk ∧ (srcs = [] → d'.ev = d.ev) ∧ e.rest = d.rest

/-- A unit has been retired (R547): the count of its class, the reserve where another takes its place, and Moraine entry 514. -/
def Retired (d d' : Dev) (cls unit cause : Nat) (repl : Option Nat) : Prop :=
  d'.nat (0x484100 + cls) = min (d.nat (0x484100 + cls) + 1) 0xFFFF
    ∧ d'.nat (0x484000 + cls) = (if repl.isSome then d.nat (0x484000 + cls) - 1 else d.nat (0x484000 + cls))
    ∧ ∃ x, d'.mor.offers = d.mor.offers ++ [x] ∧ x.code = 514 ∧ x.detail = cls * 256 + cause ∧ x.data0 = unit
        ∧ x.data1 = repl.getD 0xFFFFFFFF

/-- The sources that a retirement raises (R547): 504, and 505 for the last reserve of the class. -/
def retireSrcs (d : Dev) (cls : Nat) (repl : Option Nat) : List Nat :=
  if repl.isSome ∧ d.nat (0x484000 + cls) = 1 then [504, 505] else [504]

/-- What a fuse set may become: the counter does not fall, a programmed key stays, a revoked slot stays revoked (R511, R523). -/
def Fuses.Later (f g : Fuses) : Prop :=
  f.counter ≤ g.counter ∧ (∀ k, f.key1 = some k → g.key1 = some k) ∧ (∀ k, f.key2 = some k → g.key2 = some k)
    ∧ (∀ k, f.key3 = some k → g.key3 = some k) ∧ ∀ n, f.revoked.testBit n = true → g.revoked.testBit n = true

end Sys2Proof.Machine
end

