-- ==== Sys2Proof/Certificates/Slice0/Obligations.lean ====
section
/-!
DEFINITION. The statements about the machine. "Gives" and "Runs" say that the command answers a next state (Safety.lean); fuses and queue are
then as they were.
-/
open Sys2Proof Sys2Proof.Machine

/-- A step runs the command at the front of the queue on the state with the rest of the queue; with an empty queue it idles (the
model's choice, log 1). -/
def Obligations.StepRunsFront : Prop :=
  (∀ (c : Instr) (rest : List Instr) (s : State), s.pending = c :: rest → step s = exec c { s with pending := rest })
    ∧ ∀ s : State, s.pending = [] → step s = .next s

/-- Every command answers a next state, whatever the state: nothing in the table stops the machine. The commands waiting are as they were. -/
def Obligations.EveryCommandRuns : Prop :=
  ∀ (c : Instr) (s : State), ∃ t, exec c s = .next t ∧ t.pending = s.pending

/-- R511, R523: a fuse blown stays blown. For any fuses `f` that a state's fuses are later than, so are those after a step. -/
def Obligations.FusesNeverRevert : Prop :=
  ∀ (f : Fuses) (s t : State), f.Later s.fuses → step s = .next t → f.Later t.fuses

/-- A machine at reset has no fuse blown: every set of fuses that it may come to have is later (the factory state is the model's choice,
log 19). -/
def Obligations.ResetFuses : Prop := State.reset.fuses.Later State.reset.fuses ∧ State.reset.fuses.revoked = 0

/-- A commit or check is accepted from the owner of an open change set (R38, R41, R61): the set is locked, the request waits for the end
of its check, nothing is answered, and nothing else changes. By a write of the mode to 2010:01 (R51, R52), with the instant in 2010:02, the write is
answered and no COMMIT waits. -/
def Obligations.CommitAccepted : Prop :=
  (∀ (s : State) (dt : Nat) (q : Req) (i mode j : Nat) (c : Instr),
    (c, mode, j) ∈ [(.checkOnly dt q false, 1, 0), (.commitNextInstant dt q false, 2, 0), (.commitAtInstant dt q false i, 3, i)] →
    s.dev.intake q opCommit (leBytes 1 mode ++ zeros 5 ++ time80Bytes j) = .execute →
    q.peer.kind = 1 ∨ q.peer.kind = 2 → s.dev.nat 0x201003 = 1 → s.dev.cs.owner = some q.peer →
    Runs c s (fun d => d.nat 0x201003 = 2 ∧ d.cs.staged = s.dev.cs.staged ∧ d.cs.owner = some q.peer
      ∧ (∃ r, d.cs.req = some r ∧ r.peer = q.peer ∧ r.reqId = q.reqId ∧ r.mode = mode ∧ (mode = 3 → r.instant = i))
      ∧ d.led.waiting = (q.peer, q.reqId) :: s.dev.led.waiting ∧ d.out = s.dev.out
      ∧ Only (s.dev.pass dt) d [0x201003, 0x201007, 0x201008, 0x20100A] [] { d with cs := s.dev.cs, led := s.dev.led }))
  ∧ ∀ (s : State) (dt : Nat) (q : Req) (i mode : Nat) (c : Instr),
    (c, mode) ∈ [(.checkOnly dt q true, 1), (.commitNextInstant dt q true, 2), (.commitAtInstant dt q true i, 3)] →
    s.dev.accepts q 0x2010 1 (leBytes 1 mode) (.num (mode : Int)) → s.dev.nat 0x201003 = 1 → s.dev.cs.owner = some q.peer →
    Runs c s (fun d => d.nat 0x201003 = 2 ∧ d.cs.staged = s.dev.cs.staged ∧ d.cs.owner = some q.peer
      ∧ (∃ r, d.cs.req = some r ∧ r.peer = q.peer ∧ r.mode = mode ∧ r.asWrite ∧ (mode = 3 → r.instant = s.dev.nat 0x201002))
      ∧ d.led.waiting = s.dev.led.waiting ∧ d.out = replyOf q opWrite 0 [0x2010, 1, 1] :: s.dev.out
      ∧ Only (s.dev.pass dt) d [0x201003, 0x201007, 0x201008, 0x20100A] [] { d with cs := s.dev.cs, led := s.dev.led })

/-- A value is staged (R34, R38, R60, R61): one part, by STAGE of the live index or by WRITE of its twin, that passes R572 and the limits
of R39. The live value stays; the set is open and its writer owns it. -/
def Obligations.StagedWrite : Prop :=
  ∀ (s : State) (dt : Nat) (q : Req) (stg : Bool) (i idx sub : Nat) (b : List Byte) (m : Samples) (v : DVal),
    s.dev.takes q stg i sub b → q.peer.kind = 1 ∨ q.peer.kind = 2 →
    (stg = true ∧ i = idx) ∨ (stg = false ∧ i = idx + 0x8000) → 0x2000 ≤ idx → idx ≤ 0x5FFF → sub < 256 → b.length ≤ 1420 →
    valueOf idx sub b = .ok v → s.dev.upd.waiting = false → s.dev.pwr.due = none →
    (tabPut s.dev.cs.staged (keyOf idx sub) v).length ≤ 4096 →
    ((tabPut s.dev.cs.staged (keyOf idx sub) v).map (fun e => stagedSize e.1 e.2)).sum ≤ 16777216 →
    RunsFuse (.registerWrite dt q (if stg then opStage else opWrite) (writePayload q i sub 0 b.length b) m) s (fun d =>
      d.cs.staged = tabPut s.dev.cs.staged (keyOf idx sub) v ∧ d.cs.owner = some q.peer ∧ d.nat 0x201003 = 1
      ∧ d.out = { kind := .ledgerReply, whom := [q.peer.addr, q.peer.port, q.peer.kind],
                  flds := [(q.reqId : Int), (if stg then 3 else 2 : Int), 0, (i : Int), (sub : Int), (b.length : Int)] } :: s.dev.out
      ∧ Only (s.dev.pass dt) d [0x201003, 0x201007, 0x201008, 0x20100A] [] { d with cs := s.dev.cs, led := s.dev.led })

/-- R37: a live write of a writable entry of 1000 to 1FFF takes effect at once; what its Meaning puts in force later (a node ID, a bit rate, R74) is as it
was, with all else of the machine. An entry there has no twin, whose index is absent. -/
def Obligations.LiveWrite : Prop :=
  (∀ (s : State) (dt : Nat) (q : Req) (idx sub : Nat) (b : List Byte) (m : Samples) (v : DVal),
    s.dev.takes q false idx sub b → q.peer.kind ≠ 4 → idx < 0x2000 → sub < 256 → b.length ≤ 1420 →
    valueOf idx sub b = .ok v → s.dev.upd.waiting = false → s.dev.pwr.due = none →
    RunsFuse (.registerWrite dt q opWrite (writePayload q idx sub 0 b.length b) m) s (fun d =>
      d.get (keyOf idx sub) = v ∧ tabGet d.nvDue (keyOf idx sub) = some v ∧ d.out = replyOf q opWrite 0 [(idx : Int), sub, b.length] :: s.dev.out ∧ Only (s.dev.pass dt) d [keyOf idx sub] [] { d with cs := s.dev.cs, led := s.dev.led, nvDue := s.dev.nvDue }))
  ∧ ∀ (d : Dev) (p : Peer) (idx sub : Nat), 0x1000 ≤ idx → idx < 0x2000 → d.writeCheck p false (idx + 0x8000) sub = 3

/-- ABORT (R48, R52) by the owner, before the last 2 ms: nothing is staged any more and nobody owns the set. The owner's timeout does the
same by itself, raises event source 13 and writes a Moraine entry (R40), once the owner has sent no request for the peer timeout, not before; a
COMMIT whose check is running is answered with NO_CHANGESET. -/
def Obligations.AbortDiscards : Prop :=
  (∀ (s : State) (dt : Nat) (q : Req), s.dev.intake q opAbort [] = .execute → q.peer.kind = 1 ∨ q.peer.kind = 2 →
    (s.dev.nat 0x201003 = 1 ∨ s.dev.nat 0x201003 = 3 ∧ (s.dev.pass dt).tooLate = false) → s.dev.cs.owner = some q.peer →
    s.dev.upd.waiting = false → s.dev.pwr.due = none →
    Runs (.abort dt q false) s (fun d => d.nat 0x201003 = 0 ∧ d.nat 0x201004 = 0 ∧ d.nat 0x201005 = 0 ∧ d.cs = noSet
      ∧ d.nat 0x201007 = 0 ∧ d.oct 0x201008 = zeros 20 ∧ d.out = { kind := .ledgerReply, whom := [q.peer.addr, q.peer.port, q.peer.kind], flds := [(q.reqId : Int), 5, 0] } :: s.dev.out
      ∧ Only (s.dev.pass dt) d [0x201003, 0x201004, 0x201005, 0x201007, 0x201008, 0x20100A] [] { d with cs := s.dev.cs, led := s.dev.led }))
  ∧ (∀ (s : State) (dt : Nat), s.dev.clk.now + dt < s.dev.cs.lastReq + s.dev.nat 0x203003 * secT → Gives (.changesetOwnerTimeout dt) s (s.dev.pass dt))
  ∧ (∀ (s : State) (dt : Nat), s.dev.nat 0x201003 = 1 ∨ s.dev.nat 0x201003 = 3 → (s.dev.pass dt).tooLate = false → s.dev.upd.waiting = false →
    s.dev.pwr.due = none → s.dev.cs.lastReq + s.dev.nat 0x203003 * secT ≤ s.dev.clk.now + dt →
    Runs (.changesetOwnerTimeout dt) s (fun d => d.nat 0x201003 = 0 ∧ d.cs = noSet ∧ (∃ e, d.mor.offers = s.dev.mor.offers ++ [e] ∧ e.code = 13 ∧ e.sev = 2
          ∧ e.data0 = Config.ownerDatum (s.dev.oct 0x201008) % 2 ^ 32)
      ∧ Only (s.dev.pass dt) d [0x201003, 0x201004, 0x201005, 0x201007, 0x201008, 0x20100A] [13] { d with cs := s.dev.cs, mor := s.dev.mor }))
  ∧ ∀ (s : State) (dt : Nat) (r : CommitReq), s.dev.nat 0x201003 = 2 → s.dev.cs.req = some r → s.dev.upd.waiting = false →
    s.dev.pwr.due = none → s.dev.cs.lastReq + s.dev.nat 0x203003 * secT ≤ s.dev.clk.now + dt →
    Runs (.changesetOwnerTimeout dt) s (fun d => d.nat 0x201003 = 0 ∧ d.cs = noSet ∧ d.out = (if r.asWrite then [] else [replyOf { peer := r.peer, reqId := r.reqId } opCommit 0x0F [0x0F, 0, 0]]) ++ s.dev.out
      ∧ (∃ e, d.mor.offers = s.dev.mor.offers ++ [e] ∧ e.code = 13 ∧ e.sev = 2 ∧ e.data0 = Config.ownerDatum (s.dev.oct 0x201008) % 2 ^ 32)
      ∧ Only (s.dev.pass dt) d [0x201003, 0x201004, 0x201005, 0x201007, 0x201008, 0x20100A] [13]
          { d with cs := s.dev.cs, mor := s.dev.mor, led := s.dev.led, out := s.dev.out })

/-- A check ends (R42, R45, R61). A rule of classes 1 to 5 that fails leaves the set open, with CLOSURE_FAILED and the offending entry in
2010:04 and 2010:05 and event source 12; a check that passes leaves it open (mode 1) or awaiting the first Closure instant at least 2 ms
away (mode 2). The request is answered. -/
def Obligations.CheckEnds : Prop :=
  ∀ (s : State) (dt : Nat) (d0 : Dev) (r : CommitReq), d0 = s.dev.pass dt → s.dev.nat 0x201003 = 2 → s.dev.cs.req = some r →
    (∀ cls k, d0.closure = some (cls, k) →
      Runs (.closureCheckEnd dt) s (fun d => d.nat 0x201003 = 1 ∧ d.num 0x201004 = 0x10 ∧ d.num 0x201005 = (k * 256 + cls : Nat)
        ∧ d.cs.staged = s.dev.cs.staged ∧ d.cs.req = none ∧ (r.asWrite = false → d.out.head? = some (replyOf { peer := r.peer, reqId := r.reqId } opCommit 0x10 [0x10, (k * 256 + cls : Nat), 0]))
        ∧ Only (s.dev.pass dt) d [0x201003, 0x201004, 0x201005, 0x201007, 0x201008, 0x20100A] [12] { d with cs := s.dev.cs, led := s.dev.led }))
    ∧ (d0.closure = none → r.mode = 1 →
      Runs (.closureCheckEnd dt) s (fun d => d.nat 0x201003 = 1 ∧ d.num 0x201004 = 0 ∧ d.num 0x201005 = 0
        ∧ d.cs.staged = s.dev.cs.staged ∧ Only (s.dev.pass dt) d [0x201003, 0x201004, 0x201005, 0x201007, 0x201008, 0x20100A] [] { d with cs := s.dev.cs, led := s.dev.led }))
    ∧ (d0.closure = none → r.mode = 2 →
      Runs (.closureCheckEnd dt) s (fun d => d.nat 0x201003 = 3 ∧ d.num 0x201004 = 0 ∧ d.cs.staged = s.dev.cs.staged
        ∧ (∃ t, d.cs.instant = some (s.dev.noTime, t) ∧ t % 20000000 = 0 ∧ d0.instantNow s.dev.noTime + 2000000 ≤ t
            ∧ t < d0.instantNow s.dev.noTime + 22000000)
        ∧ Only (s.dev.pass dt) d [0x201003, 0x201004, 0x201005, 0x201007, 0x201008, 0x20100A] [] { d with cs := s.dev.cs, led := s.dev.led }))

/-- A commit is applied (R46, R47, R51): staged IRQ masks and EMCY masks (4810 to 4814) are live, the set is closed, the count advances
and event source 11 is raised; the station settings of the RTCM streams are those in force. -/
def Obligations.CommitApplies : Prop :=
  ∀ (s : State) (dt : Nat) (m : Samples), s.dev.nat 0x201003 = 3 → s.dev.upd.waiting = false → s.dev.pwr.due = none → s.dev.role ≠ 2 →
    (∀ e ∈ s.dev.cs.staged, 0x481001 ≤ e.1 ∧ e.1 ≤ 0x481410 ∧ 1 ≤ e.1 % 256 ∧ e.1 % 256 ≤ 16) →
    RunsFuse (.commitApply dt m) s (fun d =>
      (∀ k, isRouter k = false → k ∉ [0x201003, 0x201006, 0x201007, 0x201008, 0x201009, 0x20100A] →
        d.get k = s.dev.cs.staged.foldl (fun (v : DVal) e => if e.1 = k then e.2 else v) (s.dev.get k))
      ∧ d.nat 0x201003 = 0 ∧ d.cs = noSet ∧ d.nat 0x201006 = min (s.dev.nat 0x201006 + 1) 0xFFFFFFFF
      ∧ Raises s.dev d [11] ∧ d.clk = (s.dev.pass dt).clk ∧ d.rx = { s.dev.rx with station := (s.dev.pass dt).stationSet }
      ∧ { d with cs := s.dev.cs, nvDue := s.dev.nvDue, rx := s.dev.rx }.rest = (s.dev.pass dt).rest)

/-- What the Ledger service does by itself (R49, R57, R60, R63, R68): a peer's part buffer or a kept response is discarded when its time has
run, a lease runs out with event source 14, the settings store takes the values that wait, and a change of port or port enable takes effect. A new subscriber takes
the lowest free slot for a range of sources (R68); what waits for a slot leaves in one frame where it has at most 71 records (R69, R70). -/
def Obligations.LedgerHousekeeping : Prop :=
  (∀ (s : State) (dt : Nat) (d : Dev), d = s.dev.pass dt →
    (∀ p b, b ∈ d.led.parts → b.peer = p → b.at_ + d.nat 0x203003 * secT ≤ d.clk.now → Gives (.partBufferTimeout dt p) s { d with led := { d.led with parts := d.led.parts.filter (fun b => b.peer != p) } })
    ∧ (∀ p n, Gives (.responseCacheExpiry dt p n) s
        { d with led := { d.led with cache := d.led.cache.filter (fun c => !(c.peer == p && c.reqId == n && decide (c.at_ + 2 * secT ≤ d.clk.now))) } })
    ∧ (∀ (n : Fin 16) x, tabGet d.ev.subs n.val = some x → x.leaseEnd ≤ d.clk.now →
        Runs (.leaseExpiry dt n) s (fun e => tabGet e.ev.subs n.val = none
          ∧ (∀ j, j ≠ n.val → (tabGet e.ev.subs j).map (·.mask) = (tabGet d.ev.subs j).map (·.mask))
          ∧ Only d e ((List.range 16).map (0x481701 + ·)) [14] e))
    ∧ (d.up 2 → d.nvDue ≠ [] → Runs (.settingsStoreWrite dt none) s (fun e => e.nvDue = []
        ∧ (∀ k, tabGet e.nv k = d.nvDue.foldl (fun v x => if x.1 = k then some x.2 else v) (tabGet d.nv k))
        ∧ Only d e [] [] { e with nv := d.nv, nvDue := d.nvDue }))
    ∧ ∀ v t rest, t + secT ≤ d.clk.now → (d.led.change = (1, v, t) :: rest →
          Gives (.ledgerPortChangeEffect dt) s { d with led := { d.led with port := v, change := rest } })
      ∧ (d.led.change = (2, v, t) :: rest →
          Gives (.ledgerPortChangeEffect dt) s { d with led := { d.led with enable := v, change := rest } }))
  ∧ ((∀ (s : State) (dt : Nat) (q : Req) (first last n : Nat), q.peer.kind = 1 ∨ q.peer.kind = 2 →
    s.dev.intake q opSubscribe (leBytes 2 first ++ leBytes 2 last ++ leBytes 1 1 ++ leBytes 3 0) = .execute → first ≤ last → last ≤ 511 → s.dev.ev.subs.find? (fun e => e.2.peer == q.peer) = none → tabFree s.dev.ev.subs 16 = some n →
    Runs (.ledgerSubscribe dt q first last 1 0) s (fun e =>
      (∃ x, tabGet e.ev.subs n = some x ∧ x.peer = q.peer ∧ (∀ i, x.mask.testBit i = decide (first ≤ i ∧ i ≤ last)) ∧ x.recs = []
        ∧ x.leaseEnd = s.dev.clk.now + dt + s.dev.nat 0x203004 * secT)
      ∧ (∀ j, j ≠ n → tabGet e.ev.subs j = tabGet s.dev.ev.subs j)
      ∧ e.out = { kind := .ledgerReply, whom := [q.peer.addr, q.peer.port, q.peer.kind],
                  flds := [(q.reqId : Int), 6, 0, (n : Int), (s.dev.nat 0x203004 * 1000 : Nat)] } :: s.dev.out
      ∧ Keeps s.dev e ((List.range 16).map (0x481701 + ·)) ∧ Raises s.dev e []
      ∧ { e with cs := s.dev.cs, led := s.dev.led }.rest = s.dev.rest))
  ∧ ∀ (s : State) (dt : Nat) (n : Fin 16) (x : Subscriber) (sent : List Nat), s.dev.up 8 → s.dev.up 7 → tabGet s.dev.ev.subs n.val = some x →
    x.recs ≠ [] → x.recs.length ≤ 71 → sent = x.sentAt.filter (fun t => decide (s.dev.clk.now + dt < t + secT)) → sent.length < 1000 →
    Gives (.notifySend dt n) s { s.dev.pass dt with
      ev := { s.dev.ev with subs := tabPut s.dev.ev.subs n.val { x with sentAt := (s.dev.clk.now + dt) :: sent, seq := (x.seq + 1) % 2 ^ 32, recs := [] } },
      out := { kind := .notify, whom := [x.peer.addr, x.peer.port, x.peer.kind]
               flds := [(x.seq : Int), 0, (x.recs.length : Int), (x.lost : Int)] ++ x.recs.flatMap recFields } :: s.dev.out })

/-- Writing 1 to bits of 4815 clears just these (R65); a write of 2030 is live at once in the dictionary, and the port and its enable
follow a second later (R63). -/
def Obligations.RouterAndPortWrites : Prop :=
  ∀ (s : State) (dt : Nat) (q : Req) (sub : Nat) (data : List Byte) (v : Int),
    (s.dev.accepts q 0x4815 sub data (.num v) → 1 ≤ sub → sub ≤ 16 →
      Runs (.pendingClear dt q sub data) s (fun e =>
        (∀ b, e.bit (0x481500 + sub) b = (s.dev.bit (0x481500 + sub) b && !v.toNat.testBit b))
        ∧ (∀ k, k ≠ 0x481500 + sub → e.get k = s.dev.get k)
        ∧ e.out.head? = some (replyOf q opWrite 0 [0x4815, sub, data.length])
        ∧ { e with cs := s.dev.cs, led := s.dev.led }.rest = s.dev.rest))
    ∧ (s.dev.accepts q 0x2030 sub data (.num v) → 1 ≤ sub → sub ≤ 4 →
      Runs (.ledgerConfigWrite dt q sub data) s (fun e => e.num (keyOf 0x2030 sub) = v
        ∧ tabGet e.nvDue (keyOf 0x2030 sub) = some (.num v)
        ∧ e.led.change = s.dev.led.change ++ (if sub ≤ 2 then [(sub, v.toNat, s.dev.clk.now + dt)] else [])
        ∧ e.led.port = s.dev.led.port ∧ e.led.enable = s.dev.led.enable
        ∧ Only (s.dev.pass dt) e [keyOf 0x2030 sub] [] { e with cs := s.dev.cs, led := s.dev.led, nvDue := s.dev.nvDue }))

/-- CANopen FD (R72, R74, R75): NMT commands move a port between its states, reset communication puts the settings of the port in
force, and heartbeat, TPDO1, TPDO2 and emergency messages leave on the ports whose state lets them; at the end of the inhibit time the
oldest emergency message that waits is sent and the time runs again, or with none waiting it is over. -/
def Obligations.CanPorts : Prop :=
  ∀ (s : State) (dt : Nat) (d : Dev), d = s.dev.pass dt → d.up 8 →
    (∀ p, (d.can p).nmt ≠ .initialisation →
      Gives (.nmtStartRemoteNode dt p) s (d.setCan p { d.can p with nmt := .operational })
      ∧ Gives (.nmtStopRemoteNode dt p) s (d.setCan p { d.can p with nmt := .stopped })
      ∧ Gives (.nmtEnterPreOperational dt p) s (d.setCan p { d.can p with nmt := .preOperational })
      ∧ Gives (.nmtResetCommunication dt p) s (d.setCan p
          { nmt := .preOperational, node := d.nat (keyOf (0x1E00 + p.val) 1), nom := d.nat (keyOf (0x1E00 + p.val) 2),
            dataR := d.nat (keyOf (0x1E00 + p.val) 3) })
      ∧ (d.nat 0x101700 ≠ 0 → d.dueIn (.heartbeat p.val) (msTicks (d.nat 0x101700)) →
        Gives (.canHeartbeat dt p) s ((d.mark (.heartbeat p.val) d.clk.now).emit .canHeartbeat [p.val, (d.can p).node] [(nmtCode (d.can p).nmt : Int)])))
    ∧ (d.dueIn .tpdo1 (100 * msT) ∨ d.lastOf .level ≠ some d.woLevel → Runs (.tpdo1Send dt) s (fun e =>
        { e with out := d.out } = (d.mark .tpdo1 d.clk.now).mark .level d.woLevel ∧ ∀ x, x ∈ e.out ↔ x ∈ d.out ∨ ∃ p : Fin 2,
        (d.can p).nmt = .operational ∧ d.bit (keyOf (0x1E00 + p.val) 4) 0
        ∧ x = { kind := .tpdo1, whom := [p.val, 0x180 + (d.can p).node],
                flds := [(d.errorRegister : Int), (d.woLevel : Int), (d.slotsOn.length : Int), (d.nat 0x201006 : Int)] }))
    ∧ (d.timeState ≠ 0 → d.lastOf .tpdo2 ≠ some (d.fleetNs / 1000000000) → Runs (.tpdo2Send dt) s (fun e =>
        { e with out := d.out } = d.mark .tpdo2 (d.fleetNs / 1000000000) ∧ ∀ x, x ∈ e.out ↔ x ∈ d.out ∨ ∃ p : Fin 2,
        (d.can p).nmt = .operational ∧ d.bit (keyOf (0x1E00 + p.val) 4) 1
        ∧ x = { kind := .tpdo2, whom := [p.val, 0x280 + (d.can p).node],
                flds := [((d.fleetNs / 1000000000 * 1000000000 : Nat) : Int), (d.timeState : Int)] }))
    ∧ (d.ev.inhibit → d.ev.inhibitAt + d.nat 0x101500 * 100 * usT ≤ d.clk.now →
    (d.ev.emcyWait = [] → Gives (.emcyInhibitExpiry dt) s { d with ev := { d.ev with inhibit := false } })
    ∧ ∀ src detail secs rest, d.ev.emcyWait = (src, detail, secs) :: rest → d.nat 0x101500 ≠ 0 →
      Runs (.emcyInhibitExpiry dt) s (fun e => e.ev = { d.ev with emcyWait := rest, inhibitAt := d.clk.now } ∧ { e with ev := d.ev, out := d.out } = d
        ∧ ∀ x, x ∈ e.out ↔ x ∈ d.out ∨ ∃ p : Fin 2, ((d.can p).nmt = .preOperational ∨ (d.can p).nmt = .operational)
          ∧ x = { kind := .emcy, whom := [p.val, (d.can p).node], flds := [0xFF00, (d.errorRegister : Int), src, detail, secs] }))

/-- An update of the active source, with its phase error `err` in 2^-16 ns, in ACQUIRING with no slew in progress (R79, R88, R90, R94). Below 1 µs it
is fed to the loop: I takes ω² τ e and r_loop is −(2 ζ ω e + I), within its clamp, and fleet time is continuous. From 1 ms on it is not fed: r is
held and the error is a candidate for a step. -/
def Obligations.ServoSteers : Prop :=
  ∀ (s : State) (dt src : Nat) (err : Int) (utc : Option Int) (d : Dev) (bw w zeta i : Rat), d = s.dev.pass dt → 1 ≤ src → src ≤ 3 →
    d.timeState = 2 → tabGet d.servo.due src = some (err, utc) → d.delivers src → d.bit 0x221104 src → d.nat 0x220004 = src →
    (∀ u, utc = some u → d.num 0x220009 = u) → d.servo.stepAt = none → d.bit 0x22000A 0 = false →
    bw = d.num (if src = 1 then 0x221002 else 0x221003) → w = 2 * circle * bw / 1000 → zeta = (d.num 0x221004 : Rat) / 1000 →
    i = d.servo.integ + w * w * d.tau * ((err : Rat) / 65536) →
    (err.natAbs < 65536000 → d.servo.first = false → d.servo.lockRun < 29 →
      Runs (.servoUpdate dt src) s (fun e => e.num 0x221102 = roundRat (-(2 * zeta * w * ((err : Rat) / 65536) + i) / 1000000000 * 2 ^ 48)
        ∧ ((e.num 0x221102 + d.servo.slewTerm).natAbs ≤ rLimit → e.servo.integ = i)
        ∧ (rLimit < (e.num 0x221102 + d.servo.slewTerm).natAbs → e.servo.integ = d.servo.integ)
        ∧ e.clk.rate = clampI rLimit (e.num 0x221102 + d.servo.slewTerm)
        ∧ e.fleet = d.fleet ∧ e.clk.tick = d.clk.tick ∧ e.servo.cands = [] ∧ e.servo.lastAt = some d.clk.now
        ∧ e.num 0x22000C = max (-2147483648) (min 2147483647 (err * 1000 / 65536))
        ∧ Keeps d e [0x22000C, 0x220005, 0x221102] ∧ e.ev = d.ev
        ∧ { e with servo := d.servo, frees := d.frees }.rest = d.rest))
    ∧ (65536000000 ≤ err.natAbs → d.servo.cands = [] → 2 ≤ d.nat 0x221008 →
      Runs (.servoUpdate dt src) s (fun e => e.clk = d.clk ∧ e.servo.cands = [err] ∧ e.servo.lockRun = 0 ∧ e.servo.integ = d.servo.integ
        ∧ e.servo.lastAt = some d.clk.now ∧ Only d e [0x22000C, 0x220005] [] { e with servo := d.servo, frees := d.frees }))

/-- A slew ends with its remainder at zero (R93). A step is applied at its instant (R95, R96): fleet time takes it, the scales keep
running without it, targets of armed comparators and timed actions, the instant of a commit and the receiver's offset move with it, and the count and
event source 34 record it. -/
def Obligations.SlewAndStep : Prop :=
  ∀ (s : State) (dt : Nat) (d : Dev), d = s.dev.pass dt →
    (d.bit 0x22000A 0 → d.timeState ≠ 0 → d.slewLeft = 0 →
      Runs (.slewEnd dt) s (fun e => e.bit 0x22000A 0 = false ∧ e.num 0x221103 = 0 ∧ e.servo.slewTerm = 0
        ∧ e.clk.rate = clampI rLimit (d.num 0x221102) ∧ e.fleet = d.fleet
        ∧ Keeps d e [0x22000A, 0x221103] ∧ Raises d e [36] ∧ { e with servo := d.servo }.rest = d.rest))
    ∧ (d.servo.stepAt ≠ none → 2 ≤ d.timeState →
      Runs (.stepApply dt) s (fun e => e.fleet = d.fleet + d.servo.stepSize ∧ e.eng = d.eng ∧ e.servo.stepAt = none
        ∧ e.bit 0x22000A 1 = false ∧ e.nat 0x220006 = (d.nat 0x220006 + 1) % 2 ^ 32 ∧ e.num 0x220008 = d.servo.stepSize / 65536
        ∧ e.clk.base = d.clk.base ∧ e.clk.rate = d.clk.rate
        ∧ (∀ n, n < 15 → e.num (cmpKey n 2)
            = if d.bit (cmpKey n 7) 0 then max 0 (d.num (cmpKey n 2) + d.servo.stepSize / 65536) else d.num (cmpKey n 2))
        ∧ (∀ a, a < 256 → e.num (actKey a 2)
            = if d.bit (actKey a 7) 0 then max 0 (d.num (actKey a 2) + d.servo.stepSize / 65536) else d.num (actKey a 2))
        ∧ (∀ t, d.cs.instant = some (false, t) → e.cs.instant = some (false, ((t : Int) + d.servo.stepSize / 65536).toNat))
        ∧ e.eng_ = { d.eng_ with gnssC := d.eng_.gnssC + d.servo.stepSize / 65536 }
        ∧ (∀ j t, tabGet d.tasks j = some t → t.deadline ≠ 0 →
            (tabGet e.tasks j).map (·.deadline) = some ((t.deadline : Int) + d.servo.stepSize / 65536).toNat)
        ∧ Keeps d e ([0x220006, 0x220007, 0x220008, 0x22000A, 0x22000B] ++ (List.range 15).map (fun n => cmpKey n 2)
            ++ (List.range 256).map (fun a => actKey a 2))
        ∧ Raises d e [34]
        ∧ { e with servo := d.servo, pps0 := d.pps0, pps1 := d.pps1, eng_ := d.eng_, tasks := d.tasks, cars := d.cars, cs := d.cs }.rest = d.rest))

/-- The EFC offload (R91), every 2210:0D seconds: the code moves by the mean loop rate, by at most 10^-9 and within 0 to 1,048,575, and goes to the cartridge; what moves
leaves r_loop, so that fleet time is continuous. -/
def Obligations.EfcOffloadMoves : Prop :=
  ∀ (s : State) (dt : Nat) (d : Dev) (gain mean delta : Rat) (want got : Int), d = s.dev.pass dt →
    d.timeState = 2 ∨ d.timeState = 3 → d.servo.rFrom + d.nat 0x22100D * secT ≤ d.clk.now → d.cart.efcGain ≠ 0 →
    gain = (d.cart.efcGain : Rat) / 1000000000000000000 → 
    mean = ((d.servo.rSum + d.num 0x221102 * ((d.clk.now - d.servo.rAt : Nat) : Int) : Int) : Rat)
      / ((d.clk.now - d.servo.rFrom : Nat) : Rat) / 281474976710656 →
    delta = max (-1 / 1000000000) (min (1 / 1000000000) mean) → want = d.num 0x221101 + roundRat (delta / gain) →
    got = max 0 (min 1048575 want) →
    Runs (.efcOffload dt) s (fun e => e.num 0x221101 = got
      ∧ e.num 0x221102 = d.num 0x221102 - roundRat (((got - d.num 0x221101 : Int) : Rat) * gain * 281474976710656)
      ∧ e.servo.rSum = 0 ∧ e.servo.rFrom = d.clk.now ∧ e.fleet = d.fleet ∧ { kind := .efcCode, flds := [got] } ∈ e.out
      ∧ Keeps d e [0x221101, 0x221102] ∧ Raises d e (if got = want then [] else [43]) ∧ { e with servo := d.servo }.rest = d.rest)

/-- Sources come and go (R89, R98, R100): with the active source lost and no other valid, LOCKED becomes HOLDOVER and r is kept; a source
that has delivered for its holdoff becomes active and ends the holdover; an error estimate over its threshold degrades it. -/
def Obligations.SourcesComeAndGo : Prop :=
  ∀ (s : State) (dt src : Nat) (d : Dev), d = s.dev.pass dt → 1 ≤ src → src ≤ 3 → d.up 8 → d.bit 0x22000A 0 = false →
    (d.timeState = 3 → d.nat 0x220004 = src → (∀ c, d.bit 0x221104 c = decide (c = src)) → d.lastHeard src + d.sourceGap src ≤ d.clk.now →
      Runs (.sourceTimeout dt src) s (fun e => e.timeState = 4 ∧ e.nat 0x220004 = 0 ∧ e.bit 0x221104 src = false
        ∧ e.servo.holdAt = d.clk.now ∧ e.servo.err0 = d.nat 0x220005
        ∧ Only d e [0x220001, 0x220004, 0x221104] [38, 32] { e with servo := d.servo, frees := d.frees }))
    ∧ (d.timeState = 4 → d.nat 0x220004 = 0 → (∀ c, d.bit 0x221104 c = false) → d.servo.everValid.testBit src →
      BitVec.ofNat 8 src ∈ (d.oct 0x221001).takeWhile (fun c => c != 0) → d.ranHoldoff src →
      Runs (.sourceHoldoffExpiry dt src) s (fun e => e.timeState = 2 ∧ e.nat 0x220004 = src ∧ e.bit 0x221104 src
        ∧ Only d e [0x220001, 0x220004, 0x220005, 0x221104] [37, 32] { e with servo := d.servo }))
    ∧ (d.timeState = 4 → d.nat 0x22100C < d.estError →
      Gives (.holdoverDegrade dt) s ((((d.setN 0x220005 (d.estError : Nat)).setN 0x220001 5).raise 32 0x405).raise 39 0))

/-- The reference cartridge (R84, R113 to R118): a failure condition takes fleet time to NO TIME and islands 3 and 4 down, with event source 45; the
end of all of them begins the second after which it is valid; then it is read, with event source 44 after an insertion, and 46 for an identity or
life log that is not valid; warm-up ends; every 60 operating minutes the older life record is written, and 49 tells of a write that failed. -/
def Obligations.CartridgeLife : Prop :=
  ∀ (s : State) (dt : Nat) (d : Dev), d = s.dev.pass dt →
    (∀ seated missing count, seated = false ∨ 10000 ≤ missing ∨ count < 99990 ∨ 100010 < count →
      d.cart.clockOk → d.up 10 = false → d.timeState ≠ 0 →
      Runs (.cartridgeFail dt seated missing count) s (fun e => e.timeState = 0 ∧ e.cart.clockOk = false ∧ e.pendingEv 45
        ∧ e.nat 0x226001 = (if seated then 3 else 0) ∧ e.up 3 = false ∧ e.up 4 = false
        ∧ KeepsIdx d e ([0x2020, 0x2200, 0x2211, 0x2222, 0x2260, 0x2470, 0x4201, 0x4210] ++ (List.range 15).map (0x2280 + ·))
        ∧ { e with cart := d.cart, servo := d.servo, pps0 := d.pps0, pps1 := d.pps1, pwr := d.pwr, cap := d.cap }.rest = d.rest))
    ∧ (∀ missing count, missing < 10000 → 99990 ≤ count → count ≤ 100010 → d.cart.goodAt = none →
      Gives (.cartridgeFail dt true missing count) s
        ({ d with cart := { d.cart with present := true, goodAt := some d.clk.now } }.setN 0x226001 1))
    ∧ (∀ image t, d.cart.clockOk = false → d.cart.goodAt = some t → t + secT ≤ d.clk.now → d.cart.counted = false →
      Runs (.cartridgeValid dt image) s (fun e => e.cart.present ∧ e.cart.clockOk ∧ e.cart.idValid = identityOk image
        ∧ (identityOk image → e.nat 0x226001 = if t + fieldN image 14 2 * secT ≤ d.clk.now then 2 else 1)
        ∧ (identityOk image = false → e.nat 0x226001 = 4 ∧ e.nat 0x221101 = 524288)
        ∧ (∀ slot seq min aging cycles, lifeRecord image = some (slot, seq, min, aging, cycles) → cycles < 65535 →
            e.cart.opMinutes = min ∧ e.num 0x226005 = aging ∧ e.nat 0x226006 = cycles + 1)
        ∧ Keeps d e [0x226001, 0x226002, 0x226003, 0x226004, 0x226005, 0x226006, 0x221101]
        ∧ Raises d e ((if d.cart.inserted then [44] else []) ++ if identityOk image ∧ (lifeRecord image).isSome then [] else [46])
        ∧ { e with cart := d.cart }.rest = d.rest))
    ∧ (∀ t, d.cart.clockOk → d.cart.warming → d.cart.goodAt = some t → t + d.cart.warmup * secT ≤ d.clk.now →
      Gives (.warmupEnd dt) s ({ d with cart := { d.cart with warming := false } }.setN 0x226001 (if d.cart.idValid then 2 else 4)))
    ∧ ∀ written, d.cart.clockOk → d.cart.lifeAt + 3600 * secT ≤ d.clk.now →
      Runs (.lifeRecordWrite dt written) s (fun e =>
        e.cart = { d.cart with
          opMinutes := d.cart.opMinutes + 60, lifeAt := d.clk.now
          lifeSeq := if written then (d.cart.lifeSeq + 1) % 2 ^ 32 else d.cart.lifeSeq
          lifeSlot := if written then 1 - d.cart.lifeSlot else d.cart.lifeSlot }
        ∧ e.num 0x226005 = d.efcTrend.getD (d.num 0x226005) ∧ e.nat 0x226003 = (d.cart.opMinutes + 60) / 60
        ∧ Keeps d e [0x226003, 0x226004, 0x226005, 0x226006] ∧ e.clk = d.clk ∧ (written = false → e.pendingEv 49)
        ∧ (∀ n, n < 512 → n ∉ [47, 48, 49] → e.pendingEv n = d.pendingEv n) ∧ { e with cart := d.cart }.rest = d.rest)

/-- PPS outputs and comparators (R108 to R111, R119, R120): the message of the pulse within the coming second is completed and stored;
the pulse is given at its whole second and 2242 takes its actual error; a comparator is armed by its target, and fires its event and its pulse; a one-shot disarms. -/
def Obligations.PulsesAndComparators : Prop :=
  ∀ (s : State) (dt : Nat) (d : Dev), d = s.dev.pass dt →
    (∀ p, d.ppsOn p → d.num (ppsSet p 4) * 65536 / 10 ≤ d.fleet →
      Runs (.ppsMessage dt p) s (fun e => ∃ sec, (e.pps p).nextSec = some sec ∧ d.fleet ≤ d.ppsTarget p sec
        ∧ d.ppsTarget p sec ≤ d.fleet + secU ∧ (e.pps p).qerr = d.qerr (d.ppsTarget p sec)
        ∧ e.oct (0x224201 + p.val) = d.ppsBytes p (d.ppsTarget p sec) (d.qerr (d.ppsTarget p sec)) (d.pps p).stepped
        ∧ Only d e [0x224201 + p.val] [] (e.setPps p (d.pps p))))
    ∧ (∀ p sec, d.ppsOn p → (d.pps p).nextSec = some sec →
      Runs (.ppsPulse dt p) s (fun e => (e.pps p).nextSec = none ∧ (e.pps p).lastEdge = some (d.ppsTarget p sec)
        ∧ e.oct (0x224201 + p.val) = actualError (d.oct (0x224201 + p.val)) (d.pps p).qerr (d.qerr (d.ppsTarget p sec))
        ∧ e.out = { kind := .ppsPulse, whom := [p.val]
                    flds := [(sec : Int), d.num (ppsSet p 2), d.num (ppsSet p 3), d.qerr (d.ppsTarget p sec)] } :: d.out
        ∧ Only d e [0x224201 + p.val] [] (e.setPps p (d.pps p))))
    ∧ (∀ q (n : Fin 15) data (t : Int), d.accepts q (0x2280 + n.val) 2 data (.num t) → d.nat (cmpKey n 1) ≠ 0 → d.timeState ≠ 0 →
      (d.fleetNs : Int) < t →
      Runs (.comparatorArm dt q n data) s (fun e => e.num (cmpKey n 2) = t ∧ e.bit (cmpKey n 7) 0 ∧ e.bit (cmpKey n 7) 2 = false
        ∧ e.cmpLate.testBit n.val = false ∧ e.out.head? = some (replyOf q opWrite 0 [(0x2280 + n.val : Nat), 2, data.length])
        ∧ Only d e [cmpKey n 2, cmpKey n 7] [] { e with cs := d.cs, led := d.led, cmpLate := d.cmpLate }))
    ∧ (∀ q (n : Fin 15) data (t : Int), d.accepts q (0x2280 + n.val) 2 data (.num t) → d.nat (cmpKey n 1) = 0 →
      Runs (.comparatorArm dt q n data) s (fun e => e.bit (cmpKey n 7) 0 = false ∧ e.bit (cmpKey n 7) 2
        ∧ Only d e [cmpKey n 2, cmpKey n 7] [66] { e with cs := d.cs, led := d.led }))
    ∧ ∀ (n : Fin 15), d.bit (cmpKey n 7) 0 → d.nat (cmpKey n 1) = 1 → d.nat (cmpKey n 4) = 3 → d.quiet = false → d.timeState ≠ 0 →
      d.num (cmpKey n 2) * 65536 ≤ d.fleet →
      Runs (.comparatorFire dt n) s (fun e => e.bit (cmpKey n 7) 0 = false ∧ e.bit (cmpKey n 7) 1 = d.cmpLate.testBit n.val
        ∧ { kind := .toutPulse, whom := [d.nat (cmpKey n 5)], flds := [(d.fleetNs : Int)] } ∈ e.out
        ∧ Only d e [cmpKey n 7] [51 + n.val] { e with cmpLate := d.cmpLate })

/-- PTP as slave (R88, R101, R105, R106): Sync and Follow_Up give the offset from the parent, Delay_Req and Delay_Resp the path delay; an
Announce of a better clock makes the port UNCALIBRATED with its sender as parent, and its loss makes the source invalid. Message
exchange is that of IEEE 1588-2019 (log 29). -/
def Obligations.PtpSlave : Prop :=
  ∀ (s : State) (dt : Nat) (p : Fin 2) (m : PtpMsg) (a : Announce) (d : Dev), d = s.dev.pass dt →
    (d.fromParent p m →
      Gives (.ptpSyncReceive dt p m) s (d.setPtp p { d.ptp p with
        syncSeq := m.seq, syncT2 := d.rxStamp p, syncCorr := m.corr, syncOpen := true, syncAt := d.clk.now
        syncLog := if m.logInt = 0x7F then d.num (ptpSet p 7) else m.logInt }))
    ∧ (d.fromParent p m → (d.ptp p).syncOpen → m.seq = (d.ptp p).syncSeq → d.portState p = 9 → d.nat (ptpSet p 1) = 1 →
      ∀ off, off = (d.ptp p).syncT2 - m.origin - d.num 0x222208 - (d.ptp p).syncCorr - m.corr - d.num (ptpSet p 0x0A) * 65536 / 1000 →
      Gives (.ptpFollowUpReceive dt p m) s
        (((d.setPtp p { d.ptp p with syncOpen := false }).setN 0x222207 off).offerTime (2 + p.val) off none))
    ∧ (d.ptpRuns p → d.portState p = 8 ∨ d.portState p = 9 → d.nat (ptpSet p 1) = 1 →
      d.dueIn (.delay p.val) (logTicks (d.num (ptpSet p 8))) →
      Gives (.ptpDelayReqInterval dt p) s (((d.mark (.delay p.val) d.clk.now).setPtp p { d.ptp p with
        txDelay := ((d.ptp p).txDelay + 1) % 65536, t3 := d.txStamp p, delayOpen := true }).emit .ptpDelayReq (d.ptpOut p none)
          [(((d.ptp p).txDelay + 1) % 65536 : Nat)]))
    ∧ (d.fromParent p m → (d.ptp p).delayOpen → m.seq = (d.ptp p).txDelay →
      Gives (.ptpDelayRespReceive dt p m) s ((d.setPtp p { d.ptp p with delayOpen := false }).setN 0x222208
        ((d.num 0x222207 + d.num 0x222208 + (m.origin - (d.ptp p).t3 - m.corr)) / 2)))
    ∧ (d.ptpRuns p → a.domain = d.nat (ptpSet p 3) → a.utcValid = false → (d.ptp p).best = none → (d.ptp (1 - p)).best = none →
      d.nat (ptpSet p 2) = 2 → d.portState p = 4 →
      Runs (.ptpAnnounceReceive dt p a) s (fun e => (e.ptp p).best = some a ∧ e.portState p = 8 ∧ e.oct 0x222204 = beBytes 10 a.src ∧ e.oct 0x222205 = beBytes 8 a.gm
        ∧ e.nat 0x222206 = a.steps + 1 ∧ KeepsIdx d e [0x2222] ∧ e.clk = d.clk
        ∧ e.lastOf (.heard p.val) = some d.clk.now ∧ { e.setPtp p (d.ptp p) with marks := d.marks }.rest = d.rest))
    ∧ (d.ptpOn p → (d.ptp p).best = some a → d.bit 0x22000A 0 = false →
      d.dueIn (.heard p.val) (d.nat (ptpSet p 9) * logTicks (d.num (ptpSet p 6))) →
      Runs (.announceReceiptTimeout dt p) s (fun e => (e.ptp p).best = none ∧ e.bit 0x221104 (2 + p.val) = false
        ∧ KeepsIdx d e [0x2200, 0x2211, 0x2222] ∧ e.clk = d.clk ∧ { e.setPtp p (d.ptp p) with servo := d.servo, frees := d.frees }.rest = d.rest))

/-- PTP as master and in the peer delay mechanism (R101, R104, R106): what a port sends and answers, with its timestamps. An Announce leaves after the
states have been decided anew; it carries the device's own clock, or the parent's while the other port is SLAVE. -/
def Obligations.PtpMaster : Prop :=
  ∀ (s : State) (dt : Nat) (p : Fin 2) (m : PtpMsg) (d : Dev) (n : Nat), d = s.dev.pass dt → d.ptpRuns p →
    (d.portState p = 6 → d.nat (ptpSet p 1) = 1 → m.domain = d.nat (ptpSet p 3) →
      Gives (.ptpDelayReqReceive dt p m) s (d.emit .ptpDelayResp (d.ptpOut p (some 8)) [m.seq, d.rxStamp p, m.corr, m.src]))
    ∧ (d.portState p = 6 → d.dueIn (.sync p.val) (logTicks (d.num (ptpSet p 7))) → n = ((d.ptp p).txSync + 1) % 65536 →
      Gives (.ptpSyncInterval dt p) s ((((d.setPtp p { d.ptp p with txSync := n }).mark (.sync p.val) d.clk.now).emit
        .ptpSync (d.ptpOut p (some 7)) [n]).emit .ptpFollowUp (d.ptpOut p (some 7)) [n, d.txStamp p]))
    ∧ (∀ b, d.dueIn (.announce p.val) (logTicks (d.num (ptpSet p 6))) → b = (d.mark (.announce p.val) d.clk.now).bmca → b.portState p = 6 →
      b.portState (1 - p) ≠ 9 → n = ((b.ptp p).txAnn + 1) % 65536 →
      Gives (.ptpAnnounceInterval dt p) s ((b.setPtp p { b.ptp p with txAnn := n }).emit .ptpAnnounce (b.ptpOut p (some 6))
        [n, (b.nat (ptpSet p 4) : Int), b.ownQuality.1, b.ownQuality.2.1, Config.clockVariance, (b.nat (ptpSet p 5) : Int),
          beNat Config.clockIdentity, 0, b.ownQuality.2.2, b.num 0x220009, if b.servo.utcSeen then 1 else 0]))
    ∧ (∀ b a, d.dueIn (.announce p.val) (logTicks (d.num (ptpSet p 6))) → b = (d.mark (.announce p.val) d.clk.now).bmca → b.portState p = 6 →
      b.portState (1 - p) = 9 → (b.ptp (1 - p)).best = some a →
      n = ((b.ptp p).txAnn + 1) % 65536 →
      Gives (.ptpAnnounceInterval dt p) s ((b.setPtp p { b.ptp p with txAnn := n }).emit .ptpAnnounce (b.ptpOut p (some 6))
        [n, a.priority1, a.clkClass, a.accuracy, a.variance, a.priority2, a.gm, (a.steps + 1 : Nat), a.timeSource, a.utc,
          if a.utcValid then 1 else 0]))
    ∧ (d.nat (ptpSet p 1) = 2 →
      Gives (.ptpPdelayReqReceive dt p m) s ((d.emit .ptpPdelayResp (d.ptpOut p none) [m.seq, d.rxStamp p, m.src]).emit
        .ptpPdelayRespFollowUp (d.ptpOut p none) [m.seq, d.txStamp p, m.src]))
    ∧ ((d.ptp p).pOpen → m.seq = (d.ptp p).txDelay →
      Gives (.ptpPdelayRespReceive dt p false m) s (d.setPtp p { d.ptp p with pt2 := m.origin, pt4 := d.rxStamp p })
      ∧ Gives (.ptpPdelayRespReceive dt p true m) s
          ((d.setPtp p { d.ptp p with
            pOpen := false, linkDelay := ((d.ptp p).pt4 - (d.ptp p).pt1 - (m.origin - (d.ptp p).pt2)) / 2 }).setN 0x222208
            (((d.ptp p).pt4 - (d.ptp p).pt1 - (m.origin - (d.ptp p).pt2)) / 2)))

/-- Antenna feeds (R123, R124), notches (R126), the blanker (R127) and jamming indicators (R128 to R130): J/N is the mean over 100 ms, a notch engages
on a component above the threshold and releases 1 s after it has fallen, and a sample above the blanker's threshold is zeroed with those of its hold. -/
def Obligations.FeedsNotchesJamming : Prop :=
  ∀ (s : State) (dt : Nat) (d : Dev), d = s.dev.pass dt → d.up 4 →
    (∀ (a : Fin 2) (i : Nat), d.flag (feedKey 1 a.val) →
      (1200 < i → d.nat (feedKey 3 a.val) = 1 ∨ d.nat (feedKey 3 a.val) = 2 →
        Runs (.feedShort dt a i) s (fun e => e.nat (feedKey 3 a.val) = 3 ∧ e.nat (feedKey 5 a.val) = i
          ∧ e.out.head? = some { kind := .feedBias, whom := [a.val], flds := [0] } ∧ e.lastOf (.feed a.val) = some d.clk.now
          ∧ Only d e [feedKey 3 a.val, feedKey 5 a.val] [110] { e with marks := d.marks }))
      ∧ (d.nat (feedKey 3 a.val) = 3 → d.dueIn (.feed a.val) (10 * secT) → 50 ≤ i → i ≤ 1200 →
        Runs (.feedRetry dt a i) s (fun e => e.nat (feedKey 3 a.val) = 1 ∧ e.nat (feedKey 5 a.val) = i
          ∧ Only d e [feedKey 3 a.val, feedKey 5 a.val] [111] { e with marks := d.marks }))
      ∧ (d.nat (feedKey 3 a.val) = 3 → d.dueIn (.feed a.val) (10 * secT) → 1200 < i →
        Runs (.feedRetry dt a i) s (fun e => e.nat (feedKey 3 a.val) = 3
          ∧ e.out.head? = some { kind := .feedBias, whom := [a.val], flds := [0] } ∧ e.lastOf (.feed a.val) = some d.clk.now
          ∧ Only d e [feedKey 5 a.val] [] { e with marks := d.marks }))
      ∧ (d.nat (feedKey 3 a.val) = 1 → i < 50 →
        Runs (.feedStateChange dt a i) s (fun e => e.nat (feedKey 3 a.val) = 2 ∧ e.nat (feedKey 5 a.val) = i
          ∧ Only d e [feedKey 3 a.val, feedKey 5 a.val] [110] e)))
    ∧ (∀ (p : Fin 6) (f level : Int) (n : Nat), f.natAbs ≤ 30000000 → 10 * d.num (bandSet p.val 9) < level → n < 4 →
      (∀ k, k < 4 → d.nat (bandKey p.val (5 + k)) = 0) → d.nat (bandSet p.val (1 + n)) = 1 → (∀ k, k < n → d.nat (bandSet p.val (1 + k)) ≠ 1) →
      Runs (.notchEngage dt p f level) s (fun e => e.num (bandKey p.val (1 + n)) = f ∧ e.nat (bandKey p.val (5 + n)) = 1
        ∧ e.rx = { d.rx with bands := e.rx.bands } ∧ Only d e [bandKey p.val (1 + n), bandKey p.val (5 + n)] [108] { e with rx := d.rx }))
    ∧ (∀ (p : Fin 6) (n : Fin 4) t, d.nat (bandKey p.val (5 + n.val)) = 1 → tabGet (d.band p.val).weak n.val = some t → t + secT ≤ d.clk.now →
      Runs (.notchRelease dt p n) s (fun e => e.nat (bandKey p.val (5 + n.val)) = 0
        ∧ Only d e [bandKey p.val (1 + n.val), bandKey p.val (5 + n.val)] [109] e))
    ∧ (∀ (b : Band) (thr hold m2 : Nat) (r : Rat), b.rms2 = some r → (thr * thr : Nat) * r < 100 * (m2 : Rat) →
      (b.blank true thr hold m2).bad = b.bad + 1 ∧ (b.blank true thr hold m2).hold = hold
        ∧ (b.blank false thr hold m2).bad = b.bad ∧ ∀ k, k ≤ hold → ((List.replicate k 0).foldl (Band.blank true thr hold) (b.blank true thr hold m2)).bad
            = b.bad + 1 + k)
    ∧ ∀ (p : Fin 6) (b : BandSample) (jn : Nat),
      jn = logFloor 40 (meanOf (slide (d.band p.val).jn d.clk.now (msTicks 100) (b.power + b.notched - 1))) → jn ≤ 400 →
      (d.nat (bandKey p.val 0x0D) ≤ jn * 255 / 400 → p.val ∉ d.rx.jamUp →
        Runs (.jammingRise dt p b) s (fun e => e.nat (bandKey p.val 0x0A) = jn ∧ e.nat (bandKey p.val 9) = jn * 255 / 400
          ∧ e.nat (bandKey p.val 0x0E) = max (d.nat (bandKey p.val 0x0E)) (jn * 255 / 400) ∧ p.val ∈ e.rx.jamUp
          ∧ Only d e ([1, 2, 3, 4, 9, 0x0A, 0x0B, 0x0C, 0x0E].map (bandKey p.val)) [96 + p.val] { e with rx := d.rx }))
      ∧ (∀ t, jn * 255 / 400 + 16 < d.nat (bandKey p.val 0x0D) → (d.band p.val).low = some t → t + secT ≤ d.clk.now → p.val ∈ d.rx.jamUp →
        Runs (.jammingClear dt p b) s (fun e => e.nat (bandKey p.val 9) = jn * 255 / 400 ∧ p.val ∉ e.rx.jamUp
          ∧ Only d e ([1, 2, 3, 4, 9, 0x0A, 0x0B, 0x0C, 0x0E].map (bandKey p.val)) [102 + p.val] { e with rx := d.rx }))

/-- The states of a tracking channel (R131 to R141): the allocator gives the first signal of its order that lacks a channel the lowest idle one,
which searches; a cell above the threshold in its dwell and in one of two verifications loads the channel, in PULL_IN; weak for 200 ms in LOCKED
leads to COAST with a slip, and the loops follow R139; the bounds of PULL_IN and COAST lead back to SEARCH; a search without detection waits 10 s. No
other channel changes. -/
def Obligations.ChannelStates : Prop :=
  ∀ (s : State) (dt : Nat) (c : Fin 416) (d : Dev) (x : Chan), d = s.dev.pass dt → d.up 4 → x = d.chan c.val →
    (∀ sky d1 y, d1 = d.seeSky sky → (d1.chan c.val).state = 0 → (∀ j, j < c.val → (d1.chan j).state ≠ 0) →
      (d1.claims sky).find? (fun z => !d1.hasSignal z.signal && ((d1.sibling 416 z).isSome || hasUnaided z.sig)) = some y →
      Runs (.channelAssign dt sky) s (fun e => (e.chan c.val).state = 1 ∧ (e.chan c.val).signal = y.signal
        ∧ (e.chan c.val).since = d.clk.now ∧ (∃ b, e.rx.queue = d1.rx.queue ++ [(c.val, b)]) ∧ e.nat 0x243006 = d1.rx.queue.length
        ∧ (∀ z ∈ d1.claims sky, d1.hasSignal z.signal = false → hasUnaided z.sig → chanBefore z y = false)
        ∧ (∀ j, j ≠ c.val → e.chan j = d1.chan j) ∧ Only d e [0x243006] [] { e with rx := d.rx }))
    ∧ (∀ un rest cb db power noise v1 v2 r, d.rx.queue = (c.val, un) :: rest → (∀ z ∈ rest, z.1 ≠ c.val) → x.state = 1 →
      d.rx.bankAt + d.searchTicks x.sig un ≤ d.clk.now → r = searchOf x.sig un →
      (noise ^ 100 * 10 ^ d.nat 0x243003 < power ^ 100 →
        noise ^ 100 * 10 ^ d.nat 0x243003 < v1 ^ 100 ∨ noise ^ 100 * 10 ^ d.nat 0x243003 < v2 ^ 100 → cb < r.bins → db < r.dopBins →
        Runs (.acqSearchComplete dt cb db power noise v1 v2) s (fun e => (e.chan c.val).state = 2 ∧ (e.chan c.val).since = d.clk.now
          ∧ (e.chan c.val).beta = 2 * circle * (x.dopp + ((db : Rat) - ((r.dopBins / 2 : Nat) : Rat)) * r.width)
          ∧ e.rx.queue = rest ∧ (∀ j, j ≠ c.val → e.chan j = d.chan j) ∧ Only d e [0x243006] [] { e with rx := d.rx, frees := d.frees }))
      ∧ (power ^ 100 ≤ noise ^ 100 * 10 ^ d.nat 0x243003 →
        Runs (.acqSearchComplete dt cb db power noise v1 v2) s (fun e => (e.chan c.val).state = 0
          ∧ e.rx.requeue = d.rx.requeue ++ [(d.clk.now + 10 * secT, x.signal)] ∧ e.rx.queue = rest
          ∧ (∀ j, j ≠ c.val → e.chan j = d.chan j) ∧ Only d e [0x243006] [] { e with rx := d.rx })))
    ∧ Gives (.signalRequeue dt) s { d with rx := { d.rx with requeue := d.rx.requeue.filter (fun r => decide (d.clk.now < r.1)) } }
    ∧ (∀ us d2 sync (k : Corr) w (t : Rat) cn, x.state = 4 → d.num 0x243001 - 20 ≤ x.elev → t = (d.coherentUs x.sig d2 : Rat) / 1000000 → 0 < t →
      0 < power2 k.n → power2 k.n < power2 k.p →
      cn = min (meanOf (slide x.cn0s d.clk.now secT ((logFloor 1000 ((power2 k.p - power2 k.n) / (power2 k.n * t)) : Nat) : Rat))).floor.toNat 65535 →
      x.weakAt = some w → w + 250000000 ≤ d.clk.now → cn < d.lossCn0 x.sig →
      Runs (.loopIntegration dt c us d2 sync k) s (fun e => (e.chan c.val).state = 5 ∧ (e.chan c.val).slip
        ∧ (e.chan c.val).since = d.clk.now ∧ (e.chan c.val).cn0 = cn
        ∧ (e.chan c.val).beta = (carrierLoop x (discriminators x t k.p.1 k.p.2 (power2 k.e) (power2 k.l) (d.loopSet x.sig 8)) t
            ((d.loopSet x.sig 2 : Rat) / 10) ((d.loopSet x.sig 5 : Rat) / 10) (decide (d.loopSet x.sig 1 = 3)) (decide (d.loopSet x.sig 3 = 2))).2.1
        ∧ (∀ j, j ≠ c.val → e.chan j = d.chan j) ∧ e.rx = { d.rx with chans := e.rx.chans }
        ∧ Only d e [] [] { e with rx := d.rx, frees := d.frees }))
    ∧ ∀ i n, (i, n) ∈ [(.pullInTimeout dt c, 2), (.coastTimeout dt c, 5)] → x.state = n →
      x.since + (if n = 2 then secT else 2 * secT) ≤ d.clk.now →
      (hasUnaided x.sig → Runs i s (fun e => (e.chan c.val).state = 1 ∧ (∃ b, e.rx.queue = d.rx.queue ++ [(c.val, b)])
        ∧ (∀ j, j ≠ c.val → e.chan j = d.chan j) ∧ Only d e [0x243006] [] { e with rx := d.rx }))
      ∧ (hasUnaided x.sig = false → (d.sibling c.val x) = none → Runs i s (fun e => (e.chan c.val).state = 0
        ∧ e.rx.requeue = d.rx.requeue ++ [(d.clk.now + 10 * secT, x.signal)]
        ∧ (∀ j, j ≠ c.val → e.chan j = d.chan j) ∧ Only d e [0x243006] [] { e with rx := d.rx }))

/-- The restarts of the receiver (R133): every active channel goes idle and the time to first fix runs again; cold forgets almanac and
ephemerides, warm the ephemerides. A shadow test ends, and no exclusion does. Reserve channels (R153 to R156): a channel with a memory error is
retired and the first free reserve waits to take its place at the next epoch; a shadow test of 10 s in which the reserve agreed with the channel
ends and retires nothing; one in which it did not goes on with a second reserve, loaded with the channel's state. -/
def Obligations.ReceiverRestarts : Prop :=
  (∀ (s : State) (dt : Nat) (q : Req) (n : Nat) (c : Instr),
    (n, c) ∈ [(1, .restartCold dt q), (2, .restartWarm dt q), (3, .restartHot dt q)] →
    s.dev.accepts q 0x2430 4 [BitVec.ofNat 8 n] (.num n) →
    Runs c s (fun e => e.rx.queue = [] ∧ e.rx.requeue = [] ∧ e.rx.shadow = none ∧ e.nat 0x243005 = 65535 ∧ e.rx.fixed = false
      ∧ e.rx.startAt = s.dev.clk.now + dt ∧ (∀ x ∈ e.rx.chans, x.2.state = 0 ∨ x.2.state = 6 ∨ x.2.state = 7)
      ∧ (n = 3 → e.rx.eph = s.dev.rx.eph) ∧ (n ≠ 3 → e.rx.eph = [])
      ∧ e.rx.almanac = (s.dev.rx.almanac && decide (n ≠ 1)) ∧ e.rx.excl = s.dev.rx.excl
      ∧ Only (s.dev.pass dt) e [0x243004, 0x243005, 0x243006] [] { e with rx := s.dev.rx, cs := s.dev.cs, led := s.dev.led }))
  ∧ (∀ (s : State) (dt : Nat) (c r : Fin 416) (d : Dev), d = s.dev.pass dt → d.up 4 →
    ((d.chan c.val).state ≤ 5 → d.rx.swaps = [] → d.rx.shadow = none → d.freeReserve = some r.val →
      Runs (.channelRetire dt c) s (fun e => e.rx.swaps = [{ old := c.val, new := r.val, shadow := false, chan := d.chan c.val }]
        ∧ (e.chan c.val).state = 7 ∧ Retired d e 1 c.val 1 (some r.val) ∧ e.nat 0x246003 = d.nat 0x246003 - 1
        ∧ e.rx.queue = d.rx.queue.filter (fun x => x.1 != c.val) ∧ (∀ j, j ≠ c.val → j ≠ r.val → e.chan j = d.chan j)
        ∧ Only d e [0x243006, 0x246003, 0x246004, 0x484001, 0x484101] (retireSrcs d 1 (some r.val)) { e with rx := d.rx, mor := d.mor }))
    ∧ ∀ t : Shadow, d.rx.shadow = some t → t.chan = c.val → t.before = [] → (d.chan c.val).state = 4 → t.at_ + 10 * secT ≤ d.clk.now →
      (t.bad = [false] → Gives (.shadowTestEnd dt) s d.dropShadow)
      ∧ (t.bad = [true] → d.freeReserve = some r.val → d.shadows r.val = false →
        Gives (.shadowTestEnd dt) s (let x := d.setChan r.val { d.chan c.val with state := 6 }
          { x with rx := { x.rx with
            shadow := some { chan := c.val, res := r.val, at_ := d.clk.now, before := [t.res], bad := [false, false] } } })))

/-- Measurement epochs and base records (R145 to R152), and RTCM output (R170 to R172): an epoch latches its instant, tick, step count and
every tracking channel; within 2 ms its record is written and, from ACQUIRING on with a Benchmark, given to the position engine with its tag of GNSS
time, else it is dropped whole with event source 129; an MSM epoch between two static intervals sends the messages of its record. -/
def Obligations.EpochsRecorded : Prop :=
  ∀ (s : State) (dt : Nat) (m : Meas) (d : Dev), d = s.dev.pass dt → d.up 4 →
    (∀ chans, d.timeState ≠ 0 → d.rx.swaps = [] → d.lastOf .epoch ≠ some (d.nominal (measPeriod (d.nat 0x247001))) →
      Runs (.measurementEpoch dt chans []) s (fun e => ∃ x, e.rx.latch = some x ∧ x.seq = (d.nat 0x247003 + 1) % 65536
        ∧ x.seq = e.nat 0x247003 ∧ x.time = d.nominal (measPeriod (d.nat 0x247001)) ∧ x.tick = d.clk.tick
        ∧ x.steps = d.nat 0x220006 ∧ x.at_ = d.clk.now ∧ x.flags.testBit 3 = decide (d.rx.dropped = some (d.nat 0x247001))
        ∧ (∀ k, k < 416 → ((d.chan k).tracks = true ↔ ∃ y ∈ x.entries, y.chan = k))
        ∧ (∀ y ∈ x.entries, ∀ v, d.measured chans y.chan = some v →
            y = d.measEntry y.chan v ((chans.find? (fun z => z.chan == y.chan)).elim false (·.unhealthy)))
        ∧ e.rx.dropped = none ∧ e.rx.queue = d.rx.queue ∧ Only d e [0x247003] [] { e with rx := d.rx, frees := d.frees, marks := d.marks }))
    ∧ (d.rx.latch = some m → d.clk.now ≤ m.at_ + 2500000 → d.up 5 →
      Runs (.baseRecordComplete dt) s (fun e => e.rx = { d.rx with latch := none, last := some m } ∧ e.oct 0x247002 = m.bytes
        ∧ (2 ≤ m.timeSt → d.benchmark →
            ∃ b, e.eng_.bases.head? = some b ∧ b.time = m.time ∧ b.tag = (m.time : Int) - 19000000000 - d.eng_.gnssC
              ∧ b.entries = m.entries ∧ b.suspect = m.flags.testBit 5)
        ∧ (m.timeSt < 2 ∨ d.benchmark = false → e.eng_ = d.eng_)
        ∧ ((∀ y ∈ m.entries, y.flags.testBit 3 = false) → e.slots = d.slots)
        ∧ Only d e [0x247002, 0x280109] [] { e with rx := d.rx, eng_ := d.eng_, slots := d.slots }))
    ∧ (d.rx.latch = some m →
      Runs (.epochDrop dt) s (fun e => e.rx.latch = none ∧ e.rx.dropped = some m.rate ∧ e.rx.last = d.rx.last
        ∧ e.nat 0x247004 = min (d.nat 0x247004 + 1) 0xFFFFFFFF ∧ Only d e [0x247004] [129] { e with rx := d.rx }))
    ∧ (d.up 7 → d.flag 0x24C001 → d.nat 0x24C003 ≠ 0 → d.benchmark → 2 ≤ d.timeState → d.flag 0x248101 = false → d.rx.msmOff = false →
      d.rx.last = some m → m.time = d.nominal (msmPeriod (d.nat 0x24C004)) → 2 ≤ m.timeSt →
      m.time % (d.nat 0x24C006 * 1000000000) ≠ 0 → d.lastOf .msm ≠ some m.time →
      Runs (.msmEpoch dt) s (fun e => { e with out := d.out } = { d.mark .msm m.time with rx := { d.rx with msmSteps := m.steps } }
        ∧ e.out = ((packFrames 0 0 (d.msmMessages m)).map (fun x =>
            ({ kind := .rtcmMsm, whom := d.rtcmTo ++ [x.1, d.clk.now, x.2.len], flds := x.2.flds } : Sent))).reverse ++ d.out))

/-- The survey (R161), the comparison of the Benchmark with its hourly mean (R162), and a whole-second time solution without checks: the weighted
clock offset of the signals on the timing antenna is the phase error that source 1 delivers, and the first ends the time to first fix (R134, R163,
R168). -/
def Obligations.SurveyAndTime : Prop :=
  ∀ (s : State) (dt : Nat) (q : Req) (d : Dev), d = s.dev.pass dt →
    (d.accepts q 0x2492 1 [1] (.num 1) →
      Runs (.surveyStart dt q) s (fun e => e.nat 0x249204 = 1 ∧ e.oct 0x249205 = zeros 24 ∧ e.nat 0x249206 = 0 ∧ e.nat 0x249207 = 0
        ∧ e.rx = { d.rx with surveyAt := d.clk.now, surveyN := 0, surveySum := [0, 0, 0], surveySq := [0, 0, 0] }
        ∧ Only d e [0x249201, 0x249204, 0x249205, 0x249206, 0x249207] [] { e with rx := d.rx, cs := d.cs, led := d.led }))
    ∧ (d.accepts q 0x2492 1 [2] (.num 2) → d.nat 0x249204 = 1 →
      Runs (.surveyStop dt q) s (fun e => e.nat 0x249204 = 3 ∧ e.nat 0x249207 = d.surveySecs
        ∧ Only d e [0x249201, 0x249204, 0x249207] [125] { e with cs := d.cs, led := d.led }))
    ∧ (∀ mean a, d.up 4 → d.nat 0x249204 = 1 → d.nat 0x249202 ≤ d.surveySecs → d.surveyMean = some (mean, a) → a ≤ d.nat 0x249203 →
      Runs (.surveyComplete dt) s (fun e => e.nat 0x249204 = 2 ∧ e.nat 0x249206 = a ∧ e.nat 0x249207 = d.surveySecs
        ∧ e.oct 0x249205 = mean.flatMap (fun x => leBytes 8 (ofSigned 64 (roundRat (x * 10000))))
        ∧ Only d e [0x249204, 0x249205, 0x249206, 0x249207] [124] e))
    ∧ (d.up 4 → d.nat 0x249204 = 1 → 10 * d.nat 0x249202 ≤ d.surveySecs →
      Gives (.surveyTimeout dt) s (((d.setN 0x249204 3).setN 0x249207 (d.surveySecs : Nat)).raise 125 0))
    ∧ (∀ mm, d.up 4 → d.benchmark → d.hourMm = some mm → 10000 < mm → d.rx.far = false →
      Gives (.benchmarkMeanCheck dt) s (({ d with rx := { d.rx with far := true } }).raiseM 126 (min (mm / 1000) 65535) 4 mm))
    ∧ ∀ (t : TimeSol) (m : Meas) (l : List SolSig) (c : Rat), d.up 4 → d.timeState ≠ 0 → d.rx.last = some m → m.time % 1000000000 = 0 →
      d.clk.now < m.at_ + secT → d.benchmark → d.nat 0x249204 ≠ 1 → d.nat 0x248001 = 0 → d.flag 0x248101 = false → d.rx.excl = [] →
      d.rx.fixed = false →
      l = (d.solSigs m t (d.nat 0x221009) (d.antPoint (d.nat 0x221009))).filter (fun x =>
        !x.ent.flags.testBit 9 && decide (d.num 0x24800D ≤ x.pos.elev)) →
      5 ≤ (satsOf l).length → clockOf (l.map (fun x => (solValue l t.bring x, solWeight x))) = some c →
      Runs (.gnssTimeUpdate dt t) s (fun e =>
        tabGet e.servo.due 1 = some (roundRat (c * 65536000000000 / cLight) + t.shift * 65536, t.utc)
        ∧ e.rx.fixed ∧ e.nat 0x248102 = 0 ∧ e.nat 0x243005 = min ((d.clk.now - d.rx.startAt) / secT) 65535
        ∧ e.servo.gnssAt = d.clk.now ∧ e.nat 0x248105 = min (satsOf l).length 255
        ∧ Only d e [0x243005, 0x248102, 0x248103, 0x248104, 0x248105, 0x248106, 0x248107] [112]
            { e with rx := d.rx, eng_ := d.eng_, servo := d.servo })

/-- The Moraine log (R535 to R539, R546): an entry offered takes the next SEQ under its ceiling, the oldest due one is copied to flash, whose ring
loses a block that is bad while no reserve remains, the window is moved, and clearing leaves one entry, 517, while SEQ goes on. -/
def Obligations.MoraineLog : Prop :=
  ∀ (s : State) (dt : Nat) (d : Dev), d = s.dev.pass dt →
    (∀ e rest, d.up 2 → d.mor.offers = e :: rest → d.mor.ring.length < 4096 → d.mor.lostNow = 0 →
      Gives (.moraineEntry dt) s { d with mor := { d.mor with
        offers := rest, next := d.mor.next + 1
        ceiling := if d.mor.next = d.mor.ceiling then d.mor.ceiling + 4096 else d.mor.ceiling
        ring := { e with seq := d.mor.next, flash := decide (d.nat 0x480001 ≤ e.sev) } :: d.mor.ring } })
    ∧ (∀ young e old, d.mor.ring = young ++ e :: old → e.flash → d.mor.copied < e.seq → (∀ f ∈ d.mor.flash, f.seq ≠ e.seq) →
      (∀ o ∈ old, o.flash = false) → d.mor.flash.length < d.mor.blocks * 2048 →
      Gives (.moraineFlashCopy dt none) s { d with mor := { d.mor with flash := e :: d.mor.flash, copied := e.seq } }
      ∧ ∀ block, d.nat 0x484006 = 0 → d.mor.flash.length < (d.mor.blocks - 1) * 2048 →
        Runs (.moraineFlashCopy dt (some (block, 6))) s (fun x => x.mor.flash = e :: d.mor.flash ∧ x.mor.copied = e.seq
          ∧ x.mor.blocks = d.mor.blocks - 1 ∧ tabGet x.res.blocks block = some 0xFFFFFFFF ∧ Retired d x 6 block 6 none
          ∧ Only d x [0x484106] [504] { x with mor := d.mor, res := d.res }))
    ∧ (∀ q data v, d.accepts q 0x4820 2 data (.num v) →
      Gives (.moraineReadFrom dt q data) s
        (({ d.heard q with mor := { d.mor with readFrom := v.toNat } } : Dev).ack q 0x4820 2 data 0))
    ∧ (∀ q data v, d.accepts q 0x4820 6 data v → d.mor.offers = [] → d.mor.ring.length < 4096 →
      Runs (.moraineClear dt q data) s (fun e => (∃ x, e.mor.ring = [x] ∧ x.code = 517 ∧ x.seq = d.mor.next)
        ∧ e.mor.flash = [] ∧ e.mor.next = d.mor.next + 1 ∧ e.mor.readFrom = d.mor.readFrom
        ∧ Only d e [] [] { e with mor := d.mor, cs := d.cs, led := d.led }))

/-- Background tests, wear and power (R26, R540, R541): an error is counted against its row or region, an uncorrectable one and a failed
core test raise event source 508 with a Moraine entry, wear of 3 % is the index 1,000 and raises 506 and 507 at 900 and 1,000, and a power estimate
stands in 2040:03 and raises 8 once it has exceeded its bound for 1 s (R22). -/
def Obligations.BackgroundTests : Prop :=
  ∀ (s : State) (dt : Nat) (d : Dev), d = s.dev.pass dt →
    (∀ isl arr row id, id = isl * 2 ^ 24 + arr * 2 ^ 12 + row → id ∉ d.res.bare →
      Gives (.sramScrub dt isl arr row .uncorrectable) s ((({ d with res := { d.res with
        rowErrs := tabPut d.res.rowErrs id (addErr d.clk.now .uncorrectable (tabGetD d.res.rowErrs id [])) } } : Dev).offer
          516 2 isl (isl * 256 + 1) (isl * 256 + 1) row).raise 508 (isl * 256 + 1)))
    ∧ (∀ r, d.up 9 →
      Gives (.dramPatrol dt r .corrected) s { d with res := { d.res with
        regErrs := tabPut d.res.regErrs r (addErr d.clk.now .corrected (tabGetD d.res.regErrs r [])) } })
    ∧ (∀ (c : Fin 8), d.up 8 → d.dueIn .coreTest (60 * secT) → Gives (.coreSelfTest dt c true) s (d.mark .coreTest d.clk.now)
      ∧ Gives (.coreSelfTest dt c false) s (((d.mark .coreTest d.clk.now).offer 516 2 8 0x803 0x803 c.val).raise 508 0x803))
    ∧ (∀ i ppm w, d.up 8 → d.dueIn .wear (86400 * secT) → 3 ≤ i → i ≤ 10 → w = min (ppm / 30) 65535 →
      Runs (.wearMeasure dt [(i, ppm)] []) s (fun e => e.nat (0x486000 + i) = w
        ∧ (∃ x, e.mor.offers = d.mor.offers ++ [x] ∧ x.code = 515 ∧ x.data0 = i ∧ x.data1 = w)
        ∧ Only d e [0x486000 + i] ((if d.nat (0x486000 + i) < 900 ∧ 900 ≤ w then [506] else [])
            ++ (if d.nat (0x486000 + i) < 1000 ∧ 1000 ≤ w then [507] else [])) { e with mor := d.mor, marks := d.marks }))
    ∧ (∀ mw t, d.up 8 → d.nat 0x204004 < mw → d.pwr.overAt = some t → t + secT ≤ d.clk.now → d.pwr.overBound = false →
      Runs (.powerOverBound dt mw) s (fun e => e.nat 0x204003 = min mw 65535
        ∧ e.nat 0x204005 = min (d.nat 0x204005 + (d.pwr.overRem + (d.clk.now - d.pwr.estAt)) / 1250000) 0xFFFFFFFF ∧ e.pwr.overBound
        ∧ (∃ x, e.mor.offers = d.mor.offers ++ [x] ∧ x.code = 8)
        ∧ Only d e [0x204003, 0x204005] [8] { e with pwr := d.pwr, mor := d.mor }))
    ∧ ∀ mw, d.up 8 → mw ≤ d.nat 0x204004 →
      Runs (.powerOverBound dt mw) s (fun e => e.nat 0x204003 = min mw 65535 ∧ e.pwr.overAt = none
        ∧ Only d e [0x204003, 0x204005] [] { e with pwr := d.pwr })

/-- Units retired (R417, R542 to R547): the reserve core takes the logical core's place; a spare row is mapped in; a DRAM region goes to
the next reserve region, with the loss of a staged change set that stood in it, also after a Firn error, which loses the items of one block and keeps
head and tail of its queue. -/
def Obligations.UnitsRetired : Prop :=
  ∀ (s : State) (dt : Nat) (d : Dev), d = s.dev.pass dt →
    (∀ (core : Fin 8) c cause, d.up 8 → cause = 1 ∨ cause = 3 ∨ cause = 5 → c < 7 → d.physical c = core.val →
      (∀ k, k < c → d.physical k ≠ core.val) → d.physical 7 ≠ 0xFF → (d.oct 0x484201).length = 8 →
      (d.core c).run = none → (∀ k, k < 7 → (d.core k).ready = []) →
      Runs (.coreRetire dt core cause) s (fun e => e.physical c = d.physical 7 ∧ e.physical 7 = 0xFF
        ∧ (∀ k, k < 7 → k ≠ c → e.physical k = d.physical k) ∧ Retired d e 2 core.val cause (some (d.physical 7))
        ∧ Only d e [0x484201, 0x484002, 0x484102] (retireSrcs d 2 (some 0)) { e with mor := d.mor }))
    ∧ (∀ arr row id corrected, id = 5 * 2 ^ 24 + arr * 2 ^ 12 + row → id ∉ d.res.bare → 2 ≤ errCount d.clk.now true (tabGetD d.res.rowErrs id []) →
      tabGetD d.res.rowsUsed (5 * 2 ^ 12 + arr) 0 < 2 →
      Runs (.sramRowRetire dt 5 arr row 1 corrected) s (fun e => tabGet e.res.rowErrs id = none
        ∧ tabGetD e.res.rowsUsed (5 * 2 ^ 12 + arr) 0 = tabGetD d.res.rowsUsed (5 * 2 ^ 12 + arr) 0 + 1
        ∧ Retired d e 4 id 1 (some (tabGetD d.res.rowsUsed (5 * 2 ^ 12 + arr) 0))
        ∧ Only d e [0x484004, 0x484104] (retireSrcs d 4 (some 0)) { e with res := d.res, mor := d.mor }))
    ∧ (∀ r, d.up 9 → 1 ≤ errCount d.clk.now true (tabGetD d.res.regErrs r []) → d.nat 0x484005 ≠ 0 →
      Runs (.dramRegionRetire dt r 1 .other) s (fun e => tabGet e.res.regErrs r = none ∧ tabGet e.res.regions r = some (32 - d.nat 0x484005)
        ∧ Retired d e 5 r 1 (some (32 - d.nat 0x484005))
        ∧ Only d e [0x484005, 0x484105] (retireSrcs d 5 (some 0)) { e with res := d.res, mor := d.mor })
      ∧ (d.nat 0x201003 ≠ 0 → Runs (.dramRegionRetire dt r 1 .changeSet) s (fun e => e.cs = noSet ∧ e.nat 0x201003 = 0
        ∧ Retired d e 5 r 1 (some (32 - d.nat 0x484005))
        ∧ Only d e [0x201003, 0x201007, 0x201008, 0x20100A, 0x484005, 0x484105] (retireSrcs d 5 (some 0))
            { e with res := d.res, mor := d.mor, cs := d.cs }))
      ∧ ∀ n, Runs (.dramRegionRetire dt r 1 (.capture n)) s (fun e => (∀ x ∈ e.cap.records, x.1 ≠ n)
        ∧ (∀ x ∈ d.cap.records, x.1 ≠ n → x ∈ e.cap.records) ∧ Retired d e 5 r 1 (some (32 - d.nat 0x484005))))
    ∧ (∀ (q : Fin 256) block r, d.up 9 → d.nat 0x484005 ≠ 0 →
      Runs (.firnError dt q block r) s (fun e =>
        (e.queue q.val).items.take (d.queue q.val).nHead = (d.queue q.val).items.take (d.queue q.val).nHead
        ∧ (e.queue q.val).items.Sublist (d.queue q.val).items
        ∧ (e.queue q.val).lost = min ((d.queue q.val).lost + ((d.queue q.val).items.length - (e.queue q.val).items.length)) 0xFFFFFFFF
        ∧ (∀ j, j ≠ q.val → e.queue j = d.queue j) ∧ e.pendingEv 452
        ∧ tabGet e.res.regions r = some (32 - d.nat 0x484005) ∧ Retired d e 5 r 1 (some (32 - d.nat 0x484005))
        ∧ Keeps d e [0x3F1003, 0x484005, 0x484105] ∧ { e with sched := d.sched, res := d.res, mor := d.mor }.rest = d.rest))

/-- Queues (R409 to R422, R543): an accepted item goes to the tail, before one of a higher SOURCE that takes effect at the same instant, and becomes
visible when its last word has been written; one for which credits are short is refused with event source 449; a pop takes the oldest visible
item, which the running task of the core holds, and first what that task had popped before its dispatch was cut short; a flush empties the queue.
Other queues are as they were. -/
def Obligations.QueuesCarry : Prop :=
  ∀ (s : State) (dt : Nat) (q : Fin 256) (d : Dev) (x : Queue), d = s.dev.pass dt → x = d.queue q.val → d.nat (qKey q.val 4) = 0 →
    (∀ src typ tag w flds, d.up 9 → d.queueExists q.val → 1 ≤ w → w ≤ 16 →
      (w ≤ d.credits q.val → x.told.testBit src = false → (∀ i ∈ x.items, i.seenAt < d.clk.now * 16 + w * 25) →
        Runs (.queuePush dt q src typ tag w flds) s (fun e =>
          (e.queue q.val).items = x.items ++ [{ src := src, typ := typ, tag := tag, words := w, buf := none, flds := flds,
                                                seenAt := d.clk.now * 16 + w * 25 }]
          ∧ (e.queue q.val).accepted = min (x.accepted + 1) 0xFFFFFFFF ∧ (∀ j, j ≠ q.val → e.queue j = d.queue j)
          ∧ e.out = { kind := .pushResult, whom := [q.val, src], flds := [0] } :: d.out
          ∧ Only d e [] [] { e with sched := d.sched }))
      ∧ (∀ pre i, w ≤ d.credits q.val → x.told.testBit src = false → x.items = pre ++ [i] → (∀ k ∈ pre, k.seenAt < d.clk.now * 16 + w * 25) →
        i.seenAt = d.clk.now * 16 + w * 25 → src < i.src → x.nHead + x.nFirn ≤ pre.length →
        Runs (.queuePush dt q src typ tag w flds) s (fun e =>
          (e.queue q.val).items = pre ++ [{ src := src, typ := typ, tag := tag, words := w, buf := none, flds := flds,
                                             seenAt := d.clk.now * 16 + w * 25 }, i]))
      ∧ (d.credits q.val < w → src ≠ 8 → src ≠ 9 → x.refuseAt = none →
        Runs (.queuePush dt q src typ tag w flds) s (fun e => (e.queue q.val).items = x.items
          ∧ (e.queue q.val).refused = min (x.refused + 1) 0xFFFFFFFF ∧ (∀ j, j ≠ q.val → e.queue j = d.queue j)
          ∧ e.out.head? = some { kind := .pushResult, whom := [q.val, src], flds := [2] }
          ∧ Only d e [] [449] { e with sched := d.sched })))
    ∧ (∀ i rest c, d.up 9 → x.items = i :: rest → i.seenAt ≤ d.clk.now * 16 →
      (∀ j y, d.poppedFor c = some (j, y) → ∀ p ∈ y.again, p.1 ≠ q.val) →
      Runs (.queuePop dt q c) s (fun e => (e.queue q.val).items = rest ∧ (e.queue q.val).pops = min (x.pops + 1) 0xFFFFFFFF
        ∧ e.out.head? = some { kind := .popResult, whom := [q.val], flds := 1 :: i.encode.map Int.ofNat }
        ∧ (∀ j y, d.poppedFor c = some (j, y) → (e.job j).held = y.held ++ [(q.val, i)])
        ∧ (∀ j, j ≠ q.val → e.queue j = d.queue j) ∧ (∀ n, n < 512 → n ≠ 451 → e.pendingEv n = d.pendingEv n)
        ∧ Keeps d e [0x3F1003] ∧ { e with sched := d.sched }.rest = d.rest))
    ∧ (∀ j y i l c, d.up 9 → d.poppedFor c = some (j, y) → y.again = (q.val, i) :: l →
      Runs (.queuePop dt q c) s (fun e => e.queue q.val = x ∧ (e.job j).held = y.held ++ [(q.val, i)] ∧ (e.job j).again = l
        ∧ e.out = { kind := .popResult, whom := [q.val], flds := 1 :: i.encode.map Int.ofNat } :: d.out
        ∧ Only d e [] [] { e with sched := d.sched }))
    ∧ (∀ c, (∀ j y, d.poppedFor c = some (j, y) → y.again = []) → d.up 9 → x.items = [] →
      Gives (.queuePop dt q c) s (d.emit .popResult [q.val] [0]))
    ∧ (∀ c, d.up 9 = false → Gives (.queuePop dt q c) s (d.notReady 9))
    ∧ (∀ r data v, d.accepts r (0x3E00 + q.val) 5 data v →
      Runs (.queueFlush dt r q data) s (fun e => (e.queue q.val).items = []
        ∧ (e.queue q.val).flushes = min (x.flushes + 1) 0xFFFFFFFF ∧ (e.queue q.val).lost = min (x.lost + x.items.length) 0xFFFFFFFF
        ∧ (∀ j, j ≠ q.val → e.queue j = d.queue j) ∧ e.pendingEv 450
        ∧ Keeps d e [0x3F1003] ∧ { e with sched := d.sched, cs := d.cs, led := d.led }.rest = d.rest))
    ∧ (∀ r data v, d.accepts r 0x3F10 4 data v →
      Gives (.queueStatisticsClear dt r data) s (({ d.heard r with sched := { d.sched with queues := d.sched.queues.map (fun e =>
        (e.1, { e.2 with peak := 0, accepted := 0, pops := 0, refused := 0, flushes := 0, lost := 0, hist := [] })) } } : Dev).ack
          r 0x3F10 4 data 0))

/-- Firn (R416): a tail whose settled items hold 64 words or more that the head cannot take spills at least a block, a head below 32 words is refilled
from it, and the items of the queue and their order stay. -/
def Obligations.FirnMoves : Prop :=
  ∀ (s : State) (dt : Nat) (q : Fin 256) (d : Dev) (x : Queue), d = s.dev.pass dt → x = d.queue q.val → d.up 9 →
    (∀ y, y = x.settle (d.clk.now * 16) 16 → (∀ i ∈ y.items.drop (y.nHead + y.nFirn), i.seenAt ≤ d.clk.now * 16) →
      64 ≤ wordsOf (y.items.drop (y.nHead + y.nFirn)) →
      Runs (.firnSpill dt q) s (fun e => (e.queue q.val).items = x.items ∧ (e.queue q.val).nHead = y.nHead
        ∧ y.firnWords + 64 ≤ (e.queue q.val).firnWords ∧ (∀ j, j ≠ q.val → e.queue j = d.queue j)
        ∧ Keeps d e [0x3F1003] ∧ { e with sched := d.sched }.rest = d.rest))
    ∧ (x.headWords < 32 → x.nFirn ≠ 0 → x.nHead + x.nFirn ≤ x.items.length →
      Runs (.firnRefill dt q) s (fun e => (e.queue q.val).items = x.items ∧ (e.queue q.val).nFirn < x.nFirn
        ∧ x.nHead < (e.queue q.val).nHead ∧ (∀ j, j ≠ q.val → e.queue j = d.queue j)
        ∧ Keeps d e [0x3F1003] ∧ { e with sched := d.sched }.rest = d.rest))

/-- The scheduler (R424 to R428, R433): a task made ready for an idle core runs on it at once; a dispatch that ends suspended frees the
core and gives up what it popped; the expiry of the first timer due wakes its task, which remembers it while it runs; a core whose share of the last
second exceeds the threshold raises event source 453. -/
def Obligations.TasksScheduled : Prop :=
  ∀ (s : State) (dt : Nat) (d : Dev), d = s.dev.pass dt → d.up 8 →
    (∀ (j : Fin 256) p k n c, (d.job j.val).state = 0 → c ∈ d.activeCores → fieldN (d.oct 0x400301) (2 * j.val + 1) 1 = 0 →
      (d.core c).run = none → (d.core c).ready = [] →
      Runs (.taskReady dt j p (2 ^ c) k n) s (fun e => (e.core c).run = some j.val ∧ (e.job j.val).state = 4
        ∧ (e.job j.val).core = some c ∧ (e.core c).runs = min ((d.core c).runs + 1) 0xFFFFFFFF
        ∧ (∀ i, i ≠ c → e.core i = d.core i) ∧ (∀ i, i ≠ j.val → e.job i = d.job i) ∧ Only d e [] [] { e with sched := d.sched }))
    ∧ (∀ (c : Fin 7) j k n delay, (d.core c.val).run = some j → (∀ i, i < 7 → (d.core i).ready = []) →
      Runs (.dispatchEnd dt c 5 k n delay) s (fun e => (e.core c.val).run = none ∧ (e.job j).state = 5 ∧ (e.job j).core = none ∧ (e.job j).held = []
        ∧ (∀ i, i ≠ c.val → e.core i = d.core i) ∧ (∀ i, i ≠ j → e.job i = d.job i) ∧ Only d e [] [] { e with sched := d.sched }))
    ∧ (∀ (k : Fin 1024) j t, tabGet d.sched.timers k.val = some (j, t) → schedTick t ≤ d.schedNs → (d.job j).state = 4 →
      (∀ x ∈ d.sched.timers, t < x.2.2 ∨ (t = x.2.2 ∧ k.val ≤ x.1)) →
      Runs (.timerExpiry dt k) s (fun e => tabGet e.sched.timers k.val = none ∧ (e.job j).memo ∧ (e.job j).state = 4
        ∧ e.nat 0x401101 = e.sched.timers.length ∧ (∀ i, i ≠ j → e.job i = d.job i)
        ∧ Only d e [0x401101, 0x401102] [] { e with sched := d.sched }))
    ∧ (∀ (c : Fin 7), d.nat 0x400001 * 100 < d.loadOf c.val → (d.core c.val).loadHigh = false →
      Gives (.coreLoadAlert dt c) s ((d.setCore c.val { d.core c.val with loadHigh := true }).raise 453 c.val))
    ∧ (∀ r data v, d.accepts r 0x4000 3 data v →
      Gives (.schedulerStatisticsClear dt r data) s (({ d.heard r with sched := { d.sched with cores := d.sched.cores.map (fun e =>
        (e.1, { e.2 with peak := 0, runs := 0, preempts := 0, hist := [] })) } } : Dev).ack r 0x4000 3 data 0))

/-- Timed actions (R429 to R431): the target arms an action; the first one due, a one-shot without a write, runs with event source 456 and disarms. -/
def Obligations.TimedActions : Prop :=
  ∀ (s : State) (dt : Nat) (a : Fin 256) (d : Dev), d = s.dev.pass dt → d.noTime = false →
    (∀ q data (t : Int), d.accepts q (0x4100 + a.val) 2 data (.num t) → d.nat (actKey a.val 1) ≠ 0 → (d.fleetNs : Int) < t →
      Runs (.timedActionArm dt q a data) s (fun e => e.num (actKey a.val 2) = t ∧ e.bit (actKey a.val 7) 0
        ∧ e.bit (actKey a.val 7) 2 = false ∧ tabGet e.sched.actLate a.val = none
        ∧ Only d e [actKey a.val 2, actKey a.val 7] [] { e with sched := d.sched, cs := d.cs, led := d.led }))
    ∧ (∀ q data (t : Int), d.accepts q (0x4100 + a.val) 2 data (.num t) → d.nat (actKey a.val 1) = 0 →
      Runs (.timedActionArm dt q a data) s (fun e => e.bit (actKey a.val 7) 0 = false ∧ e.bit (actKey a.val 7) 2
        ∧ Only d e [actKey a.val 2, actKey a.val 7] [457] { e with cs := d.cs, led := d.led }))
    ∧ (∀ m, d.bit (actKey a.val 7) 0 → d.nat (actKey a.val 1) = 1 → d.nat (actKey a.val 5) = 0 → d.actTick a.val ≤ d.schedNs →
      (∀ b, b < 256 → d.bit (actKey b 7) 0 → d.actTick a.val < d.actTick b ∨ (d.actTick a.val = d.actTick b ∧ a.val ≤ b)) →
      RunsFuse (.timedActionRun dt a m) s (fun e => e.bit (actKey a.val 7) 0 = false
        ∧ e.bit (actKey a.val 7) 1 = (tabGet d.sched.actLate a.val).isSome ∧ Only d e [actKey a.val 7] [456] { e with sched := d.sched }))

/-- The entries that show the load of the position engine (R217). -/
def engKeys : List Key := [0x280101, 0x280102, 0x280103, 0x28010C]

/-- Vehicle epochs (R186 to R191, R205, R208, R210): a first MSM of a telegram opens an epoch, with the cells of the signals used; 20 ms
after it the epoch completes with what it has; it waits for its base record, then for a group; a group computes it under the settings it was
begun with and writes the fix; an epoch that does not conform is shed after 25 ms. -/
def Obligations.EpochsServed : Prop :=
  ∀ (s : State) (dt : Nat) (n : Fin 128) (d : Dev), d = s.dev.pass dt → d.up 5 →
    (∀ addr port b ago cells t x sys d1, t = teleOf addr port b → d1 = (d.pop (d.nat (slotKey n.val 0 3))).1 → d.up 8 →
      d1.checkTele t (fun _ => none) = .ok n.val → t.typ = 1 → t.term ≤ d.nat 0x440203 → d1.slotOn n.val →
      t.vehicle = d.nat (slotKey n.val 0 2) → carrierMsms b cells = [x] → x.ok → x.more → msmSystem x.num = some sys →
      d1.collecting n.val = none → d1.epochReason n.val (d1.epochTime sys x.tow) = 0 →
      Runs (.observationIntake dt n addr port b ago cells) s (fun e => ∃ y, e.eng_ = { d1.eng_ with wait := d1.eng_.wait ++ [y] }
        ∧ y.slot = n.val ∧ y.tv = d1.epochTime sys x.tow ∧ y.stage = 0 ∧ y.firstAt = d.clk.now ∧ y.refAt = d.clk.now - ago
        ∧ y.cells = (x.cells.map (fun c => { c with sys := sys })).filter (fun c => (sigOfObs sys c.obs).isSome)
        ∧ (e.car n.val).dest = some (addr, port) ∧ Keeps d1 e [] ∧ (∀ k, k < 512 → e.pendingEv k = d1.pendingEv k)
        ∧ { e with eng_ := d1.eng_, cars := d1.cars }.rest = d1.rest))
    ∧ (∀ x, d.collecting n.val = some x → x.firstAt + 25000000 ≤ d.clk.now → (d.slot n.val).lastTv = none → d.pairing x.tv = .hold →
      Runs (.epochCompletionTimeout dt n) s (fun e =>
        e.eng_.wait = d.eng_.wait.filter (fun z => !(z.slot == n.val && z.stage == 0))
          ++ [{ x with partial_ := true, excess := false, conform := decide (secT ≤ d.tokensNow), stage := 1 }]
        ∧ e.eng_.tokens = (if secT ≤ d.tokensNow then d.tokensNow - secT else d.tokensNow)
        ∧ Only d e [] [] { e with eng_ := d.eng_ }))
    ∧ (∀ x b p, d.eng_.wait.find? (fun z => z.slot == n.val && z.stage == 1) = some x → d.pairing x.tv = .with_ b p →
      (∀ g ∈ d.groupsUsed, (tabGet d.eng_.busy g).isSome) →
      Runs (.pairingWaitExpiry dt n) s (fun e => e.eng_ = { d.eng_ with wait := d.eng_.wait.filter (fun z => z != x)
          ++ [{ x with stage := 2, base := some b, extra := p, refAt := max x.refAt b.at_ }] }
        ∧ (e.slot x.slot).lastTv = some x.tv ∧ (∀ j, j ≠ x.slot → e.slot j = d.slot j)
        ∧ Only d e engKeys [] { e with eng_ := d.eng_, slots := d.slots }))
    ∧ (∀ (g : Fin 8) x b r geo old, tabGet d.eng_.busy g.val = some x → x.base = some b → x.conform = false → x.void = false →
      d.slotState x.slot = 2 → d.up 6 = false →
      (({ d with eng_ := { d.eng_ with busy := tabDel d.eng_.busy g.val } } : Dev).asBegun x).solve x b geo old = some r →
      r.1.sol < (d.asBegun x).nat (slotKey x.slot 0 8) →
      Runs (.fixWrite dt g geo old) s (fun e => (e.slot x.slot).fixes = (d.slot x.slot).fixes + 1
        ∧ (e.slot x.slot).lastFix = some d.clk.now ∧ (e.slot x.slot).filt = some r.1.filt ∧ (e.slot x.slot).base = b.time
        ∧ e.nat (slotKey x.slot 1 2) = r.1.sol ∧ e.nat (slotKey x.slot 1 3) = 0
        ∧ e.nat (slotKey x.slot 1 4) = min (d.nat (slotKey x.slot 1 4) + 1) 0xFFFFFFFF
        ∧ (e.oct (slotKey x.slot 2 1)).length = 64 ∧ (∀ j, j ≠ x.slot → e.slot j = d.slot j)
        ∧ Keeps d e ([slotKey x.slot 2 1, slotKey x.slot 1 2, slotKey x.slot 1 3, slotKey x.slot 1 4, slotKey x.slot 1 0x0A, 0x280104]
            ++ engKeys)
        ∧ { e with slots := d.slots, eng_ := d.eng_, cars := d.cars, pwr := d.pwr }.rest = d.rest))
    ∧ (∀ x, d.eng_.wait.filter (fun z => z.stage == 2 && !z.conform) = [x] → x.refAt + 31250000 ≤ d.clk.now → d.groupsUsed ≠ [] →
      d.eng_.shedAt = none →
      Runs (.epochShed dt) s (fun e => e.eng_.wait = d.eng_.wait.filter (fun z => z != x)
        ∧ e.nat 0x280105 = min (d.nat 0x280105 + 1) 0xFFFFFFFF ∧ (e.slot x.slot).shed = (d.slot x.slot).shed + 1
        ∧ Only d e ([0x280105, slotKey x.slot 1 5] ++ engKeys) [196] { e with eng_ := d.eng_, slots := d.slots }))

/-- Slot states and lanes (R179, R184, R211, R212): no fix for the stale timeout, no base records, base records again within the retention of
the integers or beyond it, the slot commands, and the first faulty lane of a group, whose reserve takes its place; an epoch that the group worked
on is computed again with event source 204. -/
def Obligations.SlotStates : Prop :=
  ∀ (s : State) (dt : Nat) (n : Fin 128) (d : Dev), d = s.dev.pass dt →
    (d.up 5 → d.slotState n.val = 2 → (d.slot n.val).lastFix.getD 0 + msTicks (d.nat 0x280012) ≤ d.clk.now →
      Runs (.slotStale dt n) s (fun e => e.slotState n.val = 4 ∧ (e.slot n.val).gapAt.isSome ∧ (∀ j, j ≠ n.val → e.slot j = d.slot j)
        ∧ Only d e [slotKey n.val 1 1] [192, 207] { e with slots := d.slots }))
    ∧ (∀ t, d.up 5 → d.slotsOn = [n.val] → d.slotState n.val = 2 → d.eng_.baseAt = some t → t + 2 * secT ≤ d.clk.now →
      Runs (.slotSuspend dt) s (fun e => e.slotState n.val = 5 ∧ (e.slot n.val).gapAt.isSome
        ∧ Only d e [slotKey n.val 1 1] [192, 199] { e with slots := d.slots, frees := d.frees }))
    ∧ (∀ r b, d.up 5 → d.slotsOn = [n.val] → d.slotState n.val = 5 → d.eng_.runAt = some r →
      d.eng_.baseAt = some b → r + secT ≤ d.clk.now → d.clk.now < b + 2 * secT →
      (d.gap n.val ≤ d.nat 0x280013 * secT →
        Runs (.slotResume dt) s (fun e => e.slotState n.val = 2 ∧ e.slot n.val = { d.slot n.val with stateAt := d.clk.now }
          ∧ Only d e [slotKey n.val 1 1] [192, 200] { e with slots := d.slots }))
      ∧ (d.nat 0x280013 * secT < d.gap n.val →
        Runs (.slotResume dt) s (fun e => e.slotState n.val = 1 ∧ e.slot n.val = { d.slot n.val with stateAt := d.clk.now, ambs := [] }
          ∧ Only d e [slotKey n.val 1 1] [192, 200] { e with slots := d.slots })))
    ∧ (∀ q, d.accepts q (0x5003 + 32 * n.val) 1 [1] (.num 1) → d.slotState n.val = 2 →
      Runs (.slotResetFilter dt q n) s (fun e => e.slotState n.val = 1 ∧ e.slot n.val = { slot0 with stateAt := d.clk.now }
        ∧ (∀ x ∈ e.eng_.wait, x.slot ≠ n.val) ∧ (∀ x ∈ e.eng_.busy, x.2.slot ≠ n.val) ∧ (∀ j, j ≠ n.val → e.slot j = d.slot j)
        ∧ Only d e ([slotKey n.val 1 1, slotKey n.val 1 2, slotKey n.val 1 3, slotKey n.val 1 0x0A] ++ engKeys) [192]
            { e with slots := d.slots, eng_ := d.eng_, cs := d.cs, led := d.led }))
    ∧ (∀ q, d.accepts q (0x5003 + 32 * n.val) 1 [2] (.num 2) →
      Gives (.slotDropCarried dt q n) s (((d.heard q).setSlot n.val
        { d.slot n.val with ambs := (d.slot n.val).ambs.filter (fun a => !a.carried) }).ack q (0x5003 + 32 * n.val) 1 [2] 0))
    ∧ (∀ (lane : Fin 136) x, d.up 5 → lane.val % 17 ≠ 16 → (∀ l ∈ d.eng_.lanes, l / 17 ≠ lane.val / 17) →
      x = tabGet d.eng_.busy (lane.val / 17) → d.eng_.groupsOut = [] →
      Runs (.laneFault dt lane) s (fun e => e.eng_.lanes = d.eng_.lanes ++ [lane.val] ∧ e.eng_.groupsOut = [] ∧ e.eng_.wait = d.eng_.wait
        ∧ tabGet e.eng_.busy (lane.val / 17) = x.map (fun y => d.begin_ { y with again := true })
        ∧ (∀ g, g ≠ lane.val / 17 → tabGet e.eng_.busy g = tabGet d.eng_.busy g)
        ∧ Retired d e 3 lane.val 4 (some (lane.val / 17 * 17 + 16)) ∧ e.nat 0x28010A = d.nat 0x28010A - 1
        ∧ Only d e ([0x28010A, 0x28010B, 0x484003, 0x484103] ++ engKeys)
            (retireSrcs d 3 (some 0) ++ (if x.isSome then [202, 204] else [202])) { e with eng_ := d.eng_, mor := d.mor }))

/-- The entries that show the reservation engine (R260). -/
def resKeys : List Key := [0x2E2001, 0x2E2002, 0x2E2003, 0x2E2004, 0x2E2005, 0x2E2007, 0x2E1101, 0x2E1102]

/-- The four requests of the reservation engine (R246 to R252): with nothing fallen due before it (R250), one that passes the checks of R249
places the holds of its path and no others, extends a vehicle's path with a new grant, removes a supervisor's holds, or finds the first hold
present in a window; it is counted and its result stands in 2E11. -/
def Obligations.ReservationRequests : Prop :=
  ∀ (s : State) (dt : Nat) (q : Req) (r r' : ResReq) (op : Nat) (d : Dev), d = s.dev.pass dt → d.timeState ≠ 0 →
    d.accepts q 0x2E10 1 (reqBytes op r) (.oct (reqBytes op r)) → parseReq (reqBytes op r) = (op, r') → reqMalformed r' op = none →
    (d.heard q).settleHolds = d.heard q →
    (op = 1 → 128 ≤ r'.path → d.holdsOf r'.path = [] → ((d.heard q).holdPaired 1 r').2.code = 0 →
      Runs (.reserve dt q r) s (fun e => (∃ new, e.resv.holds = d.resv.holds ++ new ∧ new ≠ []
          ∧ ∀ h ∈ new, h.path = r'.path ∧ h.kind = .supervisor)
        ∧ e.nat 0x2E2005 = min (d.nat 0x2E2005 + 1) 0xFFFFFFFF ∧ e.cars = d.cars ∧ Keeps d e resKeys
        ∧ (∀ n, n < 512 → n ≠ 261 → e.pendingEv n = d.pendingEv n)
        ∧ { e with resv := d.resv, cs := d.cs, led := d.led }.rest = d.rest))
    ∧ (op = 2 → r'.path < 128 → ((d.heard q).holdPaired 2 r').2.code = 0 →
      Runs (.extend dt q r) s (fun e => (∃ p, (e.car r'.path).path = some p ∧ (p.grants.head?).map (·.id) = some (d.car r'.path).nextGrant)
        ∧ (e.car r'.path).nextGrant = (d.car r'.path).nextGrant + 1 ∧ (∀ j, j ≠ r'.path → e.car j = d.car j)
        ∧ (∀ h, h.path ≠ r'.path → (h ∈ e.resv.holds ↔ h ∈ d.resv.holds))
        ∧ e.nat 0x2E2005 = min (d.nat 0x2E2005 + 1) 0xFFFFFFFF ∧ Keeps d e (0x44020B :: resKeys)))
    ∧ (op = 3 → 128 ≤ r'.path → r'.stepLow = d.nat 0x220006 % 256 → d.holdsOf r'.path ≠ [] →
      Runs (.release dt q r) s (fun e => e.resv.holds = d.resv.holds.filter (fun h => h.path != r'.path)
        ∧ e.nat 0x2E2005 = min (d.nat 0x2E2005 + 1) 0xFFFFFFFF ∧ e.cars = d.cars ∧ Keeps d e resKeys
        ∧ (∀ n, n < 512 → n ≠ 259 → n ≠ 261 → e.pendingEv n = d.pendingEv n)
        ∧ { e with resv := d.resv, cs := d.cs, led := d.led }.rest = d.rest))
    ∧ (op = 4 → (d.lookup r').code = 0 →
      Runs (.lookup dt q r) s (fun e => e.oct 0x2E1101 = d.resultBytes 4 r' (d.lookup r') ∧ e.resv.holds = d.resv.holds
        ∧ e.resv.pieces = d.resv.pieces ∧ e.nat 0x2E2005 = min (d.nat 0x2E2005 + 1) 0xFFFFFFFF
        ∧ Only d e [0x2E2005, 0x2E1101, 0x2E1102] [] { e with resv := d.resv, cs := d.cs, led := d.led }))

/-- Holds that change by themselves (R244, R245, R252): an interval whose end has come while its vehicle has not passed becomes a
standing hold from that end on, one that stands too long is reported, the holds of a passed group go, a bucket is freed, and a force release
removes every hold of a path. -/
def Obligations.HoldsLapse : Prop :=
  ∀ (s : State) (dt path group : Nat) (d : Dev), d = s.dev.pass dt →
    (∀ x ∈ d.resv.holds, d.up 6 → x.path = path → x.group = group → x.kind = .interval → x.stop ≤ d.engMs → d.passedBy x = false →
      Runs (.intervalLapse dt path group) s (fun e =>
        e.resv.holds = d.resv.holds.map (fun h => if h.path = path ∧ h.group = group ∧ h.kind = .interval ∧ h.stop ≤ d.engMs
          then { h with kind := .standing, since := h.stop } else h)
        ∧ e.resv.pieces = d.resv.pieces ∧ e.pendingEv 258 ∧ (∀ n, n < 512 → n ≠ 258 → n ≠ 261 → e.pendingEv n = d.pendingEv n)
        ∧ Keeps d e resKeys ∧ { e with resv := d.resv }.rest = d.rest))
    ∧ (∀ x ∈ d.resv.holds, d.up 6 → x.path = path → x.group = group → x.kind = .standing → x.alert = false →
      x.since + d.num 0x2E0001 < d.engMs →
      Runs (.standingAlert dt path group) s (fun e =>
        e.resv = { d.resv with holds := d.resv.holds.map (fun h => if h.path = path ∧ h.group = group ∧ h.kind = .standing
          ∧ h.alert = false ∧ h.since + d.num 0x2E0001 < d.engMs then { h with alert := true } else h) }
        ∧ Only d e [] [268] { e with resv := d.resv }))
    ∧ (∀ (n : Fin 128), d.up 6 →
      Runs (.groupPassed dt n group) s (fun e =>
        e.resv.holds = (if ∀ x ∈ d.resv.holds, x.path = n.val → x.group = group → x.kind ≠ .park →
            x.last < d.num (slotKey n.val 0x11 3) - d.trail n.val
          then d.resv.holds.filter (fun h => !(h.path == n.val && h.group == group && h.kind != .park)) else d.resv.holds)
        ∧ (∀ n, n < 512 → n ≠ 259 → n ≠ 261 → e.pendingEv n = d.pendingEv n) ∧ e.rounds = { d.rounds with due := e.rounds.due }
        ∧ Keeps d e resKeys ∧ { e with resv := d.resv, rounds := d.rounds }.rest = d.rest))
    ∧ (d.up 6 → Runs (.bucketRelease dt) s (fun e =>
        e.resv.pieces = d.resv.pieces.filter (fun p => decide (d.engMs / 1000 ≤ p.sec))
        ∧ e.resv.holds = d.resv.holds.filter (fun h => !(h.kind == .supervisor && decide (h.stop ≤ d.engMs)))
        ∧ (∀ n, n < 512 → n ≠ 261 → e.pendingEv n = d.pendingEv n) ∧ Keeps d e resKeys ∧ { e with resv := d.resv }.rest = d.rest))
    ∧ (∀ q data, 128 ≤ path → d.accepts q 0x2E14 1 data (.num path) →
      Runs (.forceRelease dt q data) s (fun e => e.resv.holds = d.resv.holds.filter (fun h => h.path != path) ∧ e.pendingEv 267
        ∧ (∃ x, e.mor.offers = d.mor.offers ++ [x] ∧ x.code = 267 ∧ x.detail = path % 65536)
        ∧ Keeps d e resKeys ∧ { e with resv := d.resv, mor := d.mor, cs := d.cs, led := d.led }.rest = d.rest))
    ∧ ∀ q data (g : Nat), d.accepts q 0x2E12 1 data (.num g) →
      Gives (.scheduleGroupSelect dt q data) s
        (({ d.heard q with resv := { d.resv with sched := g } } : Dev).ack q 0x2E12 1 data 0)

/-- Tasks (R263 to R267, R279): a submission that meets R264 takes the lowest free number; one open is cancelled; one WAITING opens at
its earliest time; a finished one leaves the table; a timed service at the drop node ends the task. A telegram of the
vehicle finds the islands that it needs in state 3 (R17). -/
def Obligations.TasksMove : Prop :=
  ∀ (s : State) (dt : Nat) (d : Dev), d = s.dev.pass dt →
    (∀ q data b j, d.accepts q 0x3001 1 data (.oct b) → d.submitReason b = 0 → tabFree d.tasks 1024 = some j →
      (taskOf b).earliest ≤ d.fleetNs →
      Runs (.taskSubmit dt q data) s (fun e => tabGet e.tasks j = some { taskOf b with state := 2 }
        ∧ (∀ i, i ≠ j → tabGet e.tasks i = tabGet d.tasks i) ∧ e.rounds.due
        ∧ e.oct 0x300103 = leBytes 4 (taskOf b).id ++ leBytes 2 j ++ [0, 0]
        ∧ Only d e [0x300103, 0x302005] [280] { e with tasks := d.tasks, rounds := d.rounds, cs := d.cs, led := d.led }))
    ∧ (∀ q data (id j : Nat) t, d.accepts q 0x3001 2 data (.num id) →
      d.tasks.find? (fun x => decide (x.2.id = id ∧ 1 ≤ x.2.state ∧ x.2.state ≤ 7)) = some (j, t) → tabGet d.tasks j = some t →
      t.state = 2 → t.slot = 0xFF →
      Runs (.taskCancel dt q data) s (fun e => tabGet e.tasks j = some { t with state := 9, reason := 1, endAt := d.clk.now } ∧ e.rounds.due
        ∧ (∀ i, i ≠ j → tabGet e.tasks i = tabGet d.tasks i) ∧ e.oct 0x300103 = leBytes 4 id ++ leBytes 2 j ++ [0, 0]
        ∧ Only d e [0x300103, 0x302005] [283] { e with tasks := d.tasks, rounds := d.rounds, cs := d.cs, led := d.led }))
    ∧ (∀ (j : Fin 1024) t, d.up 6 → tabGet d.tasks j.val = some t → t.slot = 0xFF →
      (t.state = 1 → d.timeState = 0 ∨ t.earliest ≤ d.fleetNs → Runs (.taskEarliest dt j) s (fun e => tabGet e.tasks j.val = some { t with state := 2, cost := noCost }
        ∧ e.rounds.due ∧ (∀ i, i ≠ j.val → tabGet e.tasks i = tabGet d.tasks i)
        ∧ Only d e [0x302005] [] { e with tasks := d.tasks, rounds := d.rounds }))
      ∧ (8 ≤ t.state → t.endAt + d.nat 0x300009 * secT ≤ d.clk.now → Runs (.taskRetentionExpiry dt j) s (fun e => tabGet e.tasks j.val = none
        ∧ (∀ i, i ≠ j.val → tabGet e.tasks i = tabGet d.tasks i) ∧ Only d e [0x302005] [] { e with tasks := d.tasks })))
    ∧ ∀ (n : Fin 128) j t, d.up 6 → d.nat (slotKey n.val 0x11 1) = j → j ≠ 0xFFFF → tabGet d.tasks j = some t → t.state = 7 → t.timed →
      t.slot = n.val → (d.car n.val).v = 0 → (d.car n.val).restAt + t.dropSvc * 100 * msT ≤ d.clk.now → (d.wants n.val → d.reachQ n.val) →
      Runs (.serviceTimeExpiry dt n) s (fun e => tabGet e.tasks j = some { t with state := 8, endAt := d.clk.now }
        ∧ e.nat (slotKey n.val 0x11 1) = 0xFFFF
        ∧ e.rounds.due ∧ (∀ i, i ≠ j → tabGet e.tasks i = tabGet d.tasks i)
        ∧ Only d e [slotKey n.val 0x11 1, 0x302005] [282] { e with tasks := d.tasks, rounds := d.rounds, cars := d.cars })

/-- Auction rounds (R271 to R275): a round is asked for, begins with the free vehicles, the travel times to the
open tasks and the settings in force, is marked
when its bound passes, and ends; with no free vehicle it allots nothing. -/
def Obligations.AuctionRounds : Prop :=
  ∀ (s : State) (dt : Nat) (d : Dev), d = s.dev.pass dt → d.up 6 →
    (d.rounds.startAt + d.nat 0x300001 * msT ≤ d.clk.now →
      Gives (.roundPeriodExpiry dt) s { d with rounds := { d.rounds with due := true } })
    ∧ (∀ h, d.rounds.due → d.rounds.running = false → d.stopped = false → d.serving →
      Runs (.auctionRoundStart dt h) s (fun e => e.rounds.running ∧ e.rounds.due = false ∧ e.rounds.startAt = d.clk.now
        ∧ e.rounds.free = (List.range 128).filter (fun n => d.isFree n) ∧ e.rounds.bound = none
        ∧ e.rounds.passes = e.rounds.free.map (fun n => (n, d.search n))
        ∧ e.rounds.times = e.rounds.free.flatMap (fun n => (d.tasks.filter (fun x => x.2.state == 2 || x.2.state == 3)).map (fun x =>
            (n, x.1, d.travel (d.search n) n x.2.pick)))
        ∧ e.rounds.set = [3, 4, 5, 6, 7, 8].map (fun i => (0x300000 + i, d.get (0x300000 + i)))
        ∧ e.nat 0x302001 = min (d.nat 0x302001 + 1) 0xFFFFFFFF ∧ e.nat 0x302007 = min h 65535
        ∧ Only d e [0x302001, 0x302007] [] { e with rounds := d.rounds }))
    ∧ (∀ c, d.rounds.running → d.rounds.bound = none → d.rounds.startAt + d.nat 0x300002 * msT ≤ d.clk.now →
      Gives (.roundBoundExpiry dt c) s
        ((({ d with rounds := { d.rounds with bound := some c } } : Dev).setN 0x302006 (min (d.nat 0x302006 + 1) 0xFFFFFFFF : Nat)).raise 284 0))
    ∧ (∀ h, d.rounds.running → d.rounds.free = [] → d.rounds.times = [] → (∀ n, n < 128 → (d.car n).target = none) →
      (∀ x ∈ d.tasks, x.2.state ≠ 6) →
      Gives (.auctionRoundEnd dt h) s (((({ d with rounds :=
        { d.rounds with running := false, passes := [], set := [], times := [] } } : Dev).setN 0x302002
        (min h 65535 : Nat)).setN 0x302003 (if d.rounds.bound.isSome then 1 else 0)).setN 0x302004 0))

/-- The auction (R274) allots every vehicle at most one task, whatever its pairs, its free vehicles and the cycles it is given. -/
def Obligations.AuctionAllotsOnce : Prop :=
  ∀ (ps : List (Nat × Nat × Int × Nat)) (free : List Nat) (cycles : Nat), free.Nodup → ((auction ps free cycles).map (·.2)).Nodup

/-- The word of a vehicle command (R289) in the order of its bytes; the reserved ones are ignored (R8). -/
def vehicleWord (code rsv arg : Nat) : List Byte := leBytes 2 arg ++ leBytes 1 rsv ++ leBytes 1 code

/-- Vehicle commands of a slot without task and path (R289, R290, R292), and giving up the task of an assigned one. -/
def Obligations.VehicleCommands : Prop :=
  ∀ (s : State) (dt : Nat) (q : Req) (n : Fin 128) (rsv arg code : Nat) (d : Dev), d = s.dev.pass dt → arg < 65536 →
    d.accepts q (0x5013 + 32 * n.val) 1 (vehicleWord code rsv arg) (.num (code * 2 ^ 24 + arg : Nat)) →
    (code = 1 → d.nat (slotKey n.val 0x11 1) = 0xFFFF → (d.car n.val).stops = 0 →
      Runs (.vehicleHold dt q n rsv arg) s (fun e => e.car n.val = { d.car n.val with stops := 4, target := none }
        ∧ e.nat (slotKey n.val 0x11 8) = 2 ∧ (∀ j, j ≠ n.val → e.car j = d.car j)
        ∧ Only d e [slotKey n.val 0x11 8] [291] { e with cars := d.cars, cs := d.cs, led := d.led }))
    ∧ (code = 2 → Runs (.vehicleResume dt q n rsv arg) s (fun e =>
        (∀ i, (e.car n.val).stops.testBit i = ((d.car n.val).stops.testBit i && !(decide (2 ≤ i ∧ i ≤ 4))))
        ∧ e.car n.val = { d.car n.val with stops := (e.car n.val).stops } ∧ (∀ j, j ≠ n.val → e.car j = d.car j)
        ∧ e.rounds = { d.rounds with due := d.rounds.due || (e.isFree n.val && !d.isFree n.val) }
        ∧ Only d e [slotKey n.val 0x11 8] [] { e with cars := d.cars, rounds := d.rounds, cs := d.cs, led := d.led }))
    ∧ (code = 3 → arg < d.graph.nNodes → (d.car n.val).path = none → (d.car n.val).track = none → d.holdsOf n.val = [] →
      (d.car n.val).stops = 0 →
      Runs (.vehicleGoToNode dt q n rsv arg) s (fun e => e.car n.val = { d.car n.val with target := some arg, tried := false }
        ∧ (∀ j, j ≠ n.val → e.car j = d.car j)
        ∧ Only d e [slotKey n.val 0x11 8] [] { e with cars := d.cars, cs := d.cs, led := d.led }))
    ∧ (∀ j t, code = 4 → d.nat (slotKey n.val 0x11 1) = j → tabGet d.tasks j = some t → t.state = 3 → t.slot = n.val → (d.wants n.val → d.reachQ n.val) →
      Runs (.vehicleGiveUpTask dt q n rsv arg) s (fun e => tabGet e.tasks j = some { t with state := 9, reason := 4, endAt := d.clk.now }
        ∧ e.nat (slotKey n.val 0x11 1) = 0xFFFF ∧ e.rounds.due ∧ (∀ i, i ≠ j → tabGet e.tasks i = tabGet d.tasks i)
        ∧ Only d e [slotKey n.val 0x11 1, 0x302005] [283]
            { e with tasks := d.tasks, rounds := d.rounds, cars := d.cars, cs := d.cs, led := d.led }))

/-- What drives a vehicle at its instants (R284, R286, R292, R306, R341): the setpoint block of the only path, the permission of the only
enabled slot without a path (GO is 0), the readiness timeout, which releases the path, and the end of a reversal dwell. -/
def Obligations.VehiclesDriven : Prop :=
  ∀ (s : State) (dt : Nat) (n : Fin 128) (d : Dev), d = s.dev.pass dt → d.up 6 →
    (d.serving → (d.car n.val).path.isSome → (∀ j, j ≠ n.val → (d.car j).path = none) → (d.car n.val).target = none →
      d.lastOf .block ≠ some d.blockNum →
      Runs (.setpointBlock dt []) s (fun e => e.num (slotKey n.val 0x11 3) = roundRat (d.car n.val).s
        ∧ e.num (slotKey n.val 0x11 4) = roundRat (d.car n.val).v
        ∧ (d.reachQ n.val → (e.car n.val).seqBlock = ((d.car n.val).seqBlock + 1) % 2 ^ 32
            ∧ ∃ x ∈ e.out, x.kind = .setpoints ∧ x.whom.head? = some n.val ∧ x.flds.length = 66
              ∧ x.flds[2]? = some ((d.fleetNs / 20000000 * 20000000 : Nat) : Int))
        ∧ (∀ j, j ≠ n.val → e.car j = d.car j) ∧ e.resv = d.resv
        ∧ Keeps d e (0x302005 :: (List.range 8).map (fun i => slotKey n.val 0x11 (1 + i)))))
    ∧ (∀ a p, d.serving → d.tele.newTerm = false → d.slotsOn = [n.val] → (d.car n.val).path = none → d.up 7 →
      d.destOf n.val = some (a, p) → d.wo.refAt = none → d.pair.firstPerm ≠ none → d.settleHolds = d →
      d.lastOf .period ≠ some d.periodNum →
      Runs (.permissionPeriod dt) s (fun e =>
        e.out = { kind := .permission, whom := [n.val, a, p, d.nat (slotKey n.val 0 2)]
                  flds := [((d.car n.val).seqPerm : Int), d.num 0x440203, ((d.fleetNs / d.periodNs * d.periodNs : Nat) : Int), d.num 0x341001, 0, d.num 0x380102
                    , d.num (slotKey n.val 1 9), d.num 0x380103, (d.grantInForce n.val : Int), 0, d.num (slotKey n.val 0 4)
                    , d.num (slotKey n.val 0x11 8), d.num 0x220006] } :: d.out
        ∧ e.car n.val = { d.car n.val with
            periods := min ((d.car n.val).periods + 1) 65535, resent := false, seqPerm := ((d.car n.val).seqPerm + 1) % 2 ^ 32 }
        ∧ (∀ j, j ≠ n.val → e.car j = d.car j) ∧ Only d e [] [] { e with cars := d.cars, marks := d.marks }))
    ∧ (∀ t, (d.car n.val).unready = some t → t + d.nat 0x341002 * secT ≤ d.clk.now → d.settleHolds = d → (d.car n.val).path.isSome → d.ready n.val = false → (d.task (d.nat (slotKey n.val 0x11 1))).state = 0 →
      Runs (.readinessTimeout dt n) s (fun e => (e.car n.val).unready = none ∧ e.pendingEv 292 ∧ e.tasks = d.tasks
        ∧ (∀ j, j ≠ n.val → e.car j = d.car j) ∧ (∀ h, h.path ≠ n.val → (h ∈ e.resv.holds ↔ h ∈ d.resv.holds))
        ∧ KeepsIdx d e [0x2E20] ∧ { e with resv := d.resv, cars := d.cars }.rest = d.rest))
    ∧ (d.nat (slotKey n.val 0x11 2) = 5 → (d.car n.val).v = 0 →
      (d.car n.val).dwellAt + (d.cls (d.slotClass n.val)).dwell * msT ≤ d.clk.now →
      Gives (.revDwellEnd dt n) s ((d.setN (slotKey n.val 0x11 2) 1).raise 290 n.val))

/-- Telegrams of vehicles (R328, R344, R345, R347): an acknowledgement of the term in force is kept and ends the absence; the report that a
service is complete ends the task; the absence of acknowledgements is reported once. -/
def Obligations.VehiclesReport : Prop :=
  ∀ (s : State) (dt : Nat) (n : Fin 128) (addr port : Nat) (b : List Byte) (t : Tele) (d : Dev), d = s.dev.pass dt →
    t = teleOf addr port b →
    (∀ a, a = ackOf b → d.up 8 → d.up 7 → d.serving → d.slotOn n.val → d.checkTele t (·.rxAck) = .ok n.val → t.typ = 7 →
      t.term = d.nat 0x440203 → (d.car n.val).path = none → d.pair.firstPerm = none →
      Runs (.acknowledgement dt addr port b) s (fun e => e.car n.val = { d.car n.val with
          rxAck := some t.seq, dest := some (addr, port), ackPerm := a.permSeq, ackGrant := a.grant, ackState := a.state
          ackLevel := a.level, periods := 0, absent := false }
        ∧ (∀ j, j ≠ n.val → e.car j = d.car j) ∧ e.pair = { d.pair with inherited := e.pair.inherited }
        ∧ (∀ j, j ∈ e.pair.inherited ↔ j ∈ d.pair.inherited ∧ j ≠ n.val)
        ∧ Only d e [] [] { e with cars := d.cars, pair := d.pair }))
    ∧ (∀ r k, r = reportOf b → d.up 8 → d.up 7 → d.up 6 → d.serving → d.slotOn n.val → d.checkTele t (·.rxTask) = .ok n.val → t.typ = 8 →
      t.term ≤ d.nat 0x440203 → d.nat (slotKey n.val 0x11 1) = r.task → tabGet d.tasks r.task = some k → k.id = r.id → k.state = 7 →
      k.slot = n.val → r.event = 2 → (d.wants n.val → d.reachQ n.val) →
      Runs (.taskStatusReport dt addr port b) s (fun e => tabGet e.tasks r.task = some { k with state := 8, endAt := d.clk.now }
        ∧ e.nat (slotKey n.val 0x11 1) = 0xFFFF ∧ (e.car n.val).rxTask = some t.seq ∧ (∀ j, j ≠ n.val → e.car j = d.car j)
        ∧ (∀ i, i ≠ r.task → tabGet e.tasks i = tabGet d.tasks i)
        ∧ Only d e [slotKey n.val 0x11 1, 0x302005] [282] { e with tasks := d.tasks, rounds := d.rounds, cars := d.cars }))
    ∧ (d.up 6 → d.slotOn n.val → d.nat 0x342004 ≤ (d.car n.val).periods → (d.car n.val).absent = false →
      Gives (.ackTimeout dt n) s ((d.setCar n.val { d.car n.val with absent := true }).raise 443 n.val))

/-- An axis that a stop halts: one that moves or is enabled (R312). -/
def axisHalts (d : Dev) (n : Nat) : Bool := d.bit (axKey n 4) 6 || decide (2 ≤ d.nat (axKey n 1))

/-- The entries that a stop changes: its status and those of the axes. -/
def stopKeys : List Key :=
  [0x380101, 0x380102, 0x380103, 0x380104, 0x380105] ++ (List.range 8).flatMap (fun n => [axKey n 1, axKey n 3, axKey n 4])

/-- The sources that the halt of the axes raises: 357 where the position of one becomes uncertain (R312, R370). -/
def haltSrcs (d : Dev) : List Nat :=
  if (List.range 8).any (fun n => axisHalts d n && !d.bit (axKey n 4) 0) then [357] else []

/-- A stop begins from CLEAR (R297, R302, R312): the state, level, next sequence, cause and instant; the flood from level W2 on; every axis
that moved or was enabled at rest and uncertain. Of the pair only the lanes, which send a STOP_NOTICE (R488), change. -/
def StopBegins (d e : Dev) (cause level : Nat) : Prop :=
  e.nat 0x380101 = 1 ∧ e.nat 0x380102 = level ∧ e.nat 0x380103 = (d.nat 0x380103 + 1) % 2 ^ 32 ∧ e.nat 0x380104 = 2 ^ (cause - 1)
    ∧ e.nat 0x380105 = d.fleetNs ∧ e.nv = tabPut d.nv 0x380103 (.num ((d.nat 0x380103 + 1) % 2 ^ 32 : Nat))
    ∧ e.wo.flood = (if 2 ≤ level then some (d.clk.now, 0) else none) ∧ e.wo.clearing = none
    ∧ e.pair = { d.pair with lane0 := e.pair.lane0, lane1 := e.pair.lane1 }
    ∧ ∀ n, n < 8 → (e.bit (axKey n 4) 0 = (d.bit (axKey n 4) 0 || axisHalts d n))
        ∧ (∀ i, i ≠ 0 → e.bit (axKey n 4) i = d.bit (axKey n 4) i)
        ∧ (axisHalts d n → (e.axis n).plan = .none ∧ (e.axis n).vel = 0 ∧ e.num (axKey n 3) = 0
            ∧ e.nat (axKey n 1) = if 2 ≤ d.nat (axKey n 1) ∧ d.nat (axKey n 1) ≤ 5 then 1 else d.nat (axKey n 1))
        ∧ (axisHalts d n = false → e.axis n = d.axis n ∧ e.num (axKey n 3) = d.num (axKey n 3) ∧ e.nat (axKey n 1) = d.nat (axKey n 1))

/-- Sources of a stop (R299 to R301, R304, R311, R314, R318) in CLEAR: an input whose channel is low, channels that differ, a read-back
that does not follow, a channel that misses its test pulse, the watchdog and the command. Each begins a stop at its level with its cause;
in a stop, the command sets its cause, and a higher level raises the level. A capture that the stop triggers (R441) does so beside it. -/
def Obligations.StopSourcesAct : Prop :=
  ∀ (s : State) (dt : Nat) (n : Fin 2) (levels us : Nat) (d x : Dev), d = s.dev.pass dt → x = d.samplePins levels →
    (d.stopped = false → d.up 10 → d.nat 0x381003 ≤ us → x.channel (2 * n.val) = false ∨ x.channel (2 * n.val + 1) = false →
      Runs (.stopInputAct dt n levels us none) s (fun e => StopBegins x e (n.val + 1) (d.nat (0x381001 + n.val))
        ∧ e.nat 0x380107 = levels % 128 ∧ e.wo.refAt = some (d.clk.now - us * 1250) ∧ e.wo.refP = d.nat 0x341001
        ∧ Only x.capWhiteout e stopKeys (320 :: haltSrcs d) { e with wo := x.wo, axes := d.axes, nv := d.nv, pair := d.pair })
      ∧ (d.nat 0x381006 ≤ d.nat (0x381001 + n.val) → d.nat 0x381007 ≤ d.nat (0x381001 + n.val) → ∀ t,
        Runs (.stopInputAct dt n levels us (some t)) s (fun e => StopBegins x e (n.val + 1) (d.nat (0x381001 + n.val))
          ∧ e.nat 0x380109 = min t 65535
          ∧ Only x.capWhiteout e (0x380109 :: stopKeys) ((320 :: haltSrcs d) ++ if 1000 < t then [330] else [])
              { e with wo := x.wo, axes := d.axes, nv := d.nv, pair := d.pair })))
    ∧ (d.stopped = false → d.up 10 → x.channel (2 * n.val) ≠ x.channel (2 * n.val + 1) → d.bit 0x380108 n.val = false →
      d.nat 0x381004 < us →
      Runs (.stopInputDiscrepancy dt n levels us) s (fun e => StopBegins x e 5 (d.nat 0x38100A)
        ∧ (∀ i, e.bit 0x380108 i = (d.bit 0x380108 i || decide (i = n.val)))
        ∧ Only x.capWhiteout e (0x380108 :: stopKeys) ((320 :: haltSrcs d) ++ [325])
            { e with wo := x.wo, axes := d.axes, nv := d.nv, pair := d.pair }))
    ∧ (∀ c y, (c = .outputReadbackFault dt n levels us ∧ y = x ∧ x.bit 0x380107 (5 + n.val) ≠ x.driven n.val ∧ 20 < us)
        ∨ (c = .outputTest dt n false ∧ y = d ∧ d.testDue n.val ∧ d.nat 0x381008 ≠ 0) →
      d.stopped = false → d.up 10 → d.bit 0x380108 (n.val + 4) = false →
      Runs c s (fun e => StopBegins y e 6 (d.nat 0x38100A)
        ∧ (∀ i, e.bit 0x380108 i = (d.bit 0x380108 i || decide (i = n.val + 4)))
        ∧ e.wo.tests0 = 0 ∧ e.wo.tests1 = 0 ∧ e.wo.good0 = 0 ∧ e.wo.good1 = 0 ∧ e.stopOut 0 = false ∧ e.stopOut 1 = false
        ∧ Only y.capWhiteout e (0x380108 :: stopKeys) ((320 :: haltSrcs d) ++ [327])
            { e with wo := y.wo, axes := d.axes, nv := d.nv, pair := d.pair }))
    ∧ (∀ line : Fin 2, d.stopped = false → d.up 10 → d.clk.now < (if line.val = 0 then d.wo.maskA else d.wo.maskB) →
      d.bit 0x381005 n.val → d.bit 0x381005 (1 - n.val) = false → levels.testBit (2 * n.val + line.val) →
      d.bit 0x380108 (n.val + 2) = false →
      Runs (.testPulseCheck dt line levels) s (fun e => StopBegins d e 5 (d.nat 0x38100A)
        ∧ (∀ i, e.bit 0x380108 i = (d.bit 0x380108 i || decide (i = n.val + 2)))
        ∧ Only d.capWhiteout e (0x380108 :: stopKeys) ((320 :: haltSrcs d) ++ [326])
            { e with wo := d.wo, axes := d.axes, nv := d.nv, pair := d.pair }))
    ∧ (d.stopped = false → d.up 10 → d.nat 0x38100B ≠ 0 → d.wo.wdRun → d.wo.expiry = false →
      d.wo.wdAt + d.nat 0x38100B * msT ≤ d.clk.now →
      Runs (.supervisorWatchdogExpiry dt) s (fun e => StopBegins d e 4 (d.nat 0x38100C) ∧ e.wo.expiry
        ∧ Only d.capWhiteout e stopKeys ((320 :: haltSrcs d) ++ [328]) { e with wo := d.wo, axes := d.axes, nv := d.nv, pair := d.pair }))
    ∧ ∀ q data (level : Nat), d.accepts q 0x3800 1 data (.num level) →
      (d.stopped = false → Runs (.stopCommand dt q data) s (fun e => StopBegins d e 3 level
        ∧ Only d.capWhiteout e stopKeys (320 :: haltSrcs d)
            { e with wo := d.wo, axes := d.axes, nv := d.nv, pair := d.pair, cs := d.cs, led := d.led }))
      ∧ (d.stopped → level ≤ d.woLevel → Runs (.stopCommand dt q data) s (fun e =>
          (∀ i, e.bit 0x380104 i = (d.bit 0x380104 i || decide (i = 2)))
          ∧ e.wo = { d.wo with trip0 := d.nat 0x381006, trip1 := d.nat 0x381007 }
          ∧ Only d e [0x380104] [] { e with cs := d.cs, led := d.led, wo := d.wo }))
      ∧ (d.stopped → d.woLevel < level → Runs (.stopCommand dt q data) s (fun e =>
          (∀ i, e.bit 0x380104 i = (d.bit 0x380104 i || decide (i = 2))) ∧ e.nat 0x380101 = 1 ∧ e.nat 0x380102 = level
          ∧ e.nat 0x380103 = d.nat 0x380103 ∧ e.nat 0x380105 = d.nat 0x380105
          ∧ e.wo.flood = (if 2 ≤ level then some (d.clk.now, 0) else none)
          ∧ Only d e stopKeys (321 :: haltSrcs d) { e with wo := d.wo, axes := d.axes, pair := d.pair, cs := d.cs, led := d.led }))

/-- The rest of Whiteout (R301, R308, R311, R315 to R318): a fault of an input clears, test pulses, the clear command and what refuses it,
the keep-alive, the resume press, the end of the arming, and the waves of the flood. -/
def Obligations.StopsAreServed : Prop :=
  ∀ (s : State) (dt : Nat) (n : Fin 2) (d : Dev), d = s.dev.pass dt →
    (∀ levels x, x = d.samplePins levels → d.up 10 → d.bit 0x380108 n.val ∨ d.bit 0x380108 (n.val + 2) →
      x.channel (2 * n.val) → x.channel (2 * n.val + 1) →
      Runs (.stopInputFaultClear dt n levels) s (fun e =>
        (∀ i, e.bit 0x380108 i = (d.bit 0x380108 i && decide (i ≠ n.val ∧ i ≠ n.val + 2)))
        ∧ Only d e [0x380107, 0x380108] [329] { e with wo := d.wo }))
    ∧ (d.up 10 → d.nat 0x381005 % 4 ≠ 0 → d.pulseDue n.val →
      Runs (.inputTestPulse dt n) s (fun e => e.out = { kind := .testLine, whom := [n.val], flds := [100] } :: d.out
        ∧ (if n.val = 0 then e.wo.maskA else e.wo.maskB) = d.clk.now + 187500
        ∧ (if n.val = 0 then e.wo.maskB = d.wo.maskB else e.wo.maskA = d.wo.maskA)
        ∧ Only d e [] [] { e with wo := d.wo }))
    ∧ (∀ ok, d.up 10 → d.nat 0x381008 ≠ 0 → d.testDue n.val → (ok = false → d.bit 0x380108 (n.val + 4)) →
      Runs (.outputTest dt n ok) s (fun e =>
        (d.stopOut n.val → e.out = { kind := .outputTest, whom := [n.val], flds := [d.num 0x381009] } :: d.out)
        ∧ (d.stopOut n.val = false → e.out = d.out)
        ∧ (if n.val = 0 then e.wo.tests0 = d.wo.tests0 + 1 else e.wo.tests1 = d.wo.tests1 + 1)
        ∧ (if n.val = 0 then e.wo.good0 = (if ok then d.wo.good0 + 1 else 0) ∧ e.wo.testAt0 = some d.clk.now
            else e.wo.good1 = (if ok then d.wo.good1 + 1 else 0) ∧ e.wo.testAt1 = some d.clk.now) ∧ Only d e [] [] { e with wo := d.wo }))
    ∧ (∀ q data levels high (seq : Nat) x, x = (d.sampleHigh levels high).heard q → d.up 10 →
      (d.sampleHigh levels high).accepts q 0x3800 2 data (.num seq) →
      (∀ r, x.clearReason seq = r → r ≠ 0 → Runs (.clearCommand dt q data levels high) s (fun e =>
          e.woState = d.woState ∧ e.woLevel = d.woLevel ∧ Only x e [] [323] { e with cs := x.cs, led := x.led }))
      ∧ (x.clearReason seq = 0 → d.nat 0x38100D = 2 → Runs (.clearCommand dt q data levels high) s (fun e => e.nat 0x380101 = 2
          ∧ e.wo = { x.wo with armedAt := d.clk.now } ∧ Only x e [0x380101] [324] { e with wo := x.wo, pair := x.pair, cs := x.cs, led := x.led }))
      ∧ (x.clearReason seq = 0 → d.nat 0x38100D = 0 → Runs (.clearCommand dt q data levels high) s (fun e =>
          e.nat 0x380101 = 0 ∧ e.nat 0x380102 = 0 ∧ e.nat 0x380106 = d.fleetNs ∧ e.nat 0x380108 = 0 ∧ e.wo.flood = none
          ∧ e.wo.clearing = some (0, d.nat 0x380103) ∧ e.rounds.due
          ∧ Only x e [0x380101, 0x380102, 0x380106, 0x380108] [322] 
              { e with wo := x.wo, rounds := x.rounds, pair := x.pair, cs := x.cs, led := x.led })))
    ∧ (∀ q data v, d.accepts q 0x3800 3 data v → Runs (.keepAlive dt q data) s (fun e => e.wo = { d.wo with expiry := false, wdAt := d.clk.now }
        ∧ Only d e [] [] { e with wo := d.wo, cs := d.cs, led := d.led }))
    ∧ (∀ lowMs levels high x, x = d.sampleHigh levels high → d.up 10 → 50 ≤ lowMs → lowMs ≤ 5000 →
      d.nat 0x38100D = 2 ∧ d.woState = 2 ∧ d.clk.now ≤ d.wo.armedAt + 30 * secT ∨ d.nat 0x38100D = 1 ∧ d.woState = 1 →
      x.channelsHigh → x.noStopFault → d.wo.expiry = false → d.timeState ≠ 0 →
      Runs (.resumePress dt lowMs levels high) s (fun e => e.nat 0x380101 = 0 ∧ e.nat 0x380102 = 0 ∧ e.nat 0x380106 = d.fleetNs
        ∧ e.nat 0x380108 = 0 ∧ e.wo.flood = none ∧ e.wo.clearing = some (0, d.nat 0x380103) ∧ e.rounds.due
        ∧ Only x e [0x380101, 0x380102, 0x380106, 0x380108] [322] { e with wo := x.wo, rounds := x.rounds, pair := x.pair }))
    ∧ (d.up 10 → d.woState = 2 → d.wo.armedAt + 30 * secT ≤ d.clk.now →
      Runs (.resumeArmTimeout dt) s (fun e => e.nat 0x380101 = 1 ∧ Only d e [0x380101] [] { e with pair := d.pair }))
    ∧ (∀ t k r, d.up 7 → d.wo.flood = some (t, k) → r = waveAt (d.clk.now - t) → k ≤ r →
      Runs (.floodWave dt) s (fun e => e.wo = { d.wo with flood := some (t, r + 1) }
        ∧ Only d e [] [] { e with wo := d.wo, sw := d.sw }
        ∧ (∀ p v rest, p < 8 → d.floodPorts = [p] → d.floodVlans = v :: rest → (d.port p).sending = none → (d.port p).waiting = [] →
            ∃ f, (e.port p).sending = some f ∧ f.cls = 4 ∧ f.flds.take 3 = [(d.woLevel : Int), min r 65535, d.num 0x380104])))
    ∧ ∀ k seq r, d.up 7 → d.wo.clearing = some (k, seq) → r = (d.clk.now - d.wo.clearAt) / (5 * msT) → k ≤ r →
      Runs (.clearWave dt) s (fun e => e.wo = { d.wo with clearing := if r < 2 then some (r + 1, seq) else none }
        ∧ Only d e [] [] { e with wo := d.wo, sw := d.sw })

/-- Axis commands (R352 to R361, R366, R369): the first reason of R360 that applies refuses any of them and is shown; the others begin a
move, jog or homing from rest, change the target of a move in motion or in its dwell, brake a move, switch the drive on and off, clear a fault and set the position. -/
def Obligations.AxisCommands : Prop :=
  ∀ (s : State) (dt : Nat) (q : Req) (n : Fin 8) (arg : Int) (d : Dev), d = s.dev.pass dt → -2147483648 ≤ arg → arg < 2147483648 →
    (∀ rsv code (c : Instr), rsv < 2 ^ 24 →
      (c, code) ∈ [(.axisMoveAbsolute dt q n rsv arg, 1), (.axisMoveRelative dt q n rsv arg, 2), (.axisJog dt q n rsv arg, 3)
        , (.axisStop dt q n rsv arg, 4), (.axisHome dt q n rsv arg, 5), (.axisEnable dt q n rsv arg, 6)
        , (.axisDisable dt q n rsv arg, 7), (.axisClearFault dt q n rsv arg, 8)] →
      d.accepts q (0x3620 + n.val) 0 (axBytes code rsv arg) (.oct (axBytes code rsv arg)) → d.axReason n.val code rsv arg ≠ 0 →
      Runs c s (fun e => e.nat (axKey n.val 8) = d.axReason n.val code rsv arg
        ∧ Only d e [axKey n.val 8] [358] { e with cs := d.cs, led := d.led }))
    ∧ (∀ code target rate (c : Instr),
      (c, code, target, rate) ∈ [(.axisMoveAbsolute dt q n 0 arg, 1, arg, d.nat (axSet n.val 5))
        , (.axisMoveRelative dt q n 0 arg, 2, d.axPos n.val + arg, d.nat (axSet n.val 5))
        , (.axisJog dt q n 0 arg, 3, (if 0 < arg then d.num (axSet n.val 0x0A) else d.num (axSet n.val 9)), min arg.natAbs (d.nat (axSet n.val 5)))] →
      d.accepts q (0x3620 + n.val) 0 (axBytes code 0 arg) (.oct (axBytes code 0 arg)) → d.axReason n.val code 0 arg = 0 →
      (code = 3 → arg ≠ 0) →
      ((d.axis n.val).vel = 0 → (∀ u r, (d.axis n.val).plan ≠ .dwell u r) →
        Runs c s (fun e => e.nat (axKey n.val 1) = 2 ∧ e.num (axKey n.val 6) = target ∧ (e.axis n.val).plan = .move target rate
          ∧ (e.axis n.val).pos = d.axPos n.val ∧ (e.axis n.val).vel = 0 ∧ (e.axis n.val).lim = d.axLimNow n.val
          ∧ (e.axis n.val).set = (List.range 25).map (fun i => d.num (axSet n.val (i + 1)))
          ∧ (e.axis n.val).segAt = max d.clk.now (e.axis n.val).readyAt + 125000
          ∧ e.bit (axKey n.val 4) 5 = false ∧ (∀ i, i ≠ 5 → e.bit (axKey n.val 4) i = d.bit (axKey n.val 4) i)
          ∧ (∀ j, j ≠ n.val → e.axis j = d.axis j)
          ∧ Only d e [axKey n.val 1, axKey n.val 4, axKey n.val 6] [] { e with axes := d.axes, cs := d.cs, led := d.led }))
      ∧ (∀ u r, (d.axis n.val).vel = 0 → (d.axis n.val).plan = .dwell u r →
        Runs c s (fun e => e.num (axKey n.val 6) = target ∧ e.axis n.val = { d.axis n.val with plan := .dwell target rate }
          ∧ (∀ j, j ≠ n.val → e.axis j = d.axis j)
          ∧ Only d e [axKey n.val 6] [] { e with axes := d.axes, cs := d.cs, led := d.led }))
      ∧ ∀ ahead : Bool, (d.axis n.val).vel ≠ 0 →
        ahead = decide (d.axStop n.val ≤ (if (d.axis n.val).vel < 0 then -1 else 1) * ((target : Rat) - (d.axis n.val).pos)) →
        Runs c s (fun e => e.num (axKey n.val 6) = target ∧ e.nat (axKey n.val 1) = (if ahead then 2 else 3)
          ∧ e.axis n.val = { d.axis n.val with plan := if ahead then .move target rate else .brake (some (target, rate)) }
          ∧ (∀ j, j ≠ n.val → e.axis j = d.axis j)
          ∧ Only d e [axKey n.val 1, axKey n.val 6] [] { e with axes := d.axes, cs := d.cs, led := d.led }))
    ∧ (∀ t r, d.accepts q (0x3620 + n.val) 0 (axBytes 4 0 arg) (.oct (axBytes 4 0 arg)) → d.axState n.val ≠ 6 →
      (d.axis n.val).plan = .move t r → (d.axis n.val).vel ≠ 0 →
      Runs (.axisStop dt q n 0 arg) s (fun e => e.nat (axKey n.val 1) = 3 ∧ e.axis n.val = { d.axis n.val with plan := .brake none }
        ∧ (∀ j, j ≠ n.val → e.axis j = d.axis j)
        ∧ Only d e [axKey n.val 1] [] { e with axes := d.axes, cs := d.cs, led := d.led }))
    ∧ (d.accepts q (0x3620 + n.val) 0 (axBytes 5 0 arg) (.oct (axBytes 5 0 arg)) → d.axReason n.val 5 0 arg = 0 →
      (d.axis n.val).vel = 0 →
      Runs (.axisHome dt q n 0 arg) s (fun e => e.nat (axKey n.val 1) = 4
        ∧ (e.axis n.val).plan = .home (if d.bit (axKey n.val 4) (d.edgeBit n.val) then 0 else 3) 0 (d.axPos n.val)
        ∧ e.num (axKey n.val 6) = d.axPos n.val
            + (if d.bit (axKey n.val 4) (d.edgeBit n.val) then -1 else 1) * (d.searchDir n.val * 4294967296)
        ∧ (∀ j, j ≠ n.val → e.axis j = d.axis j)
        ∧ Only d e [axKey n.val 1, axKey n.val 4, axKey n.val 6] [] { e with axes := d.axes, cs := d.cs, led := d.led }))
    ∧ (d.accepts q (0x3620 + n.val) 0 (axBytes 6 0 arg) (.oct (axBytes 6 0 arg)) → d.axState n.val ≠ 6 →
      d.bit (axKey n.val 4) 6 = false → d.quiet = false →
      Runs (.axisEnable dt q n 0 arg) s (fun e => e.bit (axKey n.val 4) 6 ∧ (∀ i, i ≠ 6 → e.bit (axKey n.val 4) i = d.bit (axKey n.val 4) i)
        ∧ e.num (axKey n.val 5) = 0 ∧ e.nat (axKey n.val 1) = (if d.nat (axKey n.val 1) = 0 then 1 else d.nat (axKey n.val 1))
        ∧ ({ kind := .axisEnable, whom := [n.val], flds := [1] } : Sent) ∈ e.out ∧ (∀ j, j ≠ n.val → e.axis j = d.axis j)
        ∧ e.axis n.val = { d.axis n.val with
            readyAt := max (d.axis n.val).readyAt (d.clk.now + d.nat (axSet n.val 0x10) * msT), restAt := d.clk.now }
        ∧ Only d e [axKey n.val 1, axKey n.val 4, axKey n.val 5] [] { e with axes := d.axes, cs := d.cs, led := d.led }))
    ∧ (d.accepts q (0x3620 + n.val) 0 (axBytes 7 0 arg) (.oct (axBytes 7 0 arg)) → d.bit (axKey n.val 4) 6 → d.stopped = false →
      d.axState n.val ≠ 6 → (d.axis n.val).vel = 0 → d.nat (axSet n.val 0x13) = 0 →
      Runs (.axisDisable dt q n 0 arg) s (fun e => e.bit (axKey n.val 4) 6 = false ∧ e.bit (axKey n.val 4) 0
        ∧ e.nat (axKey n.val 1) = 0 ∧ e.num (axKey n.val 3) = 0 ∧ (e.axis n.val).plan = .none
        ∧ ({ kind := .axisEnable, whom := [n.val], flds := [0] } : Sent) ∈ e.out ∧ (∀ j, j ≠ n.val → e.axis j = d.axis j)
        ∧ Only d e [axKey n.val 1, axKey n.val 3, axKey n.val 4] (if d.bit (axKey n.val 4) 0 then [] else [357])
            { e with axes := d.axes, cs := d.cs, led := d.led }))
    ∧ (d.accepts q (0x3620 + n.val) 0 (axBytes 8 0 arg) (.oct (axBytes 8 0 arg)) → d.bit (axKey n.val 4) 4 = false → d.axState n.val = 6 →
      (d.bit (axKey n.val 4) 1 && d.bit (axKey n.val 4) 2) = false →
      Runs (.axisClearFault dt q n 0 arg) s (fun e => e.nat (axKey n.val 1) = (if d.bit (axKey n.val 4) 6 then 1 else 0)
        ∧ Only d e [axKey n.val 1] [354] { e with cs := d.cs, led := d.led }))
    ∧ ∀ data, d.accepts q (0x3630 + n.val) 0 data (.num arg) → d.axState n.val = 0 ∨ d.axState n.val = 1 ∨ d.axState n.val = 6 →
      (d.axis n.val).vel = 0 →
      Runs (.axisSetPosition dt q n data) s (fun e => e.num (axKey n.val 2) = arg ∧ e.bit (axKey n.val 4) 0 = false
        ∧ (∀ i, i ≠ 0 → e.bit (axKey n.val 4) i = d.bit (axKey n.val 4) i) ∧ e.axis n.val = { d.axis n.val with pos := (arg : Rat) }
        ∧ (∃ x, e.mor.offers = d.mor.offers ++ [x] ∧ x.code = 518 ∧ x.sev = 2 ∧ x.data0 = (0x3630 + n.val) * 65536)
        ∧ (∀ j, j ≠ n.val → e.axis j = d.axis j)
        ∧ Only d e [axKey n.val 2, axKey n.val 4] [] { e with axes := d.axes, mor := d.mor, cs := d.cs, led := d.led })

/-- What happens to an axis (R357, R358, R361 to R366): inputs that have stood for the filter time are flags by their polarity; a segment that is
due moves it towards its target or reaches it; a limit in the direction of travel stops it, both limits and its fault input put it into fault; the
homing edge is latched; the hold delay and a dwell end. -/
def Obligations.AxisEvents : Prop :=
  ∀ (s : State) (dt : Nat) (n : Fin 8) (levels us inputs : Nat) (fast : Bool) (d y : Dev), d = s.dev.pass dt → d.up 10 →
    inputs = (levels ^^^ 15 ^^^ (d.axUse n.val 0x0C).toNat) % 16 → y = d.axInputs n.val inputs →
    fast = decide ((d.axUse n.val 0x12 : Rat) < max (d.axis n.val).vel (-(d.axis n.val).vel)) →
    (∀ i, y.bit (axKey n.val 4) i = if 1 ≤ i ∧ i ≤ 4 then inputs.testBit (i - 1) else d.bit (axKey n.val 4) i)
    ∧ ((us : Int) < d.axUse n.val 0x0D → Gives (.axisLimitInput dt n levels us) s d)
    ∧ (∀ t rate x r, d.up 6 → (d.axis n.val).segAt ≤ d.clk.now → (d.axis n.val).plan = .move t rate →
      (d.axis n.val).lim.decel = d.nat (axSet n.val 7) → (d.axis n.val).lim.jerk = d.nat (axSet n.val 8) →
      d.axPos n.val = roundRat (d.axis n.val).pos →
      x = (d.setAxis n.val { d.axis n.val with segAt := (d.axis n.val).segAt + 125000 }).axDefer n.val →
      r = x.axToward n.val t (min rate (x.axis n.val).lim.vmax : Nat) →
      (r.2 = true → Runs (.axisSegment dt n) s (fun e => e.num (axKey n.val 2) = t ∧ e.num (axKey n.val 3) = 0
        ∧ e.nat (axKey n.val 1) = 1 ∧ (e.axis n.val).plan = .none ∧ (e.axis n.val).segAt = (d.axis n.val).segAt + 125000
        ∧ (∀ j, j ≠ n.val → e.axis j = d.axis j)
        ∧ (t ≠ d.axPos n.val → ∃ m ∈ e.out, m.kind = .axisSteps ∧ m.whom = [n.val] ∧ m.flds.head? = some (t - d.axPos n.val))
        ∧ Only d e [axKey n.val 1, axKey n.val 2, axKey n.val 3, axKey n.val 4, axKey n.val 5] [361] { e with axes := d.axes }))
      ∧ (r.2 = false → Runs (.axisSegment dt n) s (fun e => e.num (axKey n.val 2) = roundRat (e.axis n.val).pos
        ∧ e.num (axKey n.val 3) = roundRat (e.axis n.val).vel ∧ (e.axis n.val).plan = .move t rate
        ∧ (e.axis n.val).segAt = (d.axis n.val).segAt + 125000 ∧ (∀ j, j ≠ n.val → e.axis j = d.axis j)
        ∧ (e.axPos n.val ≠ d.axPos n.val →
            ∃ m ∈ e.out, m.kind = .axisSteps ∧ m.whom = [n.val] ∧ m.flds.head? = some (e.axPos n.val - d.axPos n.val))
        ∧ Only d e [axKey n.val 2, axKey n.val 3, axKey n.val 4, axKey n.val 5] [] { e with axes := d.axes })))
    ∧ (∀ t rate, d.axUse n.val 0x0D ≤ us → (d.axis n.val).plan = .move t rate → (∀ i, 1 ≤ i → i ≤ 4 → d.bit (axKey n.val 4) i = false) →
      (inputs = 3 ∨ inputs = 7 →
        Runs (.axisLimitInput dt n levels us) s (fun e => e.nat (axKey n.val 1) = 6 ∧ e.num (axKey n.val 3) = 0
          ∧ (e.axis n.val).plan = .none ∧ (e.axis n.val).vel = 0 ∧ (∀ j, j ≠ n.val → e.axis j = d.axis j)
          ∧ e.bit (axKey n.val 4) 0 = (d.bit (axKey n.val 4) 0 || fast)
          ∧ Only d e [axKey n.val 1, axKey n.val 3, axKey n.val 4] (352 :: if fast && !d.bit (axKey n.val 4) 0 then [357] else [])
              { e with axes := d.axes }))
      ∧ (inputs % 4 = 1 ∧ 0 < (d.axis n.val).vel ∨ inputs % 4 = 2 ∧ (d.axis n.val).vel < 0 → inputs < 8 →
        (d.axUse n.val 0x0B = 0 → (2 ≤ d.axState n.val ∧ d.axState n.val ≤ 5) →
          Runs (.axisLimitInput dt n levels us) s (fun e => e.nat (axKey n.val 1) = 1 ∧ e.num (axKey n.val 3) = 0
            ∧ (e.axis n.val).plan = .none ∧ (e.axis n.val).vel = 0 ∧ (∀ j, j ≠ n.val → e.axis j = d.axis j)
            ∧ e.bit (axKey n.val 4) 0 = (d.bit (axKey n.val 4) 0 || fast)
            ∧ Only d e [axKey n.val 1, axKey n.val 3, axKey n.val 4] (352 :: if fast && !d.bit (axKey n.val 4) 0 then [357] else [])
                { e with axes := d.axes }))
        ∧ (d.axUse n.val 0x0B ≠ 0 → Runs (.axisLimitInput dt n levels us) s (fun e => e.nat (axKey n.val 1) = 3
            ∧ e.axis n.val = { d.axis n.val with plan := .limit (d.axPos n.val) } ∧ (∀ j, j ≠ n.val → e.axis j = d.axis j)
            ∧ Only d e [axKey n.val 1, axKey n.val 4] [352] { e with axes := d.axes })))
      ∧ (8 ≤ inputs → inputs % 4 ≠ 3 →
        Runs (.axisFaultInput dt n levels us) s (fun e => e.nat (axKey n.val 1) = 6 ∧ e.num (axKey n.val 3) = 0 ∧ e.bit (axKey n.val 4) 0
          ∧ (e.axis n.val).plan = .none ∧ (e.axis n.val).vel = 0 ∧ (∀ j, j ≠ n.val → e.axis j = d.axis j)
          ∧ Only d e [axKey n.val 1, axKey n.val 3, axKey n.val 4] (353 :: if d.bit (axKey n.val 4) 0 then [] else [357])
              { e with axes := d.axes })))
    ∧ (∀ latch start, d.axUse n.val 0x0D ≤ us → (d.axis n.val).plan = .home 3 latch start → d.bit (axKey n.val 4) (d.edgeBit n.val) = false →
      y.bit (axKey n.val 4) (d.edgeBit n.val) → y.axHit n.val = 0 → inputs < 8 → inputs % 4 ≠ 3 →
      Runs (.axisHomeEdge dt n levels us) s (fun e => e.axis n.val = { d.axis n.val with plan := .home 4 (d.axPos n.val) start }
        ∧ (∀ j, j ≠ n.val → e.axis j = d.axis j) ∧ Only d e [axKey n.val 4] [] { e with axes := d.axes }))
    ∧ (d.nat (axSet n.val 0x0E) ≠ 0 → d.axState n.val = 1 → d.bit (axKey n.val 4) 5 = false →
      (d.axis n.val).restAt + msTicks (d.nat (axSet n.val 0x0E)) ≤ d.clk.now →
      Runs (.axisHoldDelay dt n) s (fun e => e.bit (axKey n.val 4) 5 ∧ (∀ i, i ≠ 5 → e.bit (axKey n.val 4) i = d.bit (axKey n.val 4) i)
        ∧ e.out = { kind := .axisHold, whom := [n.val], flds := [1] } :: d.out ∧ Only d e [axKey n.val 4] [] e))
    ∧ ∀ t rate, d.up 6 → (d.axis n.val).plan = .dwell t rate → (d.axis n.val).restAt + msTicks (d.axUse n.val 0x11).toNat ≤ d.clk.now →
      Runs (.axisDwellEnd dt n) s (fun e => e.nat (axKey n.val 1) = 2 ∧ e.num (axKey n.val 6) = t
        ∧ (e.axis n.val).plan = .move t rate ∧ (e.axis n.val).lim = d.axLimNow n.val ∧ (∀ j, j ≠ n.val → e.axis j = d.axis j)
        ∧ Only d e [axKey n.val 1, axKey n.val 4, axKey n.val 6]
            (if (e.axis n.val).forward = (d.axis n.val).forward then [] else [360]) { e with axes := d.axes })


/-- Frames and links (R372 to R383, R387, R388, R407), after what the device itself has sent has entered pipeline A: a good frame to a known station
is queued at its port alone, with its bytes and in its VID, and a new source is learnt; a bad frame is counted; a frame sent is counted; links come
up and go down; PAUSE ends; notices, ageing and the stash. -/
def Obligations.FramesMove : Prop :=
  ∀ (s : State) (dt : Nat) (p : Fin 8) (d : Dev), (s.dev.pass dt).up 7 → d = (s.dev.pass dt).sendOwn →
    (∀ f, (d.port p.val).up → d.flag (portSet p.val 1) → d.bit (portKey p.val 3) 1 = false →
      (d.port p.val).upAt + lineTicks f.data.length (d.port p.val).speed ≤ d.clk.now →
      (frameOk f = false ∨ f.data.length < 64 ∨ d.nat 0x3A0002 < f.data.length →
        Runs (.frameReceive dt p f) s (fun e => e.nat (portKey p.val 6) = min (d.nat (portKey p.val 6) + 1) 0xFFFFFFFF
          ∧ Only d e [portKey p.val 6] [] e))
      ∧ (∀ vid v g, frameOk f → 64 ≤ f.data.length → f.data.length ≤ d.nat 0x3A0002 → f.data.length + 4 ≤ 131072 → f.fill ≤ 65536 →
        g = pktOf f.data → g.pause = none → g.tci = none → g.ptp = false → isGroup g.dst = false → isGroup g.src = false →
        vid = d.nat (portSet p.val 4) → d.nat (portSet p.val 5) ≠ 1 → d.vlan vid = some v → v.2.1.testBit p.val → v.2.2.2 = false →
        d.ifaces.find? (fun i => i.vid == vid) = none → (d.pipe (pipeOf p.val)).mac.find macShape (macKey vid g.src) = none →
        (∀ (o : Fin 8) x, d.flag (portSet p.val 6) = false →
          (d.pipe (pipeOf p.val)).mac.get macShape (macKey vid g.dst) = some x → x.val.testBit 5 = false → x.val.testBit 6 = false →
          macPort x.val = o.val → o ≠ p → v.2.1.testBit o.val → (d.port o.val).up → (d.port o.val).sending = none →
          (d.port o.val).waiting = [] → (d.port o.val).pausedTo ≤ d.clk.now →
          Runs (.frameReceive dt p f) s (fun e =>
            (∃ h, e.port o.val = { d.port o.val with sending := some h } ∧ h.cls = 0 ∧ h.len = h.flds.length
              ∧ (v.2.2.1.testBit o.val → h.flds = asFields f.data)
              ∧ (v.2.2.1.testBit o.val = false → h.flds = asFields (g.bytes (some vid)) ∧ h.len = f.data.length + 4))
            ∧ (∀ j, j ≠ o.val → e.port j = d.port j) ∧ e.sw.pipeA = d.sw.pipeA ∧ e.sw.pipeB = d.sw.pipeB
            ∧ e.nat (portKey p.val 4) = (d.nat (portKey p.val 4) + 1) % 2 ^ 64
            ∧ Only d e [portKey p.val 4] [] { e with sw := d.sw }))
        ∧ (∀ x i y, d.flag (portSet p.val 6) → ((d.pipe (pipeOf p.val)).inserts.filter (fun t => decide (d.clk.now < t))).length ≤ 32 →
          (d.pipe (pipeOf p.val)).mac.insert macShape { key := macKey vid g.src, val := macFresh p.val } = some (x, i) →
          x.get macShape (macKey vid g.dst) = some y → y.val.testBit 5 = false → y.val.testBit 6 = false → macPort y.val = p.val →
          (d.pipe (1 - pipeOf p.val)).notices.length < 256 →
          Runs (.frameReceive dt p f) s (fun e => (e.pipe (pipeOf p.val)).mac = x
            ∧ (e.pipe (1 - pipeOf p.val)).mac = (d.pipe (1 - pipeOf p.val)).mac
            ∧ (e.pipe (1 - pipeOf p.val)).notices
                = (d.pipe (1 - pipeOf p.val)).notices ++ [{ kind := 0, key := macKey vid g.src, port := p.val, time := d.clk.now }]
            ∧ e.sw.ports = d.sw.ports ∧ e.nat (portKey p.val 4) = (d.nat (portKey p.val 4) + 1) % 2 ^ 64
            ∧ KeepsIdx d e [0x3A18 + p.val, 0x3A21] ∧ { e with sw := d.sw, frees := d.frees }.rest = d.rest))))
    ∧ (∀ f, (d.port p.val).sending = some f → f.cls ≠ 4 → (d.port p.val).waiting = [] →
      Runs (.frameTransmitEnd dt p) s (fun e => e.port p.val = { d.port p.val with sending := none }
        ∧ (∀ j, j ≠ p.val → e.port j = d.port j) ∧ e.out = { kind := .frameOut, whom := [p.val], flds := f.flds } :: d.out
        ∧ e.nat (portKey p.val 5) = (d.nat (portKey p.val 5) + 1) % 2 ^ 64 ∧ Only d e [portKey p.val 5] [] { e with sw := d.sw }))
    ∧ (∀ sp ab, d.flag (portSet p.val 1) → (d.port p.val).up = false → d.quiet = false → 2 ≤ p.val ∨ d.nat (portSet p.val 2) ≠ 4 →
      (∀ t, (d.port p.val).downAt = some t → t + 10 * msT ≤ d.clk.now) →
      Runs (.linkUp dt p sp ab) s (fun e => e.port p.val = { port0 with
            up := true, speed := portSpeed (d.nat (portSet p.val 2)) sp, ability := ab, upAt := d.clk.now
            discards := (d.port p.val).discards, discardAt := (d.port p.val).discardAt }
        ∧ e.nat (portKey p.val 1) = 2 ∧ e.nat (portKey p.val 2) = portSpeed (d.nat (portSet p.val 2)) sp
        ∧ e.nat (portKey p.val 3) = pauseBits (d.nat (portSet p.val 2)) (d.nat (portSet p.val 3)) ab
        ∧ (∀ j, j ≠ p.val → e.port j = d.port j)
        ∧ Only d e [portKey p.val 1, portKey p.val 2, portKey p.val 3, portKey p.val 9] [384] { e with sw := d.sw }))
    ∧ ((d.port p.val).up → Runs (.linkDown dt p) s (fun e => (e.port p.val).up = false ∧ (e.port p.val).waiting = []
        ∧ (e.port p.val).sending = none ∧ (e.port p.val).downAt = some d.clk.now ∧ e.nat (portKey p.val 1) = 1 ∧ e.nat (portKey p.val 2) = 0
        ∧ e.pendingEv 385
        ∧ (∀ i x, tabGet (e.pipe (pipeOf p.val)).mac.ways i = some x → macStatic x.val ∨ macRemote x.val ∨ macPort x.val ≠ p.val)
        ∧ (∀ j, j ≠ p.val → e.port j = d.port j) ∧ KeepsIdx d e [0x3A18 + p.val, 0x3A21] ∧ { e with sw := d.sw }.rest = d.rest))
    ∧ (∀ f, (d.port p.val).up → (d.port p.val).sending = none → (d.port p.val).waiting = [f] → f.cls ≤ 4 → (d.port p.val).pausedTo ≤ d.clk.now →
      Runs (.pauseExpiry dt p) s (fun e => e.port p.val = { d.port p.val with pausedTo := 0, sending := some f, waiting := [] }
        ∧ (∀ j, j ≠ p.val → e.port j = d.port j) ∧ Only d e [] [] { e with sw := d.sw }))
    ∧ ∀ (k : Fin 2) i x, tabGet (d.pipe k.val).mac.ways i = some x → macStatic x.val = false →
      (∀ n rest, (d.pipe k.val).notices = n :: rest → n.time + 250 ≤ d.clk.now → n.kind = 3 →
        (d.pipe k.val).mac.find macShape n.key = some i → macRemote x.val →
        Runs (.learnNotice dt k) s (fun e => (e.pipe k.val).mac = (d.pipe k.val).mac.clear i ∧ (e.pipe k.val).notices = rest
          ∧ e.pipe (1 - k.val) = d.pipe (1 - k.val) ∧ KeepsIdx d e [0x3A21] ∧ { e with sw := d.sw }.rest = d.rest))
      ∧ (d.nat 0x3A2001 ≠ 0 → (∀ t, tabGet (d.pipe k.val).swept i = some t → t + d.nat 0x3A2001 * secT / 4 ≤ d.clk.now) →
        (macHit x.val → Runs (.ageingSweep dt k i) s (fun e => (e.pipe k.val).mac = (d.pipe k.val).mac.set i { x with val := x.val % 256 }
            ∧ KeepsIdx d e [0x3A21] ∧ { e with sw := d.sw }.rest = d.rest))
        ∧ (macHit x.val = false → macAge x.val ≠ 3 → Gives (.ageingSweep dt k i) s (d.setPipe k.val { d.pipe k.val with
            swept := tabPut (d.pipe k.val).swept i d.clk.now
            mac := (d.pipe k.val).mac.set i { x with val := x.val % 256 + 256 * (macAge x.val + 1) } }))
        ∧ (macHit x.val = false → macAge x.val = 3 → macRemote x.val →
          Runs (.ageingSweep dt k i) s (fun e => (e.pipe k.val).mac = (d.pipe k.val).mac.clear i
            ∧ e.pipe (1 - k.val) = d.pipe (1 - k.val) ∧ KeepsIdx d e [0x3A21] ∧ { e with sw := d.sw }.rest = d.rest)))
      ∧ (∀ rest y j, (d.pipe k.val).freed → (d.pipe k.val).mac.order = i :: rest →
        ((d.pipe k.val).mac.clear i).insert { macShape with stash := 0 } x = some (y, j) →
        Runs (.stashReinsert dt k) s (fun e => (e.pipe k.val).mac = y ∧ e.pipe (1 - k.val) = d.pipe (1 - k.val)
          ∧ KeepsIdx d e [0x3A21] ∧ { e with sw := d.sw }.rest = d.rest))

/-- A window command with a table, key and value, loaded by a TABLE request (R62) or standing in 3A80 when 3A80:04 is written. -/
def tableLoaded (d : Dev) (q : Req) (cmd table key val : Nat) : Option (Nat × Nat × Nat) → Prop
  | some l => l = (table, key, val) ∧ key < 2 ^ 192 ∧ val < 2 ^ 192
      ∧ d.intake q opTable (leBytes 1 table ++ leBytes 1 cmd ++ leBytes 1 24 ++ leBytes 1 24 ++ leBytes 24 key ++ leBytes 24 val) = .execute
      ∧ (q.peer.kind = 1 ∨ q.peer.kind = 2) ∧ d.up 7
  | none => d.accepts q 0x3A80 4 (leBytes 1 cmd) (.num cmd) ∧ d.nat 0x3A8001 = table ∧ leNat (d.oct 0x3A8002) = key
      ∧ leNat (d.oct 0x3A8003) = val

/-- Table commands (R394, R397 to R406): a bad key runs nothing; on the IPv4 routes the six commands of the window, and a batch of one
record; a flush of a MAC table; errors found by the sweep, and the rewrite of a faulty entry. The window is free and nothing that the device sent still waits to
enter pipeline A. -/
def Obligations.TableCommands : Prop :=
  ∀ (s : State) (dt : Nat) (q : Req) (key val : Nat) (load : Option (Nat × Nat × Nat)) (d : Dev), d = s.dev.pass dt →
    d.windowBusy = false → d.sw.given = d.out.length →
    (∀ cmd table (c : Instr), (c, cmd) ∈ [(.tableInsert dt q load, 1), (.tableReplace dt q load, 2), (.tableDelete dt q load, 3)
        , (.tableLookup dt q load, 4), (.tableReadIndex dt q load, 5), (.tableFlush dt q load, 6)] →
      tableLoaded d q cmd table key val load → d.badKey table cmd key →
      Runs c s (fun e => e.nat 0x3A8005 = 4 ∧ e.oct 0x3A8006 = zeros 52
        ∧ Only d e [0x3A8001, 0x3A8002, 0x3A8003, 0x3A8005, 0x3A8006] [] { e with cs := d.cs, led := d.led }))
    ∧ (∀ c : Instr, (c = .tableInsert dt q load ∧ tableLoaded d q 1 5 key val load ∧ d.badKey 5 1 key = false
          ∧ d.sw.routes4.findIdx? (fun x => x.key == key) = none
        ∨ c = .tableReplace dt q load ∧ tableLoaded d q 2 5 key val load ∧ d.badKey 5 2 key = false) →
      d.badValue 5 key val = false → (routePut false { key := key, val := val } d.sw.routes4).length ≤ 8192 →
      routeNodes false (routePut false { key := key, val := val } d.sw.routes4) ≤ 2048 →
      Runs c s (fun e => e.nat 0x3A8005 = 0 ∧ e.sw.routes4 = routePut false { key := key, val := val } d.sw.routes4
        ∧ e.nat 0x3A6001 = e.sw.routes4.length
        ∧ e.sw = { d.sw with routes4 := e.sw.routes4, kept := e.sw.kept, badNodes := d.sw.badNodes.filter (fun b => b.1) }
        ∧ KeepsIdx d e [0x3A60, 0x3A80] ∧ { e with sw := d.sw, cs := d.cs, led := d.led }.rest = d.rest))
    ∧ (∀ i, tableLoaded d q 3 5 key val load → d.badKey 5 3 key = false → d.sw.routes4.findIdx? (fun x => x.key == key) = some i →
      Runs (.tableDelete dt q load) s (fun e => e.nat 0x3A8005 = 0 ∧ e.sw.routes4 = d.sw.routes4.filter (fun x => x.key != key)
        ∧ KeepsIdx d e [0x3A60, 0x3A80] ∧ { e with sw := d.sw, cs := d.cs, led := d.led }.rest = d.rest))
    ∧ (∀ (c : Instr) i x, (c = .tableLookup dt q load ∧ tableLoaded d q 4 5 key val load ∧ d.badKey 5 4 key = false
          ∧ d.sw.routes4.findIdx? (fun x => x.key == key) = some i
        ∨ c = .tableReadIndex dt q load ∧ tableLoaded d q 5 5 key val load ∧ d.badKey 5 5 key = false ∧ key = i ∧ i < 8192) →
      d.sw.routes4[i]? = some x →
      Runs c s (fun e => e.nat 0x3A8005 = 0 ∧ e.oct 0x3A8006 = leBytes 24 x.key ++ leBytes 24 x.val ++ leBytes 4 i
        ∧ Only d e [0x3A8001, 0x3A8002, 0x3A8003, 0x3A8005, 0x3A8006] [] { e with cs := d.cs, led := d.led }))
    ∧ (tableLoaded d q 6 1 key val load → d.badKey 1 6 key = false → key % 256 ≤ 7 → tabOk none d.sw.pipeA.mac.ways →
      Runs (.tableFlush dt q load) s (fun e => e.nat 0x3A8005 = 0
        ∧ (∀ i x, tabGet e.sw.pipeA.mac.ways i = some x ↔ tabGet d.sw.pipeA.mac.ways i = some x
            ∧ ¬((key.testBit 20 ∨ macStatic x.val = false) ∧ macPort x.val = key % 256
              ∧ (bitsOf key 19 8 = 0 ∨ bitsOf x.key 59 48 = bitsOf key 19 8)))
        ∧ e.sw.pipeB.mac = d.sw.pipeB.mac ∧ KeepsIdx d e [0x3A21, 0x3A80] ∧ { e with sw := d.sw, cs := d.cs, led := d.led }.rest = d.rest))
    ∧ (∀ data, data = [5, 1] ++ zeros 6 ++ leBytes 24 key ++ leBytes 24 val → key < 2 ^ 192 → val < 2 ^ 192 →
      d.accepts q 0x3A81 1 data (.oct data) →
      (d.badKey 5 1 key = false → d.badValue 5 key val = false → d.sw.routes4.findIdx? (fun x => x.key == key) = none →
        (routePut false { key := key, val := val } d.sw.routes4).length ≤ 8192 →
        routeNodes false (routePut false { key := key, val := val } d.sw.routes4) ≤ 2048 →
        Runs (.tableBatch dt q data) s (fun e => e.sw.routes4 = routePut false { key := key, val := val } d.sw.routes4
          ∧ e.oct 0x3A8102 = leBytes 4 1 ++ leBytes 2 0xFFFF ++ leBytes 2 0 ∧ e.pendingEv 398
          ∧ KeepsIdx d e [0x3A60, 0x3A81] ∧ { e with sw := d.sw, cs := d.cs, led := d.led }.rest = d.rest))
      ∧ (d.badKey 5 1 key → Runs (.tableBatch dt q data) s (fun e => e.oct 0x3A8102 = leBytes 4 0 ++ leBytes 2 0 ++ leBytes 2 4
          ∧ Only d e [0x3A8102] [398] { e with cs := d.cs, led := d.led })))
    ∧ (d.up 7 → d.sw.eccAt = none → ∀ t i, Runs (.shadowSweep dt t i .corrected) s (fun e =>
        e.nat 0x3A9001 = min (d.nat 0x3A9001 + 1) 0xFFFFFFFF ∧ e.sw = { d.sw with eccAt := some d.clk.now }
        ∧ Only d e [0x3A9001] [395] { e with sw := d.sw }))
    ∧ (∀ i x, d.up 7 → d.sw.routes4[i]? = some x → tabGet d.sw.rowFaults (rowOfEntry 5 i) = none →
      Runs (.shadowSweep dt 5 i .uncorrectable) s (fun e => e.sw.routes4 = d.sw.routes4.eraseIdx i
        ∧ e.sw.faulty = d.sw.faulty ++ [(5, x)] ∧ e.nat 0x3A9002 = min (d.nat 0x3A9002 + 1) 0xFFFFFFFF ∧ Raises d e [396]
        ∧ (∃ o, e.mor.offers = d.mor.offers ++ [o] ∧ o.code = 396 ∧ o.island = 7)
        ∧ KeepsIdx d e [0x3A60, 0x3A90] ∧ { e with sw := d.sw, mor := d.mor }.rest = d.rest))
    ∧ ∀ x, d.up 7 → d.up 9 → d.sw.faulty.find? (fun y => y.1 == 5 && y.2.key == key) = some (5, x) →
      Runs (.entryRewrite dt 5 key) s (fun e =>
        e.sw.routes4 = (if d.sw.routes4.any (fun y => y.key == x.key) then d.sw.routes4 else routePut false x d.sw.routes4)
        ∧ e.sw.faulty = d.sw.faulty.filter (fun y => !(y.1 == 5 && y.2.key == key))
        ∧ Only d e [0x3A6001, 0x3A6003] [] { e with sw := d.sw })

/-- The capture engine (R436, R442 to R450): arming, a trigger, a forced trigger, the end of a record, stop, release and re-arming; a
command that its state refuses raises 482 alone. And the fields of a frame (R437): CODE and OVER of an analog input, MIN, MAX and OVER of an
interval, AND and OR of the probe lines. -/
def Obligations.CaptureRecords : Prop :=
  ∀ (s : State) (dt : Nat) (q : Req) (d : Dev), d = s.dev.pass dt →
    (∀ g, d.freeSeg = some g → d.capState = 0 →
      (d.accepts q 0x4203 1 [1] (.num 1) → d.cap.rearm = none →
        Runs (.captureArm dt q) s (fun e => e.nat 0x421001 = (if d.nat 0x420007 = 1 then 2 else 1)
          ∧ e.cap = { d.cap with seg := g, start := (d.clk.tick / d.frameTicks + 1) * d.frameTicks, extra := 0, forced := false
                                 short := false, primedLow := false, primedHigh := false, last := none }
          ∧ Only d e [0x421001, 0x421006, 0x421007, 0x421008] [] { e with cap := d.cap, cs := d.cs, led := d.led }))
      ∧ (∀ t, d.cap.rearm = some t → t ≤ d.clk.tick →
        Runs (.captureRearm dt) s (fun e => e.nat 0x421001 = (if d.nat 0x420007 = 1 then 2 else 1)
          ∧ e.cap = { d.cap with seg := g, start := t, extra := 0, forced := false, short := false, rearm := none
                                 primedLow := false, primedHigh := false, last := none }
          ∧ Only d e [0x421001, 0x421006, 0x421007, 0x421008] [] { e with cap := d.cap })))
    ∧ (d.accepts q 0x4203 1 [1] (.num 1) → d.capState ≠ 0 ∨ d.cap.rearm.isSome ∨ d.freeSeg = none →
      Runs (.captureArm dt q) s (fun e => Only d e [] [482] { e with cs := d.cs, led := d.led }))
    ∧ (d.accepts q 0x4203 1 [2] (.num 2) →
      (d.capState = 1 ∨ d.capState = 2 → Runs (.captureForceTrigger dt q) s (fun e => e.nat 0x421001 = 3 ∧ e.cap.forced
        ∧ e.cap.tick = max ((d.clk.tick / 5 + 1) * 5) d.cap.start ∧ e.cap.source = 8 ∧ e.cap.records = d.cap.records
        ∧ Only d e [0x421001] [] { e with cap := d.cap, cs := d.cs, led := d.led }))
      ∧ (d.capState ≠ 1 → d.capState ≠ 2 → (d.capState = 3 → sampleAt d.cap.tick d.cap.frac ≠ (d.clk.tick / 5 + 1) * 5) →
        Runs (.captureForceTrigger dt q) s (fun e => Only d e [] [482] { e with cs := d.cs, led := d.led }))
      ∧ (d.capState = 3 → sampleAt d.cap.tick d.cap.frac = (d.clk.tick / 5 + 1) * 5 →
        Gives (.captureForceTrigger dt q) s ((d.heard q).ack q 0x4203 1 [2] 0)))
    ∧ (∀ b, d.accepts q 0x4203 1 [3] (.num 3) →
      (d.capState = 1 ∨ d.capState = 2 ∨ d.capState = 4 ∨ d.capState = 0 ∧ d.cap.rearm.isSome →
        Runs (.captureStop dt q b) s (fun e => e.nat 0x421001 = 0 ∧ e.cap = { d.cap with rearm := none }
          ∧ Only d e [0x421001] [] { e with cap := d.cap, cs := d.cs, led := d.led }))
      ∧ (d.capState = 3 → Runs (.captureStop dt q b) s (fun e => e.nat 0x421001 = 0 ∧ (tabGet e.cap.records d.cap.seg).isSome
          ∧ (∀ i, i ≠ d.cap.seg → tabGet e.cap.records i = tabGet d.cap.records i)
          ∧ e.nat 0x421002 = min (d.nat 0x421002 + 1) 0xFFFFFFFF
          ∧ Only d e [0x421001, 0x421002, 0x421006, 0x421007, 0x421008] [480]
              { e with cap := d.cap, frees := d.frees, cs := d.cs, led := d.led })))
    ∧ (∀ data (n : Nat), d.accepts q 0x4203 2 data (.num n) → (∃ r ∈ d.cap.records, n = 0xFF ∨ r.1 = n) →
      Runs (.captureRelease dt q data) s (fun e => e.cap.records = d.cap.records.filter (fun r => decide (n ≠ 0xFF ∧ r.1 ≠ n))
        ∧ e.nat 0x421008 = (e.cap.records.map (fun r => 2 ^ r.1)).sum
        ∧ (d.capState = 4 → e.nat 0x421001 = 0 ∧ e.cap.rearm = some ((d.clk.tick / d.frameTicks + 1) * d.frameTicks))
        ∧ (d.capState ≠ 4 → e.nat 0x421001 = d.nat 0x421001 ∧ e.cap.rearm = d.cap.rearm)
        ∧ Only d e [0x421001, 0x421006, 0x421007, 0x421008] [] { e with cap := d.cap, cs := d.cs, led := d.led }))
    ∧ (d.capState = 1 → d.nat 0x420005 ≤ d.framesBefore d.clk.tick → Gives (.captureFillComplete dt) s (d.setN 0x421001 2))
    ∧ (∀ x edges u, d.up 3 → 1 ≤ d.nat 0x420101 → d.nat 0x420101 ≤ 4 → d.nat 0x420103 ≠ 1 → d.cap.primedLow →
      d.nat 0x420104 ≤ x.codes.getD (d.nat 0x420101 - 1) 0 →
      lastEdge edges true (d.clk.tick / 5 * 800 - 1600) (d.clk.tick / 5 * 800) = some u → d.cap.start ≤ sampleAt (u / 160) (u % 160) →
      (d.capState = 2 → Runs (.captureTrigger dt [x] edges) s (fun e => e.nat 0x421001 = 3 ∧ e.cap.tick = u / 160
        ∧ e.cap.frac = u % 160 ∧ e.cap.place = 0 ∧ e.cap.source = d.nat 0x420101 ∧ e.cap.forced = false
        ∧ e.cap.records = d.cap.records ∧ Only d e [0x421001] [] { e with cap := d.cap }))
      ∧ (d.capState = 3 → d.cap.forced = false → Runs (.captureTrigger dt [x] edges) s (fun e =>
          e.cap.extra = min (d.cap.extra + 1) 0xFFFFFFFF ∧ e.cap.tick = d.cap.tick ∧ e.cap.records = d.cap.records
          ∧ e.nat 0x421004 = min (d.nat 0x421004 + 1) 0xFFFFFFFF ∧ Only d e [0x421004] [] { e with cap := d.cap })))
    ∧ (∀ b, d.capState = 3 → d.framesBefore (sampleAt d.cap.tick d.cap.frac) + 1 + d.nat 0x420006 ≤ d.framesBefore d.clk.tick → Runs (.captureRecordComplete dt b) s (fun e =>
        (∃ r, tabGet e.cap.records d.cap.seg = some r ∧ r.header.length = 64
          ∧ r.frames.length = min (min (d.framesBefore (sampleAt d.cap.tick d.cap.frac)) (d.nat 0x420005) + 1 + d.nat 0x420006) d.segFrames
              * d.frameSize)
        ∧ (∀ i, i ≠ d.cap.seg → tabGet e.cap.records i = tabGet d.cap.records i)
        ∧ e.nat 0x421002 = min (d.nat 0x421002 + 1) 0xFFFFFFFF
        ∧ (d.nat 0x420008 ≠ 1 → e.nat 0x421001 = 0 ∧ e.cap.rearm = d.cap.rearm)
        ∧ (d.nat 0x420008 = 1 → e.freeSeg = none → e.nat 0x421001 = 4) ∧ (d.nat 0x420008 = 1 → e.freeSeg ≠ none → e.nat 0x421001 = 0 ∧ e.cap.rearm = some ((d.clk.tick / d.frameTicks + 1) * d.frameTicks))
        ∧ Only d e [0x421001, 0x421002, 0x421006, 0x421007, 0x421008] [480] { e with cap := d.cap, frees := d.frees }))
    ∧ (∀ x, x < 4096 → leNat (analogPart true [x]) = x + if x = 0 ∨ x = 4095 then 32768 else 0)
    ∧ (∀ xs w, xs ≠ [] → (∀ x ∈ xs, x < 4096) → w = leNat (analogPart false xs) →
      w % 65536 ∈ xs ∧ w / 65536 % 32768 ∈ xs ∧ (∀ x ∈ xs, w % 65536 ≤ x ∧ x ≤ w / 65536 % 32768)
      ∧ (w.testBit 31 ↔ ∃ x ∈ xs, x = 0 ∨ x = 4095))
    ∧ ∀ ws (b : Nat), ws ≠ [] → (∀ w ∈ ws, w < 2 ^ 32) → b < 32 →
      ((leNat ((probePart false ws).take 4)).testBit b ↔ ∀ w ∈ ws, w.testBit b)
      ∧ ((leNat ((probePart false ws).drop 4)).testBit b ↔ ∃ w ∈ ws, w.testBit b)

/-- What a reset of kinds 1 to 6 leaves (R468, R471) where the boot ROM starts the confirmed bank: the reset records and a Thaw; nothing
staged, waiting, held or planned; Moraine and its copy but for kind 1; the store with the count of resets. -/
def Restarted (d e : Dev) (kind detail : Nat) : Prop :=
  e.nat 0x206002 = kind ∧ e.nat 0x206004 = detail ∧ e.nat 0x205002 = 3 ∧ e.pwr.thawing ∧ e.pwr.hibernating = false ∧ e.pwr.kind = kind
    ∧ e.pwr.detail = detail ∧ e.nat 0x440201 = (if d.nat 0x440001 = 1 ∨ d.nat 0x440001 = 2 then (if kind = 6 then d.nat 0x440201 else 1) else 0)
    ∧ e.cs = noSet ∧ e.nvDue = [] ∧ e.led.cache = [] ∧ e.led.waiting = [] ∧ e.led.parts = [] ∧ e.tasks = [] ∧ e.cars = []
    ∧ e.resv = dev0.resv ∧ e.rounds = dev0.rounds ∧ e.sched = dev0.sched ∧ e.cap = dev0.cap ∧ e.wo = dev0.wo ∧ e.slots = []
    ∧ e.mor.flash = d.mor.flash ∧ e.mor.ring = (if kind = 1 then [] else d.mor.ring) ∧ e.frees = d.frees ∧ e.clk.now = d.clk.now
    ∧ e.wit = { d.wit with window := none, fileLost := false }
    ∧ e.nv = tabPut (if kind = 5 ∨ kind = 6 then d.nvDue.foldl (fun t x => tabPut t x.1 x.2) d.nv else d.nv) 0x206003
        (.num (min (d.nat 0x206003 + 1) 0xFFFFFFFF : Nat))

/-- Every cause of a reset (R452, R454, R464, R468) begins a Thaw of its kind, with its detail, where the confirmed bank stands: power-on,
a brown-out, RESET_N, the watchdog, the software, and the wakes from Hibernate. -/
def Obligations.ResetsRestart : Prop :=
  ∀ (s : State) (dt : Nat) (d : Dev) (x : Desc), d = s.dev.pass dt → d.upd.desc = some x → x.trial = false → d.bankOk x.active →
    (∀ (strap : Fin 4) us, 2000 ≤ us → Runs (.powerOnReset dt us strap) s (Restarted (d.setN 0x440001 strap.val) · 1 (if d.pwr.orderly then 1 else 0)))
    ∧ (∀ (supply : Fin 8) ns, d.up 2 → d.pwr.vmainEn → 1000 < ns → Runs (.brownOut dt supply ns) s (Restarted d · 2 supply.val))
    ∧ (∀ ns, d.up 2 → 5000 ≤ ns → Runs (.resetNPulse dt ns) s (Restarted d · 3 0))
    ∧ (∀ ns, ns < 5000 → Gives (.resetNPulse dt ns) s d)
    ∧ (∀ ms, d.up 8 → d.nat 0x206005 ≤ ms → Runs (.watchdogReset dt ms) s (Restarted d · 4 0))
    ∧ (∀ q data, d.accepts q 0x2060 1 data (.num 0x5A) → Runs (.softwareReset dt q data) s (Restarted d · 5 0))
    ∧ (d.pwr.hibernating → d.pwr.glacier = false →
      (∀ us, d.bit 0x205003 0 → 1000 ≤ us → Runs (.wakeNWake dt us) s (Restarted d · 6 1))
      ∧ (d.bit 0x205003 2 → d.nat 0x205004 ≠ 0 → d.pwr.vmainAt + d.nat 0x205004 * (secT - 25000) ≤ d.clk.now → Runs (.wakeTimerExpiry dt) s (Restarted d · 6 3)))

/-- What the entry to Hibernate leaves (R464): islands 3 to 10 off and with them fleet time, the axes disabled, the store complete, the set closed. -/
def Asleep (d e : Dev) : Prop :=
  e.pwr.hibernating ∧ e.nat 0x205002 = 2 ∧ (∀ i, 3 ≤ i → i ≤ 10 → e.island i = 0) ∧ e.pwr.vmainEn = false ∧ e.cs = noSet ∧ e.nvDue = []
    ∧ (d.flag 0x461001 → e.wit.window = none) ∧ (∀ n, n < 8 → e.bit (axKey n 4) 6 = false) ∧ e.upd = d.upd ∧ e.tasks = d.tasks
    ∧ e.timeState = 0 ∧ e.clk.now = d.clk.now

/-- Power commands (R462 to R464, R467, R472): Idle, the return to Run, Hibernate and Glacier, and what refuses them; the wake from
Glacier, and the counts saved each second. -/
def Obligations.PowerStates : Prop :=
  ∀ (s : State) (dt : Nat) (q : Req) (d : Dev), d = s.dev.pass dt → d.pwr.due = none →
    (d.accepts q 0x2050 1 [2] (.num 2) → d.powerRefusal 2 = 0 → d.nat 0x205002 = 0 →
      Runs (.powerIdle dt q) s (fun e => e.nat 0x205002 = 1
        ∧ (∀ i, i = 5 ∨ i = 6 → e.island i = if d.island i = 3 then 1 else d.island i)
        ∧ Only d e [0x205002, 0x202005, 0x202006] [20] { e with cs := d.cs, led := d.led }))
    ∧ (d.accepts q 0x2050 1 [1] (.num 1) → d.powerRefusal 1 = 0 → d.nat 0x205002 = 1 → d.pwr.recDue = [] →
      Runs (.powerRun dt q) s (fun e => e.nat 0x205002 = 0
        ∧ (∀ i, i = 5 ∨ i = 6 → e.island i = if d.island i = 1 then 3 else d.island i)
        ∧ Only d e [0x205002, 0x202005, 0x202006] [20] { e with cs := d.cs, led := d.led }))
    ∧ (d.accepts q 0x2050 1 [3] (.num 3) → d.powerRefusal 3 = 0 → Runs (.powerHibernate dt q) s (Asleep d))
    ∧ (d.accepts q 0x2050 1 [4] (.num 4) → d.powerRefusal 4 = 0 → Runs (.powerGlacier dt q) s (fun e => Asleep d e ∧ e.pwr.glacier
        ∧ e.pwr.orderly ∧ e.pwr.aonEn = false ∧ e.pwr.vaonOk = false ∧ e.island 2 = 0))
    ∧ (∀ v (c : Instr), (c, v) ∈ [(.powerRun dt q, 1), (.powerIdle dt q, 2), (.powerHibernate dt q, 3), (.powerGlacier dt q, 4)] →
      d.accepts q 0x2050 1 [BitVec.ofNat 8 v] (.num v) → d.powerRefusal v ≠ 0 →
      Runs c s (fun e => Only d e [] [21] { e with cs := d.cs, led := d.led }))
    ∧ (∀ us, d.pwr.glacier → 10000 ≤ us → Gives (.glacierWake dt us) s { d with pwr := { d.pwr with aonEn := true } })
    ∧ (d.up 8 → d.dueIn .counts secT →
      Gives (.countsSave dt) s { d.mark .counts d.clk.now with pwr := { d.pwr with saved := d.od.filter (fun x => isCount x.1) } })

/-- Islands and supplies (R453 to R459, R467, R470, R554, R571): VMAIN, an island's turn, its start and its failure, recoveries, the loss
of supplies, the GPIO outputs and the temperatures. -/
def Obligations.IslandsAndSupplies : Prop :=
  ∀ (s : State) (dt : Nat) (i : Nat) (d : Dev), d = s.dev.pass dt → 3 ≤ i → i ≤ 10 →
    (d.up 2 → d.pwr.vmainEn → d.pwr.vmainPg = false → d.pwr.vmainAt + 100 * msT ≤ d.clk.now →
      Gives (.vmainPgTimeout dt) s (({ d with pwr := { d.pwr with vmainEn := false, vmainAt := d.clk.now } } : Dev).raise 24 0))
    ∧ (d.up 2 → d.pwr.thawing → d.pwr.vmainEn = false → d.pwr.vmainAt + secT ≤ d.clk.now →
      Gives (.vmainRetry dt) s { d with pwr := { d.pwr with vmainEn := true, vmainAt := d.clk.now } })
    ∧ (d.up 2 → d.noneStarting → needsCart i = false ∨ d.cart.clockOk = true → d.upd.recovery = false → d.owed = false →
      d.thawTurn.head? = some i → d.pwr.vmainEn →
      Runs (.thawIslandStart dt i) s (fun e => e.island i = 2 ∧ (i = 9 → e.pwr.vmainPg ∧ e.nat 0x207001 = 0xFF ∧ e.pwr.octal = false
          ∧ e.out = { kind := .flashReset, whom := [], flds := [10000] } :: d.out)
        ∧ (i ≠ 9 → e.nat 0x207001 = d.nat 0x207001) ∧ Only d e [0x202000 + i, 0x207001] [] { e with pwr := d.pwr }))
    ∧ (∀ x, x = d.setN 0x202009 3 → d.island 9 = 2 → d.pwr.recDue = [] → d.pwr.thawing → d.pwr.recNow = none →
      (x.thawTurn ≠ [] → Runs (.islandStarted dt 9 []) s (fun e => e.island 9 = 3 ∧ e.pwr.thawing ∧ e.pwr.octal ∧ Only d e [0x202009] [] { e with pwr := d.pwr }))
      ∧ (x.thawTurn = [] → x.noneStarting → d.upd.onTrial = false → d.role = 0 → d.wit.late = 0 →
        Runs (.islandStarted dt 9 []) s (fun e => e.island 9 = 3 ∧ e.pwr.thawing = false ∧ e.nat 0x205002 = 0 ∧ e.wo.wdRun ∧ e.pwr.octal
          ∧ Only d e [0x202009, 0x205002, 0x207002, 0x440202] (19 :: if d.nat 0x205002 = 0 then [] else [20])
              { e with pwr := d.pwr, wo := d.wo })))
    ∧ (d.island i = 2 → d.pwr.failedOnce.contains i = false →
      Runs (.islandStartTimeout dt i) s (fun e => e.island i = (if d.pwr.recNow = some i then 4 else 0)
        ∧ e.pwr = { d.pwr with failedOnce := d.pwr.failedOnce ++ [i] } ∧ Only d e [0x202000 + i] [] { e with pwr := d.pwr }))
    ∧ (d.island i = 2 → d.pwr.failedOnce.contains i → d.pwr.thawing → i = 8 ∨ i = 9 →
      Runs (.islandStartTimeout dt i) s (fun e => (∀ j, 3 ≤ j → j ≤ 10 → e.island j = 0) ∧ e.pwr.thawing = false
        ∧ e.pwr.thawFails = d.pwr.thawFails + 1 ∧ e.pwr.failAt = d.clk.now ∧ e.timeState = 0
        ∧ (d.timeState = 0 → Raises d e [22] ∧ Keeps d e (0x440202 :: (List.range 8).map (0x202003 + ·))
            ∧ { e with pwr := d.pwr, mor := d.mor }.rest = d.rest)))
    ∧ (d.up 2 → d.pwr.thawing = false → d.pwr.hibernating = false → 0 < d.pwr.thawFails → d.pwr.thawFails < 3 → d.pwr.failAt + secT ≤ d.clk.now →
      Gives (.thawRetry dt) s { d with pwr := { d.pwr with
        thawing := true, thawAt := d.clk.now, passed := [], failed := [], failedOnce := [] } })
    ∧ (d.up 2 → d.up i → d.pwr.recNow = none → d.noneStarting → d.pwr.recDue = [] → d.pwr.recTimes = [] →
      Runs (.islandRecoveryStart dt i) s (fun e => e.island i = 4 ∧ e.pwr.recNow = some i ∧ e.pwr.recDue = []
        ∧ e.pwr.recTimes = [(i, d.clk.now)] ∧ e.pendingEv 16 ∧ (∀ j, j ≠ i → e.island j = d.island j) ∧ e.tasks = d.tasks
        ∧ (i = 6 → d.stopped = false → StopBegins d e 9 (d.nat 0x38100A) ∧ Only d.capWhiteout e (0x202006 :: stopKeys) (16 :: 320 :: haltSrcs d)
            { e with pwr := d.pwr, wo := d.wo, axes := d.axes, nv := d.nv, pair := d.pair })))
    ∧ (d.up i → d.pwr.recNow = some i → d.pwr.recDue = [] →
      Runs (.islandRecoveryEnd dt i) s (fun e => e.pwr = { d.pwr with recNow := none }
        ∧ e.nat (0x202100 + i) = min (d.nat (0x202100 + i) + 1) 0xFFFF ∧ Only d e [0x202100 + i] [17] { e with pwr := d.pwr }))
    ∧ Runs (.alwaysOnSupplyLoss dt) s (fun e => (∀ j, 2 ≤ j → j ≤ 10 → e.island j = 0) ∧ e.pwr.vaonOk = false ∧ e.pwr.vmainEn = false
        ∧ e.timeState = 0 ∧ (d.timeState = 0 → Only d e (0x207001 :: (List.range 9).map (0x202002 + ·)) [] { e with pwr := d.pwr }))
    ∧ Runs (.vbakLoss dt) s (fun e => e.nat 0x461005 = d.nat 0x461005 ||| 7 ∧ e.upd = { d.upd with resume := 0, sigId := zeros 16, fallback := 0 }
        ∧ e.wit = { d.wit with sealOff := false, fileLost := true } ∧ e.pwr = { d.pwr with orderly := false }
        ∧ Only d e [0x461005] [] { e with upd := d.upd, wit := d.wit, pwr := d.pwr })
    ∧ (∀ q data (v : Nat) levels, d.accepts q 0x2090 2 data (.num v) → Runs (.gpioOutput dt q data levels) s (fun e => e.nat 0x209002 = v
        ∧ (∀ b, b < 16 → e.bit 0x209003 b = if d.bit 0x209001 b then v.testBit b else levels.testBit b)
        ∧ Only d e [0x209002, 0x209003] [] { e with cs := d.cs, led := d.led }))
    ∧ (∀ t : Int, d.up 8 → d.dueIn .temperature (10 * msT) → -500 ≤ t → t ≤ 1600 →
      (t < d.num 0x208003 → t ≤ 1250 → d.pwr.warm = false → d.pwr.hot = false → (tabGet d.od 0x208002).isSome →
        Runs (.temperatureRead dt (List.replicate 8 t)) s (fun e => e.num 0x208001 = t ∧ e.num 0x208002 = max (d.num 0x208002) t
          ∧ e.oct 0x208004 = (List.replicate 8 t).flatMap (fun x => leBytes 2 (ofSigned 16 x))
          ∧ Only d e [0x208001, 0x208002, 0x208004, 0x486101] [] { e with res := d.res, marks := d.marks }))
      ∧ (1250 < t → d.pwr.hot = false → Runs (.temperatureRead dt (List.replicate 8 t)) s (fun e => e.num 0x208001 = t ∧ e.pwr.hot
          ∧ e.pendingEv 2 ∧ KeepsIdx d e [0x2080, 0x4861])))

/-- A pair-link frame of a TYPE that passes the checks of R477 on an enabled lane of a unit of a pair. -/
def linkOk (d : Dev) (h : PairHdr) (typ : Nat) : Prop := d.up 2 ∧ d.inPair ∧ d.bit 0x440002 h.lane.val ∧ h.ok ∧ h.typ = typ

/-- The pair link (R477 to R480, R482, R486 to R489, R495, R496): heartbeats out and in, a lane lost, stop notices, Cairns and change sets
with their acknowledgements, all read from the bytes of a frame. A frame that fails its checks is counted, and breaks the run of valid heartbeats. -/
def Obligations.PairLink : Prop :=
  ∀ (s : State) (dt : Nat) (lane : Fin 2) (frame : List Byte) (h : PairHdr) (d : Dev), d = s.dev.pass dt → h = pairOf lane frame →
    (d.up 2 → d.inPair → d.since d.pair.beatAt (msTicks (d.nat 0x440003)) →
      Runs (.heartbeatSend dt) s (fun e => e.nat 0x440202 = d.condition ∧ e.pair.beatAt = some d.clk.now
        ∧ (∀ n, n < 2 → d.bit 0x440002 n → (e.pair.lane n).txSeq = ((d.pair.lane n).txSeq + 1) % 2 ^ 32
            ∧ ∃ x ∈ e.out, x.kind = .heartbeat ∧ x.whom = [n] ∧ x.flds = [d.num 0x440001, ((d.pair.lane n).txSeq : Int), d.num 0x440203
                , d.num 0x440201, (d.condition : Int), (d.nat 0x440205 / 4 : Nat), d.num 0x44020C, d.num 0x380103, d.num 0x44020F
                , d.num 0x440208, (d.pair.cairnTerm : Int), if d.noTime then 0 else (d.fleetNs / 1000000 : Nat)])
        ∧ (∀ n, n < 2 → d.bit 0x440002 n = false → e.pair.lane n = d.pair.lane n)
        ∧ Only d e [0x440202] [] { e with pair := d.pair }))
    ∧ (d.up 2 → d.inPair → d.bit 0x440002 lane.val → h.ok = false →
      Runs (.heartbeatReceive dt lane frame) s (fun e => e.nat 0x440210 = min (d.nat 0x440210 + 1) 0xFFFFFFFF
        ∧ e.pair = d.pair.setLane lane.val { d.pair.lane lane.val with rxRun := 0 } ∧ Only d e [0x440210] [] { e with pair := d.pair }))
    ∧ (∀ b, b = heartbeatOf h.payload → linkOk d h 1 → d.role = 2 →
      (h.term ≤ d.nat 0x440203 → d.nat 0x440206 ≠ 4 → Runs (.heartbeatReceive dt lane frame) s (fun e =>
        e.nat 0x440206 = b.role ∧ e.nat 0x440207 = b.condition
        ∧ e.nat 0x440204 = max (d.nat 0x440204) h.term ∧ e.bit 0x440205 (2 + lane.val)
        ∧ (e.pair.lane lane.val).rxRun = (d.pair.lane lane.val).rxRun + 1 ∧ (e.pair.lane lane.val).lastAt = some d.clk.now
        ∧ e.bit 0x440205 lane.val = (d.bit 0x440205 lane.val || decide (10 ≤ (d.pair.lane lane.val).rxRun + 1))
        ∧ e.pair.paired = (if d.pair.isolated || d.pair.solo then d.pair.paired else decide (3 ≤ b.role ∧ b.role ≤ 5))
        ∧ e.pair.switch_ = (if d.pair.switch_ = 1 ∧ b.condition = 6 then 2 else d.pair.switch_)
        ∧ Only d e [0x440204, 0x440205, 0x440206, 0x440207]
            (if d.bit 0x440205 lane.val = false ∧ 10 ≤ (d.pair.lane lane.val).rxRun + 1 then [485] else []) { e with pair := d.pair }))
      ∧ (d.nat 0x440203 < h.term → b.role = 2 ∨ b.role = 5 → Runs (.heartbeatReceive dt lane frame) s (fun e =>
          e.nat 0x440201 = 3 ∧ e.nat 0x205002 = 2 ∧ e.pwr.hibernating ∧ e.pwr.vmainEn = false ∧ ∀ i, 3 ≤ i → i ≤ 10 → e.island i = 0)))
    ∧ (∀ n : Fin 2, d.up 2 → d.inPair → d.bit 0x440205 n.val → d.since (d.pair.lane n.val).lastAt (msTicks (d.nat 0x440004)) →
      (d.role = 2 → d.pair.paired → d.bit 0x440205 (2 + (1 - n.val)) = false → d.pair.moving = none →
        Runs (.laneLoss dt n) s (fun e => e.bit 0x440205 n.val = false ∧ e.bit 0x440205 (2 + n.val) = false ∧ (e.pair.lane n.val).rxRun = 0
          ∧ e.pair.isolated ∧ e.pair.paired = false ∧ e.pair.isoAt = d.clk.now ∧ e.pair.lostAt = d.clk.now
          ∧ (∃ x, e.mor.offers = d.mor.offers ++ [x] ∧ x.code = 486 ∧ x.island = 2)
          ∧ Only d e [0x440202, 0x440205] [484, 486] { e with pair := d.pair, mor := d.mor }))
      ∧ ∀ set gen b, d.pair.moving = some (n.val, set, gen, b) → d.clk.now < d.pair.busyTill → d.laneUp (1 - n.val) →
        Runs (.laneLoss dt n) s (fun e => e.bit 0x440205 n.val = false ∧ e.pair.moving = some (1 - n.val, set, gen, b)
          ∧ e.pair.busyTill = d.clk.now + laneTicks b.length))
    ∧ (linkOk d h 4 → d.role ≠ 2 → (∀ o, d.pair.notice = some o → o.time ≤ fieldT h.payload 8) →
      Runs (.stopNoticeReceive dt lane frame) s (fun e =>
        e.pair = { d.pair with notice := some { seq := fieldN h.payload 0 4, state := fieldN h.payload 4 1, level := fieldN h.payload 5 1
                                                causes := fieldN h.payload 6 2, time := fieldT h.payload 8 } }
        ∧ Only d e [0x440204] [] { e with pair := d.pair }))
    ∧ (∀ gen data, gen = fieldN h.payload 0 4 → data = h.payload.drop 12 → linkOk d h 5 → d.role ≠ 2 → fieldN h.payload 4 4 = 0 →
      fieldN h.payload 8 4 = data.length →
      Runs (.settingsPartReceive dt lane frame true) s (fun e => e.nat 0x44020F = gen ∧ e.pair.parts = none
        ∧ e.nv = tabPut ((settingsRecords data.length data).foldl Dev.storeRecord d).nv 0x44020F (.num gen)
        ∧ Only d e [0x440204, 0x44020F] [] { e with pair := d.pair, nv := d.nv, sw := d.sw })
      ∧ Runs (.settingsPartReceive dt lane frame false) s (fun e => e.nv = d.nv ∧ e.pair.parts = none
          ∧ Only d e [0x440204] [492] { e with pair := d.pair }))
    ∧ (∀ b, linkOk d h 6 → d.pair.unacked = some (fieldN h.payload 0 4, b) →
      Runs (.settingsAckReceive dt lane frame) s (fun e => e.pair = { d.pair with unacked := none }
        ∧ Only d e [0x440204] (if fieldN h.payload 4 4 = 1 then [492] else []) { e with pair := d.pair }))
    ∧ (∀ gen b, d.up 2 → d.role = 2 → d.pair.setAt + secT ≤ d.clk.now → d.pair.unacked = some (gen, b) → 1 ≤ b.length → b.length ≤ 4084 →
      d.bit 0x440205 0 → d.bit 0x440002 0 →
      Runs (.settingsRepeat dt) s (fun e => e.pair.busyTill = max d.pair.busyTill d.clk.now + laneTicks b.length
        ∧ e.pair.setAt = d.clk.now ∧ e.pair.moving = some (0, true, gen, b)
        ∧ e.out = { kind := .settingsPart, whom := [0], flds := [d.num 0x440001, (d.pair.lane0.txSeq : Int), d.num 0x440203, (gen : Int)
                    , 0, (b.length : Int)] ++ asFields b } :: d.out
        ∧ Only d e [] [] { e with pair := d.pair }))
    ∧ (d.role = 2 → d.up 8 → d.peerHeard → 3 ≤ d.nat 0x440206 → d.nat 0x440206 ≤ 5 → d.pair.tookAt ≠ some d.cairnInstant →
      (d.clk.now < d.pair.busyTill →
        Gives (.cairnTake dt) s ((d.setPair (fun p => { p with tookAt := some d.cairnInstant })).raise 490 1))
      ∧ (d.pair.busyTill ≤ d.clk.now → d.bit 0x440205 0 →
        ∀ c, c = d.cairnNow ((d.pair.gen + 1) % 2 ^ 32) (decide (d.pair.switch_ = 2)) →
        Runs (.cairnTake dt) s (fun e => e.pair.gen = (d.pair.gen + 1) % 2 ^ 32 ∧ e.nat 0x44020A = (cairnBytes c).length
          ∧ e.pair.sent.head? = some (e.pair.gen, d.nat 0x440203, d.clk.now, decide (d.pair.switch_ = 2))
          ∧ e.pair.tookAt = some d.cairnInstant ∧ e.pair.moving = some (0, false, e.pair.gen, cairnBytes c)
          ∧ e.pair.busyTill = d.clk.now + laneTicks (cairnBytes c).length ∧ Only d e [0x44020A] [] { e with pair := d.pair })))
    ∧ (∀ c, linkOk d h 2 → 3 ≤ d.role → d.role ≤ 5 → d.pair.slotA = none → fieldN h.payload 4 4 = 0 →
      cairnOf (h.payload.drop 8) = some c → c.gen = fieldN h.payload 0 4 → c.term = h.term → c.final = false →
      Runs (.cairnPartReceive dt lane frame) s (fun e =>
        e.pair.slotA = some { term := c.term, gen := c.gen, got := [], cairn := some c }
        ∧ e.pair.slotB = d.pair.slotB ∧ e.nat 0x440208 = c.gen ∧ e.nat 0x44020A = fieldN (h.payload.drop 8) 22 4 ∧ e.pair.cairnTerm = c.term
        ∧ Only d e [0x440204, 0x440208, 0x44020A] [] { e with pair := d.pair }))
    ∧ ∀ x, linkOk d h 3 → d.role = 2 →
      d.pair.sent.find? (fun y => decide (y.1 = fieldN h.payload 0 4 ∧ y.2.1 = fieldN h.payload 4 4)) = some x →
      (x.2.2.2 = false → d.pair.isolated = false → d.pair.solo = false → d.up 7 → d.up 9 →
        Runs (.cairnAckReceive dt lane frame) s (fun e => e.nat 0x440208 = fieldN h.payload 0 4 ∧ e.pair.cairnTerm = fieldN h.payload 4 4
          ∧ e.pair.cairnAt = x.2.2.1 ∧ e.pair.sent = d.pair.sent.filter (fun y => decide (x.2.2.1 < y.2.2.1))
          ∧ e.pair.busyTill = min d.pair.busyTill d.clk.now
          ∧ (∀ n, (e.car n).heldBack = (d.car n).heldBack.filter (fun g => decide (x.2.2.1 ≤ g.2.1)))
          ∧ Only d e [0x440204, 0x440208, 0x44020B] [] { e with pair := d.pair, cars := d.cars }))
      ∧ (x.2.2.2 = true → Runs (.cairnAckReceive dt lane frame) s (fun e => e.nat 0x440201 = 3 ∧ e.nat 0x205002 = 2
          ∧ e.pwr.hibernating ∧ (∀ i, 3 ≤ i → i ≤ 10 → e.island i = 0) ∧ e.pwr.vmainEn = false))

/-- Duty and standby roles (R475, R481, R489, R490, R495, R500 to R502): the election, wakes, takeover, SOLO, switch-overs and drills.
The units count 2 s and 60 s from the wake, which is the model's choice (log 21). -/
def Obligations.PairRoles : Prop :=
  ∀ (s : State) (dt : Nat) (q : Req) (d : Dev), d = s.dev.pass dt →
    (d.role = 1 → d.up 8 → d.upd.onTrial = false → d.peerHeard = false → d.pair.electAt + msTicks (d.nat 0x440005) ≤ d.clk.now →
      Runs (.electionWaitExpiry dt) s (fun e => e.nat 0x440201 = 2 ∧ d.nat 0x440203 < e.nat 0x440203 ∧ d.nat 0x440204 < e.nat 0x440203
        ∧ (d.nat 0x440001 = 1 → e.nat 0x440203 % 2 = 1) ∧ (d.nat 0x440001 = 2 → e.nat 0x440203 % 2 = 0)
        ∧ e.nv = tabPut d.nv 0x440203 (.num (e.nat 0x440203)) ∧ e.pair.paired = false
        ∧ Only d e [0x440201, 0x440203] [488] { e with pair := d.pair, nv := d.nv, tele := d.tele, cars := d.cars }))
    ∧ (∀ (lane : Fin 2) frame reason, linkOk d (pairOf lane frame) 7 → reason = fieldN (pairOf lane frame).payload 0 1 →
      d.role = 3 → d.pwr.hibernating → d.pwr.glacier = false → d.bit 0x205003 1 → reason = 1 ∨ reason = 2 →
      Runs (.pairWakeReceive dt lane frame) s (fun e => e.nat 0x440201 = (if reason = 1 then 5 else 4) ∧ e.pair.waking = reason
        ∧ e.pair.wokenAt = d.clk.now
        ∧ e.nat 0x206002 = 6 ∧ e.nat 0x206004 = 2 ∧ e.nat 0x205002 = 3 ∧ e.pwr.thawing ∧ e.pwr.hibernating = false))
    ∧ (d.up 2 → d.inPair → d.peerHeard = false → d.role = 3 → d.pair.lostAt + msTicks (d.nat 0x440006) ≤ d.clk.now →
      d.pwr.hibernating → d.pwr.glacier = false → d.bit 0x205003 1 →
      Runs (.takeoverDelayExpiry dt) s (fun e => e.nat 0x440201 = 5 ∧ e.pair.waking = 3 ∧ e.nat 0x206002 = 6 ∧ e.nat 0x206004 = 2
        ∧ e.nat 0x205002 = 3 ∧ e.pwr.thawing ∧ e.pwr.hibernating = false))
    ∧ (∀ (n : Fin 128) g t, d.up 6 → (d.car n.val).heldBack = [(g, t, 0)] → t + secT / 2 < d.clk.now →
      Gives (.grantHoldAlert dt n g) s ((d.setCar n.val { d.car n.val with heldBack := [(g, t, 1)] }).raise 490 2))
    ∧ (∀ c : Instr, (c = .soloDeclare dt q ∧ d.accepts q 0x4401 3 [1] (.num 1) ∧ d.role = 2
        ∨ c = .isolationExpiry dt ∧ d.up 8 ∧ d.nat 0x440007 ≠ 0 ∧ d.pair.isoAt + d.nat 0x440007 * secT ≤ d.clk.now) →
      d.pair.isolated → d.pair.solo = false → d.up 7 → d.up 9 →
      Runs c s (fun e => e.pair = { d.pair with solo := true } ∧ (∀ n, (e.car n).heldBack = [])
        ∧ Only d e [0x440202, 0x44020B] [494] { e with pair := d.pair, cars := d.cars, cs := d.cs, led := d.led }))
    ∧ (d.accepts q 0x4401 3 [1] (.num 1) → d.role ≠ 2 ∨ d.pair.isolated = false →
      Runs (.soloDeclare dt q) s (fun e => Only d e [] [] { e with cs := d.cs, led := d.led }))
    ∧ (d.accepts q 0x4401 3 [0] (.num 0) → d.pair.solo →
      Runs (.soloLeave dt q) s (fun e => e.pair = { d.pair with solo := false }
        ∧ Only d e [0x440202] [494] { e with pair := d.pair, cs := d.cs, led := d.led }))
    ∧ (∀ data, d.accepts q 0x4401 1 data (.num 1) → d.role = 2 → d.pair.paired → d.nat 0x440206 = 3 → d.nat 0x440207 = 0 →
      Runs (.switchOver dt q data) s (fun e => e.pair.switch_ = 1 ∧ e.pair.wokenAt = d.clk.now
        ∧ (d.bit 0x440205 0 → d.bit 0x440002 0 → ∃ x ∈ e.out, x.kind = .pairWake ∧ x.whom = [0] ∧ x.flds.getLast? = some 1)
        ∧ Only d e [] [] { e with pair := d.pair, cs := d.cs, led := d.led }))
    ∧ (d.role = 2 → d.pair.switch_ = 1 → d.pair.wokenAt + 2 * secT ≤ d.clk.now →
      Gives (.switchOverTimeout dt) s (({ d with pair := { d.pair with switch_ := 0 } } : Dev).raise 489 4))
    ∧ (d.role = 5 → d.pair.waking = 1 → d.pair.wokenAt + 2 * secT ≤ d.clk.now →
      Runs (.switchOverTimeout dt) s (fun e => e.nat 0x440201 = 3 ∧ e.pwr.hibernating
        ∧ e.pair.waking = 0 ∧ e.nat 0x205002 = 2 ∧ (∀ i, 3 ≤ i → i ≤ 10 → e.island i = 0)))
    ∧ (∀ c : Instr, ((∃ data, c = .drill dt q data ∧ d.accepts q 0x4401 2 data (.num 1))
        ∨ c = .drillPeriodExpiry dt ∧ d.up 8 ∧ d.nat 0x440008 ≠ 0 ∧ d.pair.drillAt + d.nat 0x440008 * 3600 * secT ≤ d.clk.now) →
      d.role = 2 → d.pair.paired → d.nat 0x440206 = 3 →
      Runs c s (fun e => e.pair.drill ∧ e.pair.drillAt = d.clk.now
        ∧ (d.bit 0x440205 0 → d.bit 0x440002 0 → ∃ x ∈ e.out, x.kind = .pairWake ∧ x.whom = [0] ∧ x.flds.getLast? = some 2)
        ∧ Only d e [] [] { e with pair := d.pair, cs := d.cs, led := d.led }))
    ∧ ∀ r : Nat, d.role = 4 → d.up 2 →
      ((d.pwr.failed ≠ [] ∨ d.pwr.thawFails ≠ 0) ∧ r = 1
        ∨ d.pwr.failed = [] ∧ d.pwr.thawFails = 0 ∧ d.nat 0x205002 = 0
          ∧ (d.cairnToUse = none ∧ r = 2
            ∨ ∃ c, d.cairnToUse = some c ∧ (d.cairnFits c = false ∧ r = 3 ∨ d.cairnFits c ∧ d.servo.everValid.testBit 1 ∧ r = 0
              ∨ d.cairnFits c ∧ d.servo.everValid.testBit 1 = false ∧ d.pair.wokenAt + 60 * secT ≤ d.clk.now ∧ r = 4))) →
      Runs (.drillEnd dt) s (fun e => e.nat 0x44020C = r ∧ e.nat 0x440201 = 3 ∧ e.pwr.hibernating
        ∧ e.pair.drill = false ∧ e.pair.waking = 0 ∧ e.nat 0x205002 = 2 ∧ (∀ i, 3 ≤ i → i ≤ 10 → e.island i = 0))

/-- Witness and signing keys (R505 to R511): a press opens the window, or wakes from Hibernate; the seal and the jumper latch; the window
closes; latches clear where their condition has gone; a key is programmed into an empty slot and a slot is revoked. -/
def Obligations.WitnessAndKeys : Prop :=
  ∀ (s : State) (dt : Nat) (q : Req) (d : Dev), d = s.dev.pass dt →
    (∀ ms, d.pwr.hibernating = false → d.up 8 → 1000 ≤ ms → ms ≤ 5000 →
      Runs (.witnessPress dt ms true) s (fun e => e.flag 0x461001 ∧ e.wit = { d.wit with window := some d.clk.now } ∧ e.bit 0x461005 3
        ∧ e.nat 0x461008 = min (d.nat 0x461008 + if d.flag 0x461001 then 0 else 1) 0xFFFFFFFF ∧ e.nv = tabPut d.nv 0x461008 (.num (e.nat 0x461008))
        ∧ Only d e [0x461001, 0x461005, 0x461008] [496] { e with wit := d.wit, nv := d.nv }))
    ∧ (∀ ms fitted, d.pwr.hibernating → d.pwr.glacier = false → d.bit 0x205003 3 →
      Runs (.witnessPress dt ms fitted) s (fun e => e.nat 0x206002 = 6 ∧ e.nat 0x206004 = 4 ∧ e.pwr.thawing))
    ∧ (∀ bit us (c : Instr), c = .sealOpen dt us ∧ 100 < us ∧ bit = 0 ∧ d.wit.sealOff = false ∨ c = .jumperFitted dt ∧ bit = 1 → d.bit 0x461005 bit = false →
      (d.up 8 → Runs c s (fun e => e.bit 0x461005 bit ∧ (c = .sealOpen dt us → e.bit 0x461005 4 = false) ∧ (c = .jumperFitted dt → e.bit 0x461005 3)
        ∧ (∃ x, e.mor.offers = d.mor.offers ++ [x] ∧ x.code = 498 ∧ x.detail = 2 ^ bit)
        ∧ Only d e [0x461005] [498] { e with mor := d.mor }))
      ∧ (d.up 8 = false → Runs c s (fun e => e.bit 0x461005 bit ∧ e.wit = { d.wit with late := d.wit.late ||| 2 ^ bit }
          ∧ Only d e [0x461005] [] { e with wit := d.wit })))
    ∧ (∀ c : Instr, (∃ ms, c = .jumperRemoved dt ms ∧ 100 ≤ ms) ∨ (c = .witnessWindowExpiry dt ∧ ∃ t, d.wit.window = some t ∧ t + d.nat 0x461003 * secT ≤ d.clk.now)
        ∨ (∃ data v, c = .closeWindow dt q data ∧ d.accepts q 0x4610 4 data v) →
      d.flag 0x461001 →
      Runs c s (fun e => e.flag 0x461001 = false ∧ e.wit = { d.wit with window := none }
        ∧ Only d e [0x461001, 0x461005] [497] { e with wit := d.wit, cs := d.cs, led := d.led }))
    ∧ (∀ data (n : Nat) fitted closed, d.accepts q 0x4610 6 data (.num n) →
      Runs (.clearLatches dt q data fitted closed) s (fun e =>
        e.bit 0x461005 0 = (d.bit 0x461005 0 && !(n.testBit 0 && closed)) ∧ e.bit 0x461005 1 = (d.bit 0x461005 1 && !(n.testBit 1 && !fitted))
        ∧ e.bit 0x461005 2 = (d.bit 0x461005 2 && (e.bit 0x461005 0 || e.bit 0x461005 1)) ∧ e.bit 0x461005 3 = fitted
        ∧ e.bit 0x461005 4 = closed ∧ Only d e [0x461005] [] { e with cs := d.cs, led := d.led }))
    ∧ (∀ data (slot : Nat) (key : List Byte), slot = 1 ∨ slot = 2 ∨ slot = 3 → d.accepts q 0x4621 1 data (.oct (BitVec.ofNat 8 slot :: key)) →
      (d.keyHeld slot = false → RunsFuse (.programKey dt q data) s (fun e => e.oct (0x462001 + slot) = key
        ∧ (∃ x, e.mor.offers = d.mor.offers ++ [x] ∧ x.code = 518)
        ∧ Only d e [0x462001 + slot] [] { e with mor := d.mor, cs := d.cs, led := d.led }))
      ∧ (d.keyHeld slot → RunsFuse (.programKey dt q data) s (fun e => Only d e [] [] { e with cs := d.cs, led := d.led })))
    ∧ ∀ data (slot other : Nat), d.accepts q 0x4621 2 data (.num slot) → slot ≤ 3 → d.keyHeld slot → other ≤ 3 → other ≠ slot →
      d.keyUsable other →
      RunsFuse (.revokeKey dt q data) s (fun e => (∀ i, e.bit 0x462005 i = (d.bit 0x462005 i || decide (i = slot)))
        ∧ (∃ x, e.mor.offers = d.mor.offers ++ [x] ∧ x.code = 518)
        ∧ Only d e [0x462005] [] { e with mor := d.mor, cs := d.cs, led := d.led })

/-- Images (R512 to R526, R529): a download's first and later parts, a refused header, the check, activation, confirmation and the two ways
to leave an image; IDENTIFY. The signature and digest checks are those of R512 and R513, whatever they answer. -/
def Obligations.ImagesRun : Prop :=
  ∀ (s : State) (dt : Nat) (q : Req) (d : Dev), d = s.dev.pass dt →
    (∀ total (b : List Byte), d.intake q (if q.peer.kind = 4 then 3 else opWrite) (writePayload q 0x4602 1 0 total b) = .execute →
      d.writeCheck q.peer false 0x4602 1 = 0 → b.length ≤ total → 256 ≤ b.length → tableEnd b ≤ b.length →
      (d.nat 0x460101 = 0 ∨ d.nat 0x460101 = 2 ∨ d.nat 0x460101 = 3 → d.imageReason b = 0 → d.levelApart (fieldN b 14 1) = false →
        total = fieldN b 4 4 → Runs (.imageData dt q 0 total b none) s (fun e => e.upd.bank d.otherBank = some (bankOf b)
          ∧ e.upd.bank d.upd.running = d.upd.bank d.upd.running ∧ e.upd.source = some q.peer ∧ e.upd.sigId = (b.drop 128).take 16
          ∧ e.nat 0x460101 = (if b.length = total then 2 else 1) ∧ e.nat 0x460105 = b.length
          ∧ Only d e [0x460101, 0x460104, 0x460105] [] { e with upd := d.upd, cs := d.cs, led := d.led }))
      ∧ (∀ r, d.imageReason b = r ∧ r ≠ 0 ∧ (d.nat 0x460101 = 0 ∨ d.nat 0x460101 = 2 ∨ d.nat 0x460101 = 3)
            ∨ d.imageReason b = 0 ∧ d.levelApart (fieldN b 14 1) = false ∧ (d.nat 0x460101 = 4 ∨ d.nat 0x460101 = 5) ∧ r = 12 →
          Runs (.imageData dt q 0 total b none) s (fun e => e.nat 0x460106 = r
          ∧ Only d e [0x460106] [499] { e with cs := d.cs, led := d.led })))
    ∧ (∀ x (b : List Byte), d.intake q (if q.peer.kind = 4 then 3 else opWrite) (writePayload q 0x4602 1 x.img.length x.len b) = .execute →
      d.writeCheck q.peer false 0x4602 1 = 0 → d.nat 0x460101 = 1 → d.upd.source = some q.peer → d.upd.bank d.otherBank = some x →
      x.img ≠ [] → x.img.length + b.length ≤ x.len →
      Runs (.imageData dt q x.img.length x.len b none) s (fun e => e.upd.bank d.otherBank = some { x with img := x.img ++ b }
        ∧ e.upd.resume = (x.img.length + b.length) / 65536 * 65536 ∧ e.nat 0x460105 = x.img.length + b.length
        ∧ e.nat 0x460101 = (if x.img.length + b.length = x.len then 2 else 1)
        ∧ Only d e [0x460101, 0x460105] [] { e with upd := d.upd, cs := d.cs, led := d.led }))
    ∧ (∀ x, d.up 8 → d.nat 0x460101 = 2 → d.upd.bank d.otherBank = some x →
      (digestOk x.img → Runs (.imageVerifyEnd dt true) s (fun e => e.upd.bank d.otherBank = some { x with good := true }
        ∧ e.nat 0x460101 = 3 ∧ e.num 0x460104 = x.ver ∧ Only d e [0x460101, 0x460104] [500] { e with upd := d.upd }))
      ∧ (digestOk x.img = false → Runs (.imageVerifyEnd dt true) s (fun e => e.upd.bank d.otherBank = none ∧ e.nat 0x460101 = 0
          ∧ e.nat 0x460106 = 10 ∧ Only d e [0x460101, 0x460104, 0x460105, 0x460106] [499] { e with upd := d.upd })))
    ∧ (∀ data v x, d.accepts q 0x4602 2 (jenynOne q data) v → d.flag 0x461001 ∨ d.flag 0x460003 → d.nat 0x460101 = 3 →
      d.upd.bank d.otherBank = some x → d.nat 0x460108 ≤ x.sec → d.levelApart x.level = false →
      (d.nat 0x201003 = 2 ∨ d.nat 0x201003 = 3 → d.pwr.due = none → Runs (.activate dt q data) s (fun e => e.upd = { d.upd with waiting := true }
        ∧ Only d e [] [] { e with upd := d.upd, cs := d.cs, led := d.led }))
      ∧ (d.nat 0x201003 ≠ 2 → d.nat 0x201003 ≠ 3 → d.bankOk d.otherBank → Runs (.activate dt q data) s (fun e =>
          e.nat 0x206002 = 5 ∧ e.nat 0x205002 = 3 ∧ e.pwr.thawing ∧ e.upd.waiting = false
          ∧ ∃ y, e.upd.desc = some y ∧ y.active = d.otherBank ∧ y.trial ∧ y.starts = 1)))
    ∧ (∀ (c : Instr) x, (∃ data v, c = .confirm dt q data ∧ d.accepts q 0x4602 3 (jenynOne q data) v)
        ∨ c = .autoConfirmExpiry dt ∧ d.up 8 ∧ d.nat 0x460001 = 1 ∧ d.upd.trialAt + d.nat 0x460002 * secT ≤ d.clk.now →
      d.nat 0x460101 = 4 → d.upd.bank d.upd.running = some x → d.role = 0 →
      RunsFuse c s (fun e => e.nat 0x460108 = max (d.nat 0x460108) x.sec ∧ e.upd.old = none
        ∧ (∃ y, e.upd.desc = some y ∧ y.active = d.upd.running ∧ y.trial = false)
        ∧ Only d e [0x460101, 0x460104, 0x460108] [502] { e with upd := d.upd, pair := d.pair, cs := d.cs, led := d.led }))
    ∧ (∀ data v, d.accepts q 0x4602 4 (jenynOne q data) v → d.pwr.due = none →
      d.nat 0x460101 = 1 ∨ d.nat 0x460101 = 2 ∨ d.nat 0x460101 = 3 →
      Runs (.abandon dt q data) s (fun e => e.upd.bank d.otherBank = none ∧ e.nat 0x460101 = 0 ∧ e.nat 0x460105 = 0
        ∧ e.upd.bank d.upd.running = d.upd.bank d.upd.running
        ∧ Only d e [0x460101, 0x460104, 0x460105] [] { e with upd := d.upd, cs := d.cs, led := d.led }))
    ∧ (d.nat 0x460101 = 4 ∨ d.nat 0x460101 = 5 → d.bankOk d.otherBank → ∀ (c : Instr) cause,
      c = .trialTimeout dt ∧ d.up 8 ∧ d.pwr.thawEnd + 600 * secT ≤ d.clk.now ∧ cause = 2 ∨ (∃ data v, c = .abandon dt q data ∧ d.accepts q 0x4602 4 (jenynOne q data) v) ∧ cause = 3 →
      Runs c s (fun e => e.nat 0x206002 = 5 ∧ e.nat 0x205002 = 3 ∧ e.upd.fallback = cause ∧ e.upd.fellBack
        ∧ ∃ y, e.upd.desc = some y ∧ y.active = d.otherBank ∧ y.trial = false))
    ∧ (q.peer.kind = 4 → d.intake q 1 [] = .execute → Runs (.jenynIdentify dt q) s (fun e =>
        e.out = { kind := .jenynReply, flds := [(q.reqId : Int), 1, 0, d.num 0x101801, d.num 0x101802, d.num 0x101803, d.num 0x101804
                  , d.num 0x460103, d.num 0x460101, d.num 0x461001] } :: d.out
        ∧ Only d e [] [] { e with cs := d.cs, led := d.led }))

/-- ROM recovery (R530 to R532): the button enters it; USB DFU blocks, status, state, abort and the check; what the device stalls. -/
def Obligations.RecoveryRuns : Prop :=
  ∀ (s : State) (dt : Nat) (d : Dev), d = s.dev.pass dt →
    (d.up 2 → 1 ≤ d.pwr.kind → d.pwr.kind ≤ 5 → d.pwr.hibernating = false → d.pwr.thawAt + 5 * secT ≤ d.clk.now →
      Runs (.recoveryButtonHold dt true) s (fun e => e.upd.recovery ∧ e.upd.dfuState = 2 ∧ e.upd.dfuImg = []
        ∧ (∀ i, 3 ≤ i → i ≤ 10 → e.island i = 0) ∧ e.timeState = 0
        ∧ (d.timeState = 0 → Only d e (0x440202 :: (List.range 8).map (0x202003 + ·)) [] { e with upd := d.upd })))
    ∧ (d.upd.recovery →
      (∀ b : List Byte, d.upd.dfuState = 2 → 256 ≤ b.length → b.length ≤ 4096 → tableEnd b ≤ b.length → d.imageReason b = 0 →
        b.length ≤ fieldN b 4 4 →
        Runs (.dfuDnload dt b true) s (fun e => e.upd.bank d.upd.dfuTarget = some (bankOf b) ∧ e.upd.dfuBank = d.upd.dfuTarget
          ∧ e.upd.dfuImg = b ∧ e.upd.dfuState = 3 ∧ e.upd.bank (1 - d.upd.dfuTarget) = d.upd.bank (1 - d.upd.dfuTarget)
          ∧ Only d e [] [] { e with upd := d.upd }))
      ∧ (∀ x, d.upd.dfuState = 5 → d.upd.bank d.upd.dfuBank = some x → x.img.length = x.len →
        Gives (.dfuDnload dt [] true) s { d with upd := { d.upd with dfuState := 6 } })
      ∧ (∀ x, d.upd.dfuState = 6 ∨ d.upd.dfuState = 7 → d.upd.bank d.upd.dfuBank = some x →
        (digestOk x.img → d.bit 0x462005 x.key = false → Runs (.dfuVerifyEnd dt true) s (fun e => e.nat 0x206002 = 5 ∧ e.nat 0x205002 = 3
          ∧ e.upd.recovery = false ∧ ∃ y, e.upd.desc = some y ∧ y.active = d.upd.dfuBank ∧ y.trial ∧ y.starts = 1))
        ∧ (digestOk x.img = false → Gives (.dfuVerifyEnd dt true) s { d with upd := { d.upd with dfuState := 10, dfuError := 7 } }))
      ∧ Gives (.dfuGetstatus dt) s (({ d with upd := { d.upd with dfuState := if d.upd.dfuState = 3 then 5 else if d.upd.dfuState = 6 then 7
            else d.upd.dfuState } } : Dev).emit .dfuReply []
          [(d.upd.dfuError : Int), if d.upd.dfuState = 6 ∨ d.upd.dfuState = 7 then 2000 else 0
          , (((if d.upd.dfuState = 3 then 5 else if d.upd.dfuState = 6 then 7 else d.upd.dfuState : Nat)) : Int), 0])
      ∧ (d.upd.dfuState = 10 → Gives (.dfuClrstatus dt) s { d with upd := { d.upd with dfuState := 2, dfuError := 0, dfuImg := [] } })
      ∧ Gives (.dfuGetstate dt) s (d.emit .dfuReply [] [(d.upd.dfuState : Int)])
      ∧ (d.upd.dfuState ≠ 10 → d.upd.dfuState ≠ 7 →
        Gives (.dfuAbort dt) s { d with upd := { d.upd with dfuState := 2, dfuError := 0, dfuImg := [] } })
      ∧ (∀ c : Instr, c = .dfuUpload dt ∨ c = .dfuDetach dt ∨ c = .dfuClrstatus dt ∧ d.upd.dfuState ≠ 10 → d.upd.dfuState ≠ 10 →
        Gives c s (({ d with upd := { d.upd with dfuState := 10, dfuError := 15 } } : Dev).emit .dfuReply [] [-1])))

/-- The bytes of frames (R7, R54, R55, R326, R477, R528): what the layout puts into a frame is what is read from it, with every field at every value that
its width admits; so the CRC behind it holds. An Ethernet frame of full length passes the FCS and gives its addresses and body (the layout of its
standard is PRESUMED, log 79). -/
def Obligations.FramesReadBack : Prop :=
  (∀ (q : Req) (op : Nat) (p : List Byte), q.short = false → q.reqId < 2 ^ 32 → q.magic < 2 ^ 16 → q.version < 2 ^ 8 → q.status < 2 ^ 16 →
    op < 2 ^ 8 → 0 ≤ (p.length : Int) + q.lenOff →
    (q.peer.kind ≠ 4 → q.rsv < 2 ^ 30 → (p.length : Int) + q.lenOff < 2 ^ 16 →
      ledgerReq q.peer q.arrPort q.dstUdp (sealed (reqHeader q op p.length ++ p))
        = ({ q with crc := some (crc32c (reqHeader q op p.length ++ p)) }, op, p))
    ∧ (q.peer = { kind := 4 } → q.arrPort = 0 → q.dstUdp = 30511 → q.more = false → q.rsv < 2 ^ 15 → (p.length : Int) + q.lenOff < 2 ^ 32 →
      jenynReq (sealed (reqHeader q op p.length ++ p)) = ({ q with crc := some (crc32c (reqHeader q op p.length ++ p)) }, op, p)))
  ∧ (∀ (typ unit term seq : Nat) (lane : Fin 2) (p : List Byte), typ < 2 ^ 8 → unit < 2 ^ 8 → term < 2 ^ 32 → seq < 2 ^ 32 → p.length ≤ 4096 →
      pairOf lane (pairBytes typ unit lane.val term seq p)
        = { ok := pairFits typ p, typ := typ, unit := unit, lane := lane, seq := seq, term := term, payload := p })
  ∧ (∀ (typ flags vehicle term seq slot addr port : Nat) (body : List Byte) (t : Tele), typ < 2 ^ 8 → flags < 2 ^ 8 → vehicle < 2 ^ 32 → term < 2 ^ 32 →
      seq < 2 ^ 32 → slot < 2 ^ 8 → body.length ≤ 1424 → t = teleOf addr port (telegramBytes typ flags vehicle term seq slot body) →
      t.magicOk ∧ t.lengthOk ∧ t.version = 1 ∧ t.typ = typ ∧ t.fromVehicle = flags.testBit 0 ∧ t.newStream = flags.testBit 1 ∧ t.vehicle = vehicle
        ∧ t.term = term ∧ t.seq = seq ∧ t.slot = slot ∧ t.addr = addr ∧ t.port = port
        ∧ (typ = 7 → t.sizeOk = decide (body.length = 20)) ∧ (typ = 8 → t.sizeOk = decide (body.length = 16)) ∧ (8 ≤ flags → t.rsvOk = false))
  ∧ ∀ (x : Pkt), x.dst < 2 ^ 48 → x.src < 2 ^ 48 → 48 ≤ x.body.length → beNat (x.body.take 2) ≠ 0x8100 →
      frameOk { data := x.bytes none, pcsOk := true }
      ∧ pktOf (x.bytes none) = { dst := x.dst, src := x.src, tci := none, body := x.body, len := x.body.length + 16 }

/-- Every field of a Cairn has a value that its width in R483 and R484 admits, and a difference of carrier phase is one that a REAL64 word holds. -/
def cairnFieldsFit (c : Cairn) : Prop :=
  let s (w : Nat) (v : Int) : Prop := -(2 ^ (w - 1)) ≤ v ∧ v < 2 ^ (w - 1)
  c.unit < 2 ^ 8 ∧ c.timeSt < 2 ^ 8 ∧ c.woState < 2 ^ 8 ∧ c.level < 2 ^ 8 ∧ c.causes < 2 ^ 16 ∧ c.gen < 2 ^ 32 ∧ c.term < 2 ^ 32 ∧ c.steps < 2 ^ 32
    ∧ c.stopSeq < 2 ^ 32 ∧ c.setGen < 2 ^ 32 ∧ c.instant < 2 ^ 48 * 10 ^ 9
    ∧ (∀ x ∈ c.slots, x.slot < 2 ^ 8 ∧ x.state < 2 ^ 8 ∧ x.vehicle < 2 ^ 32 ∧ s 32 x.e ∧ s 32 x.n ∧ s 32 x.u ∧ s 16 x.ve ∧ s 16 x.vn ∧ s 16 x.vu
        ∧ x.sigE < 2 ^ 16 ∧ x.sigN < 2 ^ 16 ∧ x.sigU < 2 ^ 16 ∧ x.base < 2 ^ 48 * 10 ^ 9 ∧ x.ints.length < 2 ^ 8
        ∧ ∀ i ∈ x.ints, i.sys < 2 ^ 8 ∧ i.band < 2 ^ 8 ∧ i.sat < 2 ^ 8 ∧ i.pivot < 2 ^ 8 ∧ s 32 i.n ∧ real64 i.sd < 2 ^ 64 ∧ ofReal64 (real64 i.sd) = i.sd)
    ∧ (∀ x ∈ c.paths, x.slot < 2 ^ 8 ∧ x.state < 2 ^ 8 ∧ x.task < 2 ^ 16 ∧ x.grant < 2 ^ 32 ∧ s 32 x.chain ∧ s 32 x.speed ∧ s 32 x.accel ∧ s 32 x.auth
        ∧ s 32 x.rest ∧ x.arcs.length < 2 ^ 16 ∧ ∀ a ∈ x.arcs, a.1 < 2 ^ 16)
    ∧ (∀ x ∈ c.holds, x.path < 2 ^ 16 ∧ x.item.rsv < 2 ^ 16 ∧ x.item.seg < 2 ^ 8 ∧ x.item.kind < 2 ^ 8 ∧ x.item.arc < 2 ^ 16 ∧ x.item.group < 2 ^ 16
        ∧ x.item.start < 2 ^ 32 ∧ x.item.stop < 2 ^ 32)
    ∧ ∀ x ∈ c.tasks, x.num < 2 ^ 16 ∧ x.record.length = 48 ∧ x.state < 2 ^ 8 ∧ x.slot < 2 ^ 8 ∧ x.reason < 2 ^ 8 ∧ x.attempts < 2 ^ 16 ∧ x.cost < 2 ^ 32

/-- A Cairn that its sender writes is the Cairn that its peer reads (R483, R484, R486), whole, whatever its slots, paths, holds and tasks; and none is read from its
bytes while the last of them is missing. -/
def Obligations.CairnReadsBack : Prop :=
  ∀ c : Cairn, cairnFieldsFit c → (cairnBytes c).length ≤ 3670016 →
    cairnOf (cairnBytes c) = some c ∧ cairnOf ((cairnBytes c).dropLast) = none
end

