-- ==== Sys2Proof/Laws/State.lean ====
section
/-!
SUPPORT. What each update of the device leaves alone: one lemma for each field and update, and the fields of the machine.
-/
namespace Sys2Proof.Machine

@[simp] theorem Dev.pass_od (d : Dev) (n : Nat) : (d.pass n).od = d.od := rfl
@[simp] theorem Dev.pass_gen (d : Dev) (n : Nat) : (d.pass n).gen = d.gen := rfl
@[simp] theorem Dev.pass_nv (d : Dev) (n : Nat) : (d.pass n).nv = d.nv := rfl
@[simp] theorem Dev.pass_nvDue (d : Dev) (n : Nat) : (d.pass n).nvDue = d.nvDue := rfl
@[simp] theorem Dev.pass_out (d : Dev) (n : Nat) : (d.pass n).out = d.out := rfl
@[simp] theorem Dev.pass_frees (d : Dev) (n : Nat) : (d.pass n).frees = d.frees := rfl
@[simp] theorem Dev.pass_ev (d : Dev) (n : Nat) : (d.pass n).ev = d.ev := rfl
@[simp] theorem Dev.pass_cs (d : Dev) (n : Nat) : (d.pass n).cs = d.cs := rfl
@[simp] theorem Dev.pass_led (d : Dev) (n : Nat) : (d.pass n).led = d.led := rfl
@[simp] theorem Dev.pass_can0 (d : Dev) (n : Nat) : (d.pass n).can0 = d.can0 := rfl
@[simp] theorem Dev.pass_can1 (d : Dev) (n : Nat) : (d.pass n).can1 = d.can1 := rfl
@[simp] theorem Dev.pass_servo (d : Dev) (n : Nat) : (d.pass n).servo = d.servo := rfl
@[simp] theorem Dev.pass_cart (d : Dev) (n : Nat) : (d.pass n).cart = d.cart := rfl
@[simp] theorem Dev.pass_ptp0 (d : Dev) (n : Nat) : (d.pass n).ptp0 = d.ptp0 := rfl
@[simp] theorem Dev.pass_ptp1 (d : Dev) (n : Nat) : (d.pass n).ptp1 = d.ptp1 := rfl
@[simp] theorem Dev.pass_pps0 (d : Dev) (n : Nat) : (d.pass n).pps0 = d.pps0 := rfl
@[simp] theorem Dev.pass_pps1 (d : Dev) (n : Nat) : (d.pass n).pps1 = d.pps1 := rfl
@[simp] theorem Dev.pass_cmpLate (d : Dev) (n : Nat) : (d.pass n).cmpLate = d.cmpLate := rfl
@[simp] theorem Dev.pass_pwr (d : Dev) (n : Nat) : (d.pass n).pwr = d.pwr := rfl
@[simp] theorem Dev.pass_mor (d : Dev) (n : Nat) : (d.pass n).mor = d.mor := rfl
@[simp] theorem Dev.pass_res (d : Dev) (n : Nat) : (d.pass n).res = d.res := rfl
@[simp] theorem Dev.pass_wo (d : Dev) (n : Nat) : (d.pass n).wo = d.wo := rfl
@[simp] theorem Dev.pass_axes (d : Dev) (n : Nat) : (d.pass n).axes = d.axes := rfl
@[simp] theorem Dev.pass_rounds (d : Dev) (n : Nat) : (d.pass n).rounds = d.rounds := rfl
@[simp] theorem Dev.pass_resv (d : Dev) (n : Nat) : (d.pass n).resv = d.resv := rfl
@[simp] theorem Dev.pass_cars (d : Dev) (n : Nat) : (d.pass n).cars = d.cars := rfl
@[simp] theorem Dev.pass_tasks (d : Dev) (n : Nat) : (d.pass n).tasks = d.tasks := rfl
@[simp] theorem Dev.pass_tele (d : Dev) (n : Nat) : (d.pass n).tele = d.tele := rfl
@[simp] theorem Dev.pass_rx (d : Dev) (n : Nat) : (d.pass n).rx = d.rx := rfl
@[simp] theorem Dev.pass_slots (d : Dev) (n : Nat) : (d.pass n).slots = d.slots := rfl
@[simp] theorem Dev.pass_eng_ (d : Dev) (n : Nat) : (d.pass n).eng_ = d.eng_ := rfl
@[simp] theorem Dev.pass_sched (d : Dev) (n : Nat) : (d.pass n).sched = d.sched := rfl
@[simp] theorem Dev.pass_cap (d : Dev) (n : Nat) : (d.pass n).cap = d.cap := rfl
@[simp] theorem Dev.pass_sw (d : Dev) (n : Nat) : (d.pass n).sw = d.sw := rfl
@[simp] theorem Dev.pass_pair (d : Dev) (n : Nat) : (d.pass n).pair = d.pair := rfl
@[simp] theorem Dev.pass_upd (d : Dev) (n : Nat) : (d.pass n).upd = d.upd := rfl
@[simp] theorem Dev.pass_wit (d : Dev) (n : Nat) : (d.pass n).wit = d.wit := rfl
@[simp] theorem Dev.pass_marks (d : Dev) (n : Nat) : (d.pass n).marks = d.marks := rfl
@[simp] theorem Dev.put_nv (d : Dev) (k : Key) (v : DVal) : (d.put k v).nv = d.nv := rfl
@[simp] theorem Dev.put_nvDue (d : Dev) (k : Key) (v : DVal) : (d.put k v).nvDue = d.nvDue := rfl
@[simp] theorem Dev.put_out (d : Dev) (k : Key) (v : DVal) : (d.put k v).out = d.out := rfl
@[simp] theorem Dev.put_frees (d : Dev) (k : Key) (v : DVal) : (d.put k v).frees = d.frees := rfl
@[simp] theorem Dev.put_ev (d : Dev) (k : Key) (v : DVal) : (d.put k v).ev = d.ev := rfl
@[simp] theorem Dev.put_cs (d : Dev) (k : Key) (v : DVal) : (d.put k v).cs = d.cs := rfl
@[simp] theorem Dev.put_led (d : Dev) (k : Key) (v : DVal) : (d.put k v).led = d.led := rfl
@[simp] theorem Dev.put_can0 (d : Dev) (k : Key) (v : DVal) : (d.put k v).can0 = d.can0 := rfl
@[simp] theorem Dev.put_can1 (d : Dev) (k : Key) (v : DVal) : (d.put k v).can1 = d.can1 := rfl
@[simp] theorem Dev.put_clk (d : Dev) (k : Key) (v : DVal) : (d.put k v).clk = d.clk := rfl
@[simp] theorem Dev.put_servo (d : Dev) (k : Key) (v : DVal) : (d.put k v).servo = d.servo := rfl
@[simp] theorem Dev.put_cart (d : Dev) (k : Key) (v : DVal) : (d.put k v).cart = d.cart := rfl
@[simp] theorem Dev.put_ptp0 (d : Dev) (k : Key) (v : DVal) : (d.put k v).ptp0 = d.ptp0 := rfl
@[simp] theorem Dev.put_ptp1 (d : Dev) (k : Key) (v : DVal) : (d.put k v).ptp1 = d.ptp1 := rfl
@[simp] theorem Dev.put_pps0 (d : Dev) (k : Key) (v : DVal) : (d.put k v).pps0 = d.pps0 := rfl
@[simp] theorem Dev.put_pps1 (d : Dev) (k : Key) (v : DVal) : (d.put k v).pps1 = d.pps1 := rfl
@[simp] theorem Dev.put_cmpLate (d : Dev) (k : Key) (v : DVal) : (d.put k v).cmpLate = d.cmpLate := rfl
@[simp] theorem Dev.put_pwr (d : Dev) (k : Key) (v : DVal) : (d.put k v).pwr = d.pwr := rfl
@[simp] theorem Dev.put_mor (d : Dev) (k : Key) (v : DVal) : (d.put k v).mor = d.mor := rfl
@[simp] theorem Dev.put_res (d : Dev) (k : Key) (v : DVal) : (d.put k v).res = d.res := rfl
@[simp] theorem Dev.put_wo (d : Dev) (k : Key) (v : DVal) : (d.put k v).wo = d.wo := rfl
@[simp] theorem Dev.put_axes (d : Dev) (k : Key) (v : DVal) : (d.put k v).axes = d.axes := rfl
@[simp] theorem Dev.put_rounds (d : Dev) (k : Key) (v : DVal) : (d.put k v).rounds = d.rounds := rfl
@[simp] theorem Dev.put_resv (d : Dev) (k : Key) (v : DVal) : (d.put k v).resv = d.resv := rfl
@[simp] theorem Dev.put_cars (d : Dev) (k : Key) (v : DVal) : (d.put k v).cars = d.cars := rfl
@[simp] theorem Dev.put_tasks (d : Dev) (k : Key) (v : DVal) : (d.put k v).tasks = d.tasks := rfl
@[simp] theorem Dev.put_tele (d : Dev) (k : Key) (v : DVal) : (d.put k v).tele = d.tele := rfl
@[simp] theorem Dev.put_rx (d : Dev) (k : Key) (v : DVal) : (d.put k v).rx = d.rx := rfl
@[simp] theorem Dev.put_slots (d : Dev) (k : Key) (v : DVal) : (d.put k v).slots = d.slots := rfl
@[simp] theorem Dev.put_eng_ (d : Dev) (k : Key) (v : DVal) : (d.put k v).eng_ = d.eng_ := rfl
@[simp] theorem Dev.put_sched (d : Dev) (k : Key) (v : DVal) : (d.put k v).sched = d.sched := rfl
@[simp] theorem Dev.put_cap (d : Dev) (k : Key) (v : DVal) : (d.put k v).cap = d.cap := rfl
@[simp] theorem Dev.put_sw (d : Dev) (k : Key) (v : DVal) : (d.put k v).sw = d.sw := rfl
@[simp] theorem Dev.put_pair (d : Dev) (k : Key) (v : DVal) : (d.put k v).pair = d.pair := rfl
@[simp] theorem Dev.put_upd (d : Dev) (k : Key) (v : DVal) : (d.put k v).upd = d.upd := rfl
@[simp] theorem Dev.put_wit (d : Dev) (k : Key) (v : DVal) : (d.put k v).wit = d.wit := rfl
@[simp] theorem Dev.put_marks (d : Dev) (k : Key) (v : DVal) : (d.put k v).marks = d.marks := rfl
@[simp] theorem Dev.emit_od (d : Dev) (k : SentKind) (whom : List Nat) (l : List Int) : (d.emit k whom l).od = d.od := rfl
@[simp] theorem Dev.emit_gen (d : Dev) (k : SentKind) (whom : List Nat) (l : List Int) : (d.emit k whom l).gen = d.gen := rfl
@[simp] theorem Dev.emit_nv (d : Dev) (k : SentKind) (whom : List Nat) (l : List Int) : (d.emit k whom l).nv = d.nv := rfl
@[simp] theorem Dev.emit_nvDue (d : Dev) (k : SentKind) (whom : List Nat) (l : List Int) : (d.emit k whom l).nvDue = d.nvDue := rfl
@[simp] theorem Dev.emit_frees (d : Dev) (k : SentKind) (whom : List Nat) (l : List Int) : (d.emit k whom l).frees = d.frees := rfl
@[simp] theorem Dev.emit_ev (d : Dev) (k : SentKind) (whom : List Nat) (l : List Int) : (d.emit k whom l).ev = d.ev := rfl
@[simp] theorem Dev.emit_cs (d : Dev) (k : SentKind) (whom : List Nat) (l : List Int) : (d.emit k whom l).cs = d.cs := rfl
@[simp] theorem Dev.emit_led (d : Dev) (k : SentKind) (whom : List Nat) (l : List Int) : (d.emit k whom l).led = d.led := rfl
@[simp] theorem Dev.emit_can0 (d : Dev) (k : SentKind) (whom : List Nat) (l : List Int) : (d.emit k whom l).can0 = d.can0 := rfl
@[simp] theorem Dev.emit_can1 (d : Dev) (k : SentKind) (whom : List Nat) (l : List Int) : (d.emit k whom l).can1 = d.can1 := rfl
@[simp] theorem Dev.emit_clk (d : Dev) (k : SentKind) (whom : List Nat) (l : List Int) : (d.emit k whom l).clk = d.clk := rfl
@[simp] theorem Dev.emit_servo (d : Dev) (k : SentKind) (whom : List Nat) (l : List Int) : (d.emit k whom l).servo = d.servo := rfl
@[simp] theorem Dev.emit_cart (d : Dev) (k : SentKind) (whom : List Nat) (l : List Int) : (d.emit k whom l).cart = d.cart := rfl
@[simp] theorem Dev.emit_ptp0 (d : Dev) (k : SentKind) (whom : List Nat) (l : List Int) : (d.emit k whom l).ptp0 = d.ptp0 := rfl
@[simp] theorem Dev.emit_ptp1 (d : Dev) (k : SentKind) (whom : List Nat) (l : List Int) : (d.emit k whom l).ptp1 = d.ptp1 := rfl
@[simp] theorem Dev.emit_pps0 (d : Dev) (k : SentKind) (whom : List Nat) (l : List Int) : (d.emit k whom l).pps0 = d.pps0 := rfl
@[simp] theorem Dev.emit_pps1 (d : Dev) (k : SentKind) (whom : List Nat) (l : List Int) : (d.emit k whom l).pps1 = d.pps1 := rfl
@[simp] theorem Dev.emit_cmpLate (d : Dev) (k : SentKind) (whom : List Nat) (l : List Int) : (d.emit k whom l).cmpLate = d.cmpLate := rfl
@[simp] theorem Dev.emit_pwr (d : Dev) (k : SentKind) (whom : List Nat) (l : List Int) : (d.emit k whom l).pwr = d.pwr := rfl
@[simp] theorem Dev.emit_mor (d : Dev) (k : SentKind) (whom : List Nat) (l : List Int) : (d.emit k whom l).mor = d.mor := rfl
@[simp] theorem Dev.emit_res (d : Dev) (k : SentKind) (whom : List Nat) (l : List Int) : (d.emit k whom l).res = d.res := rfl
@[simp] theorem Dev.emit_wo (d : Dev) (k : SentKind) (whom : List Nat) (l : List Int) : (d.emit k whom l).wo = d.wo := rfl
@[simp] theorem Dev.emit_axes (d : Dev) (k : SentKind) (whom : List Nat) (l : List Int) : (d.emit k whom l).axes = d.axes := rfl
@[simp] theorem Dev.emit_rounds (d : Dev) (k : SentKind) (whom : List Nat) (l : List Int) : (d.emit k whom l).rounds = d.rounds := rfl
@[simp] theorem Dev.emit_resv (d : Dev) (k : SentKind) (whom : List Nat) (l : List Int) : (d.emit k whom l).resv = d.resv := rfl
@[simp] theorem Dev.emit_cars (d : Dev) (k : SentKind) (whom : List Nat) (l : List Int) : (d.emit k whom l).cars = d.cars := rfl
@[simp] theorem Dev.emit_tasks (d : Dev) (k : SentKind) (whom : List Nat) (l : List Int) : (d.emit k whom l).tasks = d.tasks := rfl
@[simp] theorem Dev.emit_tele (d : Dev) (k : SentKind) (whom : List Nat) (l : List Int) : (d.emit k whom l).tele = d.tele := rfl
@[simp] theorem Dev.emit_rx (d : Dev) (k : SentKind) (whom : List Nat) (l : List Int) : (d.emit k whom l).rx = d.rx := rfl
@[simp] theorem Dev.emit_slots (d : Dev) (k : SentKind) (whom : List Nat) (l : List Int) : (d.emit k whom l).slots = d.slots := rfl
@[simp] theorem Dev.emit_eng_ (d : Dev) (k : SentKind) (whom : List Nat) (l : List Int) : (d.emit k whom l).eng_ = d.eng_ := rfl
@[simp] theorem Dev.emit_sched (d : Dev) (k : SentKind) (whom : List Nat) (l : List Int) : (d.emit k whom l).sched = d.sched := rfl
@[simp] theorem Dev.emit_cap (d : Dev) (k : SentKind) (whom : List Nat) (l : List Int) : (d.emit k whom l).cap = d.cap := rfl
@[simp] theorem Dev.emit_sw (d : Dev) (k : SentKind) (whom : List Nat) (l : List Int) : (d.emit k whom l).sw = d.sw := rfl
@[simp] theorem Dev.emit_pair (d : Dev) (k : SentKind) (whom : List Nat) (l : List Int) : (d.emit k whom l).pair = d.pair := rfl
@[simp] theorem Dev.emit_upd (d : Dev) (k : SentKind) (whom : List Nat) (l : List Int) : (d.emit k whom l).upd = d.upd := rfl
@[simp] theorem Dev.emit_wit (d : Dev) (k : SentKind) (whom : List Nat) (l : List Int) : (d.emit k whom l).wit = d.wit := rfl
@[simp] theorem Dev.emit_marks (d : Dev) (k : SentKind) (whom : List Nat) (l : List Int) : (d.emit k whom l).marks = d.marks := rfl
@[simp] theorem Dev.used_od (d : Dev) : (d.used).od = d.od := rfl
@[simp] theorem Dev.used_gen (d : Dev) : (d.used).gen = d.gen := rfl
@[simp] theorem Dev.used_nv (d : Dev) : (d.used).nv = d.nv := rfl
@[simp] theorem Dev.used_nvDue (d : Dev) : (d.used).nvDue = d.nvDue := rfl
@[simp] theorem Dev.used_out (d : Dev) : (d.used).out = d.out := rfl
@[simp] theorem Dev.used_ev (d : Dev) : (d.used).ev = d.ev := rfl
@[simp] theorem Dev.used_cs (d : Dev) : (d.used).cs = d.cs := rfl
@[simp] theorem Dev.used_led (d : Dev) : (d.used).led = d.led := rfl
@[simp] theorem Dev.used_can0 (d : Dev) : (d.used).can0 = d.can0 := rfl
@[simp] theorem Dev.used_can1 (d : Dev) : (d.used).can1 = d.can1 := rfl
@[simp] theorem Dev.used_clk (d : Dev) : (d.used).clk = d.clk := rfl
@[simp] theorem Dev.used_servo (d : Dev) : (d.used).servo = d.servo := rfl
@[simp] theorem Dev.used_cart (d : Dev) : (d.used).cart = d.cart := rfl
@[simp] theorem Dev.used_ptp0 (d : Dev) : (d.used).ptp0 = d.ptp0 := rfl
@[simp] theorem Dev.used_ptp1 (d : Dev) : (d.used).ptp1 = d.ptp1 := rfl
@[simp] theorem Dev.used_pps0 (d : Dev) : (d.used).pps0 = d.pps0 := rfl
@[simp] theorem Dev.used_pps1 (d : Dev) : (d.used).pps1 = d.pps1 := rfl
@[simp] theorem Dev.used_cmpLate (d : Dev) : (d.used).cmpLate = d.cmpLate := rfl
@[simp] theorem Dev.used_pwr (d : Dev) : (d.used).pwr = d.pwr := rfl
@[simp] theorem Dev.used_mor (d : Dev) : (d.used).mor = d.mor := rfl
@[simp] theorem Dev.used_res (d : Dev) : (d.used).res = d.res := rfl
@[simp] theorem Dev.used_wo (d : Dev) : (d.used).wo = d.wo := rfl
@[simp] theorem Dev.used_axes (d : Dev) : (d.used).axes = d.axes := rfl
@[simp] theorem Dev.used_rounds (d : Dev) : (d.used).rounds = d.rounds := rfl
@[simp] theorem Dev.used_resv (d : Dev) : (d.used).resv = d.resv := rfl
@[simp] theorem Dev.used_cars (d : Dev) : (d.used).cars = d.cars := rfl
@[simp] theorem Dev.used_tasks (d : Dev) : (d.used).tasks = d.tasks := rfl
@[simp] theorem Dev.used_tele (d : Dev) : (d.used).tele = d.tele := rfl
@[simp] theorem Dev.used_rx (d : Dev) : (d.used).rx = d.rx := rfl
@[simp] theorem Dev.used_slots (d : Dev) : (d.used).slots = d.slots := rfl
@[simp] theorem Dev.used_eng_ (d : Dev) : (d.used).eng_ = d.eng_ := rfl
@[simp] theorem Dev.used_sched (d : Dev) : (d.used).sched = d.sched := rfl
@[simp] theorem Dev.used_cap (d : Dev) : (d.used).cap = d.cap := rfl
@[simp] theorem Dev.used_sw (d : Dev) : (d.used).sw = d.sw := rfl
@[simp] theorem Dev.used_pair (d : Dev) : (d.used).pair = d.pair := rfl
@[simp] theorem Dev.used_upd (d : Dev) : (d.used).upd = d.upd := rfl
@[simp] theorem Dev.used_wit (d : Dev) : (d.used).wit = d.wit := rfl
@[simp] theorem Dev.used_marks (d : Dev) : (d.used).marks = d.marks := rfl
@[simp] theorem Dev.mark_od (d : Dev) (r : Recur) (v : Nat) : (d.mark r v).od = d.od := rfl
@[simp] theorem Dev.mark_gen (d : Dev) (r : Recur) (v : Nat) : (d.mark r v).gen = d.gen := rfl
@[simp] theorem Dev.mark_nv (d : Dev) (r : Recur) (v : Nat) : (d.mark r v).nv = d.nv := rfl
@[simp] theorem Dev.mark_nvDue (d : Dev) (r : Recur) (v : Nat) : (d.mark r v).nvDue = d.nvDue := rfl
@[simp] theorem Dev.mark_out (d : Dev) (r : Recur) (v : Nat) : (d.mark r v).out = d.out := rfl
@[simp] theorem Dev.mark_frees (d : Dev) (r : Recur) (v : Nat) : (d.mark r v).frees = d.frees := rfl
@[simp] theorem Dev.mark_ev (d : Dev) (r : Recur) (v : Nat) : (d.mark r v).ev = d.ev := rfl
@[simp] theorem Dev.mark_cs (d : Dev) (r : Recur) (v : Nat) : (d.mark r v).cs = d.cs := rfl
@[simp] theorem Dev.mark_led (d : Dev) (r : Recur) (v : Nat) : (d.mark r v).led = d.led := rfl
@[simp] theorem Dev.mark_can0 (d : Dev) (r : Recur) (v : Nat) : (d.mark r v).can0 = d.can0 := rfl
@[simp] theorem Dev.mark_can1 (d : Dev) (r : Recur) (v : Nat) : (d.mark r v).can1 = d.can1 := rfl
@[simp] theorem Dev.mark_clk (d : Dev) (r : Recur) (v : Nat) : (d.mark r v).clk = d.clk := rfl
@[simp] theorem Dev.mark_servo (d : Dev) (r : Recur) (v : Nat) : (d.mark r v).servo = d.servo := rfl
@[simp] theorem Dev.mark_cart (d : Dev) (r : Recur) (v : Nat) : (d.mark r v).cart = d.cart := rfl
@[simp] theorem Dev.mark_ptp0 (d : Dev) (r : Recur) (v : Nat) : (d.mark r v).ptp0 = d.ptp0 := rfl
@[simp] theorem Dev.mark_ptp1 (d : Dev) (r : Recur) (v : Nat) : (d.mark r v).ptp1 = d.ptp1 := rfl
@[simp] theorem Dev.mark_pps0 (d : Dev) (r : Recur) (v : Nat) : (d.mark r v).pps0 = d.pps0 := rfl
@[simp] theorem Dev.mark_pps1 (d : Dev) (r : Recur) (v : Nat) : (d.mark r v).pps1 = d.pps1 := rfl
@[simp] theorem Dev.mark_cmpLate (d : Dev) (r : Recur) (v : Nat) : (d.mark r v).cmpLate = d.cmpLate := rfl
@[simp] theorem Dev.mark_pwr (d : Dev) (r : Recur) (v : Nat) : (d.mark r v).pwr = d.pwr := rfl
@[simp] theorem Dev.mark_mor (d : Dev) (r : Recur) (v : Nat) : (d.mark r v).mor = d.mor := rfl
@[simp] theorem Dev.mark_res (d : Dev) (r : Recur) (v : Nat) : (d.mark r v).res = d.res := rfl
@[simp] theorem Dev.mark_wo (d : Dev) (r : Recur) (v : Nat) : (d.mark r v).wo = d.wo := rfl
@[simp] theorem Dev.mark_axes (d : Dev) (r : Recur) (v : Nat) : (d.mark r v).axes = d.axes := rfl
@[simp] theorem Dev.mark_rounds (d : Dev) (r : Recur) (v : Nat) : (d.mark r v).rounds = d.rounds := rfl
@[simp] theorem Dev.mark_resv (d : Dev) (r : Recur) (v : Nat) : (d.mark r v).resv = d.resv := rfl
@[simp] theorem Dev.mark_cars (d : Dev) (r : Recur) (v : Nat) : (d.mark r v).cars = d.cars := rfl
@[simp] theorem Dev.mark_tasks (d : Dev) (r : Recur) (v : Nat) : (d.mark r v).tasks = d.tasks := rfl
@[simp] theorem Dev.mark_tele (d : Dev) (r : Recur) (v : Nat) : (d.mark r v).tele = d.tele := rfl
@[simp] theorem Dev.mark_rx (d : Dev) (r : Recur) (v : Nat) : (d.mark r v).rx = d.rx := rfl
@[simp] theorem Dev.mark_slots (d : Dev) (r : Recur) (v : Nat) : (d.mark r v).slots = d.slots := rfl
@[simp] theorem Dev.mark_eng_ (d : Dev) (r : Recur) (v : Nat) : (d.mark r v).eng_ = d.eng_ := rfl
@[simp] theorem Dev.mark_sched (d : Dev) (r : Recur) (v : Nat) : (d.mark r v).sched = d.sched := rfl
@[simp] theorem Dev.mark_cap (d : Dev) (r : Recur) (v : Nat) : (d.mark r v).cap = d.cap := rfl
@[simp] theorem Dev.mark_sw (d : Dev) (r : Recur) (v : Nat) : (d.mark r v).sw = d.sw := rfl
@[simp] theorem Dev.mark_pair (d : Dev) (r : Recur) (v : Nat) : (d.mark r v).pair = d.pair := rfl
@[simp] theorem Dev.mark_upd (d : Dev) (r : Recur) (v : Nat) : (d.mark r v).upd = d.upd := rfl
@[simp] theorem Dev.mark_wit (d : Dev) (r : Recur) (v : Nat) : (d.mark r v).wit = d.wit := rfl

/-- Time passes on the clock alone. -/
@[simp] theorem Dev.pass_now (d : Dev) (n : Nat) : (d.pass n).clk.now = d.clk.now + n := rfl
@[simp] theorem Dev.pass_off (d : Dev) (n : Nat) : (d.pass n).clk.off = d.clk.off := rfl
@[simp] theorem Dev.pass_rate (d : Dev) (n : Nat) : (d.pass n).clk.rate = d.clk.rate := rfl
@[simp] theorem Dev.pass_base (d : Dev) (n : Nat) : (d.pass n).clk.base = d.clk.base := rfl
@[simp] theorem Dev.emit_out (d : Dev) (k : SentKind) (whom : List Nat) (l : List Int) :
    (d.emit k whom l).out = { kind := k, whom := whom, flds := l } :: d.out := rfl
@[simp] theorem Dev.mark_marks (d : Dev) (r : Recur) (v : Nat) : (d.mark r v).marks = tabPut d.marks r.key v := rfl
@[simp] theorem Dev.used_frees (d : Dev) : d.used.frees = d.frees + 1 := rfl

/-! Every change of an entry is a `put`. -/

@[simp] theorem Dev.setN_put (d : Dev) (k : Key) (v : Int) : d.setN k v = d.put k (.num v) := rfl
@[simp] theorem Dev.setO_put (d : Dev) (k : Key) (b : List Byte) : d.setO k b = d.put k (.oct b) := rfl
@[simp] theorem Dev.setB_put (d : Dev) (k : Key) (b : Bool) : d.setB k b = d.put k (.num (if b then 1 else 0)) := rfl
@[simp] theorem Dev.addSat_put (d : Dev) (k : Key) (n top : Nat) :
    d.addSat k n top = d.put k (.num (min (d.nat k + n) top : Nat)) := rfl
@[simp] theorem Dev.inc32_put (d : Dev) (k : Key) : d.inc32 k = d.put k (.num (min (d.nat k + 1) 0xFFFFFFFF : Nat)) := rfl
@[simp] theorem Dev.inc16_put (d : Dev) (k : Key) : d.inc16 k = d.put k (.num (min (d.nat k + 1) 0xFFFF : Nat)) := rfl

@[simp] theorem DVal.int_num (v : Int) : (DVal.num v).int = v := rfl
@[simp] theorem DVal.bytes_oct (b : List Byte) : (DVal.oct b).bytes = b := rfl

end Sys2Proof.Machine
end

