-- ==== Sys2Proof/Laws/Tables.lean ====
section
/-!
SUPPORT. Laws of sparse tables: what a look-up finds after a store, and that a store keeps the canonical form.
-/
namespace Sys2Proof.Machine

variable {α : Type}

@[simp] theorem tabGet_nil (i : Nat) : tabGet ([] : Tab α) i = none := rfl

/-- A look-up after a store: the value stored under its own number, and what stood before under every other. -/
theorem tabGet_tabPut (m : Tab α) (i j : Nat) (x : α) :
    tabGet (tabPut m i x) j = if i = j then some x else tabGet m j := by
  fun_induction tabPut m i x <;> grind [tabGet]

@[simp] theorem tabGet_tabPut_self (m : Tab α) (i : Nat) (x : α) : tabGet (tabPut m i x) i = some x :=
  (tabGet_tabPut m i i x).trans (if_pos rfl)

theorem tabGet_tabPut_ne (m : Tab α) {i j : Nat} (x : α) (h : i ≠ j) : tabGet (tabPut m i x) j = tabGet m j :=
  (tabGet_tabPut m i j x).trans (if_neg h)

/-- A look-up after a removal. -/
theorem tabGet_tabDel (m : Tab α) (i j : Nat) : tabGet (tabDel m i) j = if i = j then none else tabGet m j := by
  induction m <;> grind [tabGet, tabDel]

theorem tabGetD_tabPut (m : Tab α) (i j : Nat) (x y : α) :
    tabGetD (tabPut m i x) j y = if i = j then x else tabGetD m j y := by
  grind [tabGetD, tabGet_tabPut]

/-- A store keeps the keys strictly rising. -/
theorem tabOk_put (m : Tab α) (b : Option Nat) (i : Nat) (x : α) (h : tabOk b m = true) (hb : ∀ n, b = some n → n < i) :
    tabOk b (tabPut m i x) = true := by
  fun_induction tabPut m i x generalizing b <;> cases b <;> grind [tabOk]

end Sys2Proof.Machine
end

