-- ==== Sys2Proof/Laws/Dict.lean ====
section
/-!
SUPPORT. Laws of the dictionary and of the event router: reading after a change, what raising a source changes, and what it leaves
alone.
-/
namespace Sys2Proof.Machine

/-- Reads depend on the dictionary alone. -/
theorem Dev.get_congr {d e : Dev} (h : d.od = e.od) (k : Key) : d.get k = e.get k := by unfold Dev.get; rw [h]

/-- Reading after a change (R28). -/
theorem Dev.get_put (d : Dev) (k j : Key) (v : DVal) : (d.put k v).get j = if k = j then v else d.get j := by
  unfold Dev.get Dev.put
  simp only [tabGet_tabPut]
  split <;> rfl

@[simp] theorem Dev.get_put_self (d : Dev) (k : Key) (v : DVal) : (d.put k v).get k = v := by simp [Dev.get_put]
@[simp] theorem Dev.get_pass (d : Dev) (n : Nat) (k : Key) : (d.pass n).get k = d.get k := rfl
@[simp] theorem Dev.get_emit (d : Dev) (s : SentKind) (whom : List Nat) (l : List Int) (k : Key) : (d.emit s whom l).get k = d.get k := rfl
@[simp] theorem Dev.get_used (d : Dev) (k : Key) : d.used.get k = d.get k := rfl

@[simp] theorem Dev.num_pass (d : Dev) (n : Nat) (k : Key) : (d.pass n).num k = d.num k := rfl
@[simp] theorem Dev.nat_pass (d : Dev) (n : Nat) (k : Key) : (d.pass n).nat k = d.nat k := rfl
@[simp] theorem Dev.oct_pass (d : Dev) (n : Nat) (k : Key) : (d.pass n).oct k = d.oct k := rfl
@[simp] theorem Dev.flag_pass (d : Dev) (n : Nat) (k : Key) : (d.pass n).flag k = d.flag k := rfl
@[simp] theorem Dev.bit_pass (d : Dev) (n : Nat) (k : Key) (b : Nat) : (d.pass n).bit k b = d.bit k b := rfl
@[simp] theorem Dev.up_pass (d : Dev) (n i : Nat) : (d.pass n).up i = d.up i := rfl
@[simp] theorem Dev.island_pass (d : Dev) (n i : Nat) : (d.pass n).island i = d.island i := rfl
@[simp] theorem Dev.noTime_pass (d : Dev) (n : Nat) : (d.pass n).noTime = d.noTime := rfl
@[simp] theorem Dev.timeState_pass (d : Dev) (n : Nat) : (d.pass n).timeState = d.timeState := rfl

@[simp] theorem Dev.rest_pass (d : Dev) (n : Nat) : (d.pass n).rest = d.rest := rfl
@[simp] theorem Dev.rest_put (d : Dev) (k : Key) (v : DVal) : (d.put k v).rest = d.rest := rfl
@[simp] theorem Dev.rest_emit (d : Dev) (s : SentKind) (whom : List Nat) (l : List Int) : (d.emit s whom l).rest = d.rest := rfl

/-- A bit of an entry set or cleared. -/
theorem Dev.setBit_put (d : Dev) (k : Key) (b : Nat) (on : Bool) :
    d.setBit k b on = d.put k (.num ((if on then d.nat k ||| 2 ^ b else d.nat k ^^^ (d.nat k &&& 2 ^ b) : Nat) : Int)) := rfl

@[simp] theorem Dev.rest_setBit (d : Dev) (k : Key) (b : Nat) (on : Bool) : (d.setBit k b on).rest = d.rest := rfl

/-- Bits of an entry after a bit of it has been set or cleared. -/
theorem Dev.bit_setBit (d : Dev) (k j : Key) (b c : Nat) (on : Bool) :
    (d.setBit k b on).bit j c = if k = j ∧ b = c then on else d.bit j c := by
  unfold Dev.bit Dev.nat Dev.num
  rw [Dev.setBit_put, Dev.get_put]
  by_cases hk : k = j
  · subst hk
    simp only [if_true, DVal.int_num, true_and, Int.toNat_natCast, Dev.nat, Dev.num]
    cases on with
    | true =>
      simp only [if_true, Nat.testBit_or, Nat.testBit_two_pow]
      by_cases hb : b = c <;> simp [hb]
    | false =>
      simp only [Bool.false_eq_true, if_false, Nat.testBit_xor, Nat.testBit_and, Nat.testBit_two_pow]
      by_cases hb : b = c <;> simp [hb]
  · simp [hk]

/-! The event router. -/

@[simp] theorem Dev.rest_ev (d : Dev) (e : Events) : ({ d with ev := e } : Dev).rest = d.rest := rfl

@[simp] theorem Dev.sendEmcy_od (d : Dev) (a b c : Nat) : (d.sendEmcy a b c).od = d.od := by
  unfold Dev.sendEmcy; simp only; split <;> (split <;> rfl)
@[simp] theorem Dev.sendEmcy_rest (d : Dev) (a b c : Nat) : (d.sendEmcy a b c).rest = d.rest := by
  unfold Dev.sendEmcy; simp only; split <;> (split <;> rfl)

theorem Dev.routeEmcy_get (d : Dev) (s n : Nat) (k : Key) (h : k ≠ 0x481800) : (d.routeEmcy s n).get k = d.get k := by
  unfold Dev.routeEmcy
  simp only
  split
  · split
    · split
      · rfl
      · rw [Dev.inc32_put, Dev.get_put, if_neg (Ne.symm h)]
    · exact Dev.get_congr (by simp) k
  · rfl

@[simp] theorem Dev.routeEmcy_rest (d : Dev) (s n : Nat) : (d.routeEmcy s n).rest = d.rest := by
  unfold Dev.routeEmcy
  simp only
  split
  · split
    · split <;> rfl
    · exact Dev.sendEmcy_rest d s n _
  · rfl

/-- Raising a source leaves every entry but those of the router. -/
theorem Dev.raise_get (d : Dev) (s n : Nat) (k : Key) (hs : s < 512) (h : isRouter k = false) :
    (d.raise s n).get k = d.get k := by
  simp only [isRouter, Bool.or_eq_false_iff, decide_eq_false_iff_not] at h
  unfold Dev.raise
  simp only
  rw [Dev.routeEmcy_get _ _ _ _ h.2]
  show (d.setBit (evKey 0x4815 s) (s % 32) true).get k = _
  rw [Dev.setBit_put, Dev.get_put, if_neg]
  intro he
  apply h.1
  rw [← he]
  show (0x4815 * 256 + (s / 32 + 1) : Nat) / 256 = 0x4815
  omega

@[simp] theorem Dev.raise_rest (d : Dev) (s n : Nat) : (d.raise s n).rest = d.rest := by
  unfold Dev.raise
  simp only
  rw [Dev.routeEmcy_rest]
  rfl

theorem Dev.routeEmcy_counts (d : Dev) (s n : Nat) : (d.routeEmcy s n).ev.counts = d.ev.counts := by
  unfold Dev.routeEmcy Dev.sendEmcy
  simp only
  split
  · split
    · split <;> rfl
    · split <;> (split <;> rfl)
  · rfl

theorem Dev.routeEmcy_clk (d : Dev) (s n : Nat) : (d.routeEmcy s n).clk = d.clk := by
  unfold Dev.routeEmcy Dev.sendEmcy
  simp only
  split
  · split
    · split <;> rfl
    · split <;> (split <;> rfl)
  · rfl

@[simp] theorem Dev.raise_clk (d : Dev) (s n : Nat) : (d.raise s n).clk = d.clk := by
  unfold Dev.raise
  simp only
  rw [Dev.routeEmcy_clk]
  rfl

/-- Each raising counts (R65). -/
@[simp] theorem Dev.raise_counts (d : Dev) (s n : Nat) : (d.raise s n).ev.counts = tabMod d.ev.counts s 0 (· + 1) := by
  unfold Dev.raise
  simp only
  rw [Dev.routeEmcy_counts]
  rfl

/-- Each raising sets its own pending bit and no other (R65). -/
theorem Dev.raise_pending (d : Dev) (s n m : Nat) (hm : m < 512) :
    (d.raise s n).pendingEv m = (d.pendingEv m || decide (m = s)) := by
  have hb : (d.raise s n).pendingEv m = (d.setBit (evKey 0x4815 s) (s % 32) true).pendingEv m := by
    unfold Dev.pendingEv Dev.evBit Dev.bit Dev.nat Dev.num Dev.raise
    simp only
    rw [Dev.routeEmcy_get]
    · rfl
    · intro he
      have he : (0x4815 * 256 + (m / 32 + 1) : Nat) = 0x481800 := he
      omega
  rw [hb]
  unfold Dev.pendingEv Dev.evBit
  rw [Dev.bit_setBit]
  by_cases h : m = s
  · subst h; simp
  · have : ¬(evKey 0x4815 s = evKey 0x4815 m ∧ s % 32 = m % 32) := by
      rintro ⟨h1, h2⟩
      have h1 : (0x4815 * 256 + (s / 32 + 1) : Nat) = 0x4815 * 256 + (m / 32 + 1) := h1
      omega
    rw [if_neg this]
    simp [h]

end Sys2Proof.Machine
end

