-- ==== Sys2Proof/Laws/Access.lean ====
section
/-!
SUPPORT. Laws of dictionary requests: what a write of a command entry does once it is accepted, and that the intake of a request does not
depend on the time.
-/
namespace Sys2Proof.Machine

@[simp] theorem Dev.intake_pass (d : Dev) (n : Nat) (q : Req) (op : Nat) (p : List Byte) :
    (d.pass n).intake q op p = d.intake q op p := rfl
@[simp] theorem Dev.writeCheck_pass (d : Dev) (n : Nat) (p : Peer) (b : Bool) (i j : Nat) :
    (d.pass n).writeCheck p b i j = d.writeCheck p b i j := rfl
@[simp] theorem Dev.accepts_pass (d : Dev) (n : Nat) (q : Req) (i j : Nat) (data : List Byte) (v : DVal) :
    (d.pass n).accepts q i j data v ↔ d.accepts q i j data v := Iff.rfl

theorem Dev.touch_od (d : Dev) (p : Peer) : (d.touch p).od = d.od := by unfold Dev.touch; split <;> rfl
theorem Dev.touch_owner (d : Dev) (p : Peer) : (d.touch p).cs.owner = d.cs.owner := by unfold Dev.touch; split <;> rfl
theorem Dev.touch_led (d : Dev) (p : Peer) : (d.touch p).led = d.led := by unfold Dev.touch; split <;> rfl
@[simp] theorem Dev.heard_od (d : Dev) (q : Req) : (d.heard q).od = d.od := by
  unfold Dev.heard Dev.dropParts; exact Dev.touch_od d q.peer
@[simp] theorem Dev.heard_get (d : Dev) (q : Req) (k : Key) : (d.heard q).get k = d.get k := Dev.get_congr (Dev.heard_od d q) k

theorem Dev.writeCheck_touch (d : Dev) (r p : Peer) (b : Bool) (i j : Nat) :
    (d.touch r).writeCheck p b i j = d.writeCheck p b i j := by
  unfold Dev.touch
  split <;> rfl

/-- A whole value, of an entry of which the peer holds no part, is taken as it is, and parts of other entries are gone (R60). -/
theorem Dev.takePart_whole (d : Dev) (p : Peer) (k : Key) (b : List Byte)
    (h : ∀ x ∈ d.led.parts, x.peer = p → x.key = k → x.staged = true) :
    d.takePart p k false 0 b.length b = (d.dropParts p, 0, some b) := by
  unfold Dev.takePart
  cases hx : d.led.parts.find? (fun x => x.peer == p) with
  | none => simp
  | some x =>
    have hp : x.peer = p := by simpa using List.find?_some hx
    have ho : x.key = k → x.staged = true := h x (List.mem_of_find?_eq_some hx) hp
    simp only [Nat.zero_add, Nat.lt_irrefl, if_false, ne_eq, not_true_eq_false, if_true]
    exact if_pos (by grind)

/-- A write that is accepted has the entry's effect on the device that has heard the request, and its answer (R35, R58). -/
theorem Dev.command_accepted (d : Dev) (q : Req) (idx sub : Nat) (data : List Byte) (v : DVal) (f : DVal → Dev → Dev × Nat)
    (h : d.accepts q idx sub data v) :
    d.command q idx sub data f = (f v (d.heard q)).1.ack q idx sub data (f v (d.heard q)).2 := by
  obtain ⟨⟨hi, hj, hw, hp⟩, hv⟩ := h
  have hop : hasOp q (if q.peer.kind = 4 then 2 + sub else opWrite) = true := by unfold hasOp; grind
  have hj' : ¬(q.peer.kind = 4 ∧ idx ≠ 0x4602) := fun ⟨a, b⟩ => b (hj a)
  have hw' := (Dev.writeCheck_touch d q.peer q.peer false idx sub).trans hw
  have ht : (d.touch q.peer).takePart q.peer (keyOf idx sub) false 0 data.length data = (d.heard q, 0, some data) :=
    Dev.takePart_whole _ _ _ _ (by rw [Dev.touch_led]; exact hp)
  unfold Dev.command Dev.serveWrite Dev.serve Dev.ack
  simp only [hop, hi, if_neg hj', hw', ht, hv, Bool.not_true, Bool.false_eq_true, if_false, ne_eq, not_true_eq_false]
  rfl

end Sys2Proof.Machine
end

