-- ==== Sys2Proof/WellFormed.lean ====
section
/-!
DEFINITION. Well-formed commands: every field of a frame fits the bits that its layout gives it, and every island and cause is one that
the spec numbers. Commands that are not well-formed name no frame or event of the device; exec is total on them all the same.
-/
namespace Sys2Proof

/-- A field of `n` bits. -/
def fits (n v : Nat) : Bool := decide (v < 2 ^ n)

/-- A signed field of `n` bits. -/
def fitsI (n : Nat) (v : Int) : Bool := decide (-2 ^ (n - 1) ≤ v) && decide (v < 2 ^ (n - 1))

/-- A number within bounds. -/
def inside (lo hi v : Nat) : Bool := decide (lo ≤ v) && decide (v ≤ hi)

/-- A peer that 2010:08 can name (R51), or a Jenyn host (R528). -/
def Peer.wf (p : Peer) : Bool :=
  inside 1 4 p.kind && decide (p.can ≤ 1) && fits 16 p.port && fits (if p.kind = 2 then 128 else 32) p.addr

/-- The header fields of R54 and the UDP fields of R53. -/
def Req.wf (q : Req) : Bool :=
  q.peer.wf && decide (q.arrPort ≤ 7) && fits 16 q.dstUdp && fits 32 q.reqId && fits 16 q.magic
    && fits 16 q.status && fits 8 q.version && fits 30 q.rsv && (q.crc.getD 0 |> fits 32)

/-- A received frame has at least an address, a type and an FCS, and at most 16,384 bytes; an ingress buffer holds 64 KiB (R373, R374). -/
def Frame.wf (f : Frame) : Bool := inside 18 16384 f.data.length && decide (f.fill ≤ 131072)

/-- The header fields of R246. -/
def ResReq.wf (r : ResReq) : Bool :=
  fits 16 r.magic && fits 8 r.version && fits 8 r.slot && fits 16 r.path && fits 32 r.tag && fits 8 r.stepLow

/-- Four codes of 12 bits, 16 balls and 39 signals (R434, R435). -/
def CapSample.wf (s : CapSample) : Bool :=
  decide (s.codes.length = 4) && s.codes.all (fun x => fits 12 x) && fits 16 s.pins && fits 39 s.signals

/-- Port identities of 80 bits and sequence numbers of 16 (R101). -/
def PtpMsg.wf (m : PtpMsg) : Bool := fits 80 m.src && fits 16 m.seq && fits 8 m.domain && fits 80 m.asked

/-- The fields of an Announce (R101). -/
def Announce.wf (a : Announce) : Bool :=
  fits 80 a.src && fits 16 a.seq && fits 8 a.domain && fits 8 a.priority1 && fits 8 a.clkClass && fits 8 a.accuracy
    && fits 16 a.variance && fits 8 a.priority2 && fits 64 a.gm && fits 16 a.steps

/-- A flash block of 64 KiB, and whether its verify failed (cause 3) or its erase count was reached (6) (R542, R547). -/
def badBlockWf (b : Option (Nat × Nat)) : Bool :=
  match b with
  | some (n, c) => decide (n < 1024) && (decide (c = 3) || decide (c = 6))
  | none => true

/-- A well-formed command; the last arm names those that carry no field of a frame. -/
def Instr.wf : Instr → Bool
  | .registerWrite _ q op p _ => q.wf && fits 8 op && decide (p.length ≤ 65544)
  | .ledgerSubscribe _ q first last action _ => q.wf && fits 16 first && fits 16 last && fits 8 action
  | .checkOnly _ q _ => q.wf
  | .commitNextInstant _ q _ => q.wf
  | .commitAtInstant _ q _ _ => q.wf
  | .abort _ q _ => q.wf
  | .partBufferTimeout _ peer => peer.wf
  | .settingsStoreWrite _ bad => badBlockWf bad
  | .responseCacheExpiry _ peer reqId => peer.wf && fits 32 reqId
  | .pendingClear _ q sub _ => q.wf && fits 8 sub
  | .ledgerConfigWrite _ q sub _ => q.wf && fits 8 sub
  | .ptpSyncReceive _ _ m => m.wf
  | .ptpFollowUpReceive _ _ m => m.wf
  | .ptpAnnounceReceive _ _ a => a.wf
  | .ptpDelayReqReceive _ _ m => m.wf
  | .ptpDelayRespReceive _ _ m => m.wf
  | .ptpPdelayReqReceive _ _ m => m.wf
  | .ptpPdelayRespReceive _ _ _ m => m.wf
  | .comparatorArm _ q _ _ => q.wf
  | .restartCold _ q => q.wf
  | .restartWarm _ q => q.wf
  | .restartHot _ q => q.wf
  | .surveyStart _ q => q.wf
  | .surveyStop _ q => q.wf
  | .observationIntake _ _ addr port b _ _ => fits 128 addr && fits 16 port && decide (b.length ≤ 1452)
  | .slotResetFilter _ q _ => q.wf
  | .slotDropCarried _ q _ => q.wf
  | .reserve _ q r => q.wf && r.wf
  | .extend _ q r => q.wf && r.wf
  | .release _ q r => q.wf && r.wf
  | .lookup _ q r => q.wf && r.wf
  | .forceRelease _ q _ => q.wf
  | .scheduleGroupSelect _ q _ => q.wf
  | .taskSubmit _ q _ => q.wf
  | .taskCancel _ q _ => q.wf
  | .vehicleHold _ q _ _ _ => q.wf
  | .vehicleResume _ q _ _ _ => q.wf
  | .vehicleGoToNode _ q _ _ _ => q.wf
  | .vehicleGiveUpTask _ q _ _ _ => q.wf
  | .stopInputAct _ _ levels _ _ => fits 7 levels
  | .stopInputDiscrepancy _ _ levels _ => fits 7 levels
  | .outputReadbackFault _ _ levels _ => fits 7 levels
  | .stopInputFaultClear _ _ levels => fits 7 levels
  | .testPulseCheck _ _ levels => fits 7 levels
  | .stopCommand _ q _ => q.wf
  | .clearCommand _ q _ levels _ => q.wf && fits 7 levels
  | .keepAlive _ q _ => q.wf
  | .resumePress _ _ levels _ => fits 7 levels
  | .acknowledgement _ addr port b => fits 128 addr && fits 16 port && decide (b.length ≤ 1452)
  | .taskStatusReport _ addr port b => fits 128 addr && fits 16 port && decide (b.length ≤ 1452)
  | .axisMoveAbsolute _ q _ rsv arg => q.wf && fits 24 rsv && fitsI 32 arg
  | .axisMoveRelative _ q _ rsv arg => q.wf && fits 24 rsv && fitsI 32 arg
  | .axisJog _ q _ rsv arg => q.wf && fits 24 rsv && fitsI 32 arg
  | .axisStop _ q _ rsv arg => q.wf && fits 24 rsv && fitsI 32 arg
  | .axisHome _ q _ rsv arg => q.wf && fits 24 rsv && fitsI 32 arg
  | .axisEnable _ q _ rsv arg => q.wf && fits 24 rsv && fitsI 32 arg
  | .axisDisable _ q _ rsv arg => q.wf && fits 24 rsv && fitsI 32 arg
  | .axisClearFault _ q _ rsv arg => q.wf && fits 24 rsv && fitsI 32 arg
  | .axisSetPosition _ q _ _ => q.wf
  | .axisLimitInput _ _ levels _ => fits 4 levels
  | .axisFaultInput _ _ levels _ => fits 4 levels
  | .axisHomeEdge _ _ levels _ => fits 4 levels
  | .frameReceive _ _ f => f.wf
  | .linkUp _ _ _ ability => fits 2 ability
  | .tableInsert _ q _ => q.wf
  | .tableReplace _ q _ => q.wf
  | .tableDelete _ q _ => q.wf
  | .tableLookup _ q _ => q.wf
  | .tableReadIndex _ q _ => q.wf
  | .tableFlush _ q _ => q.wf
  | .tableBatch _ q _ => q.wf
  | .queuePush _ _ _ _ tag _ _ => fits 32 tag
  | .queueFlush _ q _ _ => q.wf
  | .queueStatisticsClear _ q _ => q.wf
  | .schedulerStatisticsClear _ q _ => q.wf
  | .timedActionArm _ q _ _ => q.wf
  | .captureArm _ q => q.wf
  | .captureForceTrigger _ q => q.wf
  | .captureStop _ q ss => q.wf && ss.all CapSample.wf
  | .captureRelease _ q _ => q.wf
  | .captureTrigger _ ss edges => ss.all CapSample.wf && edges.all (fun e => decide (e.frac < 160))
  | .captureRecordComplete _ ss => ss.all CapSample.wf
  | .powerRun _ q => q.wf
  | .powerIdle _ q => q.wf
  | .powerHibernate _ q => q.wf
  | .powerGlacier _ q => q.wf
  | .softwareReset _ q _ => q.wf
  | .thawIslandStart _ island => inside 1 10 island
  | .islandStarted _ island _ => inside 1 10 island
  | .islandStartTimeout _ island => inside 1 10 island
  | .islandRecoveryStart _ island => inside 1 10 island
  | .islandRecoveryEnd _ island => inside 1 10 island
  | .heartbeatReceive _ _ b => decide (b.length ≤ 65535)
  | .cairnPartReceive _ _ b => decide (b.length ≤ 65535)
  | .cairnAckReceive _ _ b => decide (b.length ≤ 65535)
  | .stopNoticeReceive _ _ b => decide (b.length ≤ 65535)
  | .settingsPartReceive _ _ b _ => decide (b.length ≤ 65535)
  | .settingsAckReceive _ _ b => decide (b.length ≤ 65535)
  | .pairWakeReceive _ _ b => decide (b.length ≤ 65535)
  | .soloDeclare _ q => q.wf
  | .soloLeave _ q => q.wf
  | .switchOver _ q _ => q.wf
  | .drill _ q _ => q.wf
  | .closeWindow _ q _ => q.wf
  | .clearLatches _ q _ _ _ => q.wf
  | .programKey _ q _ => q.wf
  | .revokeKey _ q _ => q.wf
  | .imageData _ q offset total _ bad => q.wf && fits 32 offset && fits 32 total && badBlockWf bad
  | .activate _ q _ => q.wf
  | .confirm _ q _ => q.wf
  | .abandon _ q _ => q.wf
  | .jenynIdentify _ q => q.wf
  | .moraineFlashCopy _ bad => badBlockWf bad
  | .moraineReadFrom _ q _ => q.wf
  | .moraineClear _ q _ => q.wf
  | .sramScrub _ island _ _ _ => inside 1 10 island
  | .coreRetire _ _ cause => inside 1 6 cause
  | .sramRowRetire _ island _ _ cause _ => inside 1 10 island && inside 1 6 cause
  | .dramRegionRetire _ _ cause _ => inside 1 6 cause
  | .gpioOutput _ q _ levels => q.wf && fits 16 levels
  | .powerOverBound _ _ | .closureCheckEnd _ | .commitApply _ _ | .changesetOwnerTimeout _ | .leaseExpiry _ _ | .notifySend _ _
  | .emcyInhibitExpiry _ | .ledgerPortChangeEffect _ | .nmtStartRemoteNode _ _ | .nmtStopRemoteNode _ _
  | .nmtEnterPreOperational _ _ | .nmtResetCommunication _ _ | .canHeartbeat _ _ | .tpdo1Send _ | .tpdo2Send _ | .servoUpdate _ _
  | .slewEnd _ | .stepApply _ | .efcOffload _ | .sourceTimeout _ _ | .sourceHoldoffExpiry _ _ | .holdoverDegrade _
  | .cartridgeFail _ _ _ _ | .cartridgeValid _ _ | .warmupEnd _ | .lifeRecordWrite _ _ | .ppsMessage _ _ | .ppsPulse _ _
  | .ptpSyncInterval _ _ | .ptpAnnounceInterval _ _ | .ptpDelayReqInterval _ _ | .announceReceiptTimeout _ _
  | .comparatorFire _ _ | .feedShort _ _ _ | .feedRetry _ _ _ | .feedStateChange _ _ _ | .notchEngage _ _ _ _
  | .notchRelease _ _ _ | .jammingRise _ _ _ | .jammingClear _ _ _ | .channelAssign _ _ | .acqSearchComplete _ _ _ _ _ _ _
  | .signalRequeue _ | .loopIntegration _ _ _ _ _ _ | .pullInTimeout _ _ | .coastTimeout _ _ | .measurementEpoch _ _ _
  | .baseRecordComplete _ | .epochDrop _ | .shadowTestEnd _ | .channelRetire _ _ | .surveyComplete _ | .surveyTimeout _
  | .benchmarkMeanCheck _ | .gnssTimeUpdate _ _ | .msmEpoch _ | .epochCompletionTimeout _ _ | .pairingWaitExpiry _ _
  | .fixWrite _ _ _ _ | .laneFault _ _ | .slotStale _ _ | .slotSuspend _ | .slotResume _ | .epochShed _ | .intervalLapse _ _ _
  | .standingAlert _ _ _ | .groupPassed _ _ _ | .bucketRelease _ | .taskEarliest _ _ | .taskRetentionExpiry _ _
  | .roundPeriodExpiry _ | .auctionRoundStart _ _ | .roundBoundExpiry _ _ | .auctionRoundEnd _ _ | .serviceTimeExpiry _ _
  | .setpointBlock _ _ | .permissionPeriod _ | .readinessTimeout _ _ | .revDwellEnd _ _ | .inputTestPulse _ _ | .outputTest _ _ _
  | .supervisorWatchdogExpiry _ | .resumeArmTimeout _ | .floodWave _ | .clearWave _ | .ackTimeout _ _
  | .axisSegment _ _ | .axisHoldDelay _ _ | .axisDwellEnd _ _ | .learnNotice _ _ | .ageingSweep _ _ _ | .stashReinsert _ _
  | .linkDown _ _ | .pauseExpiry _ _ | .shadowSweep _ _ _ _ | .entryRewrite _ _ _ | .queuePop _ _ _ | .firnSpill _ _
  | .firnRefill _ _ | .firnError _ _ _ _ | .taskReady _ _ _ _ _ _ | .dispatchEnd _ _ _ _ _ _ | .timerExpiry _ _
  | .timedActionRun _ _ _ | .captureFillComplete _ | .captureRearm _ | .powerOnReset _ _ _ | .vmainPgTimeout _ | .vmainRetry _
  | .brownOut _ _ _ | .resetNPulse _ _ | .watchdogReset _ _ | .thawRetry _ | .wakeNWake _ _ | .wakeTimerExpiry _ | .glacierWake _ _
  | .countsSave _ | .heartbeatSend _ | .laneLoss _ _ | .electionWaitExpiry _ | .cairnTake _ | .settingsRepeat _
  | .takeoverDelayExpiry _ | .grantHoldAlert _ _ _ | .isolationExpiry _ | .switchOverTimeout _ | .drillPeriodExpiry _
  | .drillEnd _ | .witnessPress _ _ _ | .sealOpen _ _ | .jumperFitted _ | .jumperRemoved _ _ | .witnessWindowExpiry _
  | .imageVerifyEnd _ _ | .autoConfirmExpiry _ | .trialTimeout _ | .dfuDnload _ _ _ | .dfuVerifyEnd _ _ | .dfuGetstatus _
  | .dfuClrstatus _ | .dfuGetstate _ | .dfuAbort _ | .dfuUpload _ | .dfuDetach _ | .moraineEntry _ | .wearMeasure _ _ _
  | .dramPatrol _ _ _ | .coreSelfTest _ _ _ | .temperatureRead _ _ | .frameTransmitEnd _ _ | .coreLoadAlert _ _
  | .alwaysOnSupplyLoss _ | .vbakLoss _ | .recoveryButtonHold _ _ => true

end Sys2Proof
end

