-- ==== Sys2Proof/Tests/Slice0.lean ====
section
/-!
SUPPORT. Tests: a smoke test of WellFormed; worked examples of the spec and of the standards it names, with their results as they
stand there; and, for every statement of Obligations.lean that has hypotheses, a state and operands that meet those of each of its clauses
together. Each group in parentheses of a theorem `witness_X` is one clause of the statement X.
-/
open Sys2Proof Sys2Proof.Machine

namespace Slice0Tests

set_option maxRecDepth 100000
set_option Elab.async false
set_option synthInstance.maxSize 4000
set_option synthInstance.maxHeartbeats 1000000

/-- Every island running, nothing pending: the machine that the states below are built from. -/
def up0 : Dev :=
  { (([3, 4, 5, 6, 7, 8, 9, 10].foldl (fun (d : Dev) i => d.setN (0x202000 + i) 3) dev0).setN 0x205002 0) with gen := [] }

/-- That machine with some entries at other values. -/
def W (l : List (Nat × Int)) : Dev :=
  l.foldl (fun (d : Dev) e => d.setN e.1 e.2) { up0 with pwr := { up0.pwr with thawing := false, vmainPg := true } }

/-- The state at reset around a device. -/
def St (d : Dev) : State := { State.reset with dev := d }

/-- A peer, and its request. -/
def pr : Peer := { kind := 1, addr := 0x0703280A, port := 51000 }
def rq (n : Nat := 0x51) : Req := { peer := pr, reqId := n }

/-- Some commands in a row, to reach a state. -/
def run1 (l : List Instr) (s : State) : State := l.foldl (fun s c => match exec c s with | .next t => t | _ => s) s

/-! How a witness meets a hypothesis that is not decided as it stands. -/

def okIs {α β : Type} [DecidableEq β] : Except α β → β → Bool
  | .ok y, v => decide (y = v)
  | .error _, _ => false

theorem ok_iff {α β : Type} [DecidableEq β] (x : Except α β) (v : β) : x = .ok v ↔ okIs x v = true := by
  cases x with
  | ok y => simp [okIs]
  | error e => simp [okIs]

theorem accepts_iff (d : Dev) (q : Req) (idx sub : Nat) (data : List Byte) (v : DVal) :
    d.accepts q idx sub data v ↔ d.admits q idx sub data ∧ okIs (valueOf idx sub data) v = true :=
  and_congr Iff.rfl (ok_iff _ _)

def heldBy {α : Type} (o : Option α) (p : α → Bool) : Bool := o.elim true p

theorem some_iff {α : Type} (o : Option α) (p : α → Prop) [DecidablePred p] : (∀ x, o = some x → p x) ↔ heldBy o (fun x => decide (p x)) = true := by
  cases o <;> simp [heldBy]

theorem pair_iff {α β : Type} (o : Option (α × β)) (p : α → β → Prop) [∀ a b, Decidable (p a b)] :
    (∀ a b, o = some (a, b) → p a b) ↔ heldBy o (fun x => decide (p x.1 x.2)) = true := by
  cases o with
  | none => simp [heldBy]
  | some x => simp only [heldBy, Option.elim, Option.some.injEq, decide_eq_true_eq]; exact ⟨fun h => h _ _ rfl, fun h a b e => by subst e; exact h⟩

theorem four_iff (p : Nat → Prop) : (∀ i, 1 ≤ i → i ≤ 4 → p i) ↔ p 1 ∧ p 2 ∧ p 3 ∧ p 4 := by
  refine ⟨fun h => by simp [h], fun h i a b => ?_⟩
  have : i = 1 ∨ i = 2 ∨ i = 3 ∨ i = 4 := by omega
  rcases this with rfl | rfl | rfl | rfl <;> simp [h]

theorem dwell_iff (x : AxisPlan) : (∀ u r, x ≠ AxisPlan.dwell u r) ↔ (match x with | .dwell _ _ => false | _ => true) = true := by
  cases x <;> simp

theorem weight_pos (x : SolSig) : 0 < solWeight x := by
  have h : (0 : Rat) < ((1 + Config.weight x.ent.cn0 x.pos.elev : Nat) : Rat) := by
    exact_mod_cast (by omega : 0 < 1 + Config.weight x.ent.cn0 x.pos.elev)
  show 0 < ((1 + Config.weight x.ent.cn0 x.pos.elev : Nat) : Rat) / 1000000
  generalize ((1 + Config.weight x.ent.cn0 x.pos.elev : Nat) : Rat) = y at h
  rw [Rat.div_def]
  exact Rat.mul_pos h (by decide +kernel)

theorem weights_pos (l : List SolSig) : 0 ≤ ((l.map solWeight).sum) ∧ (l ≠ [] → 0 < (l.map solWeight).sum) := by
  induction l with
  | nil => simp
  | cons x l ih =>
    have := weight_pos x
    simp only [List.map_cons, List.sum_cons]
    grind

theorem clock_of (l : List SolSig) (b : List Rat) (h : l ≠ []) :
    clockOf (l.map (fun x => (solValue l b x, solWeight x))) = some ((clockOf (l.map (fun x => (solValue l b x, solWeight x)))).getD 0) := by
  have p := (weights_pos l).2 h
  have e : ((l.map (fun x => (solValue l b x, solWeight x))).map (·.2)) = l.map solWeight := by simp [List.map_map, Function.comp_def]
  have n : ¬ (l.map solWeight).sum = 0 := by grind
  simp only [clockOf, e, n, if_false, Option.getD]

theorem bit_pow (d : Dev) (k n : Nat) (h : d.nat k = 2 ^ n) : ∀ c, d.bit k c = decide (c = n) := by
  intro c
  simp [Dev.bit, h, Nat.testBit_two_pow, eq_comm]

theorem bit_zero (d : Dev) (k : Nat) (h : d.nat k = 0) : ∀ c, d.bit k c = false := by
  intro c
  simp [Dev.bit, h]

theorem alone_of (d : Dev) (n : Nat) (h : ∀ x ∈ d.cars, x.1 = n ∨ x.2.path = none) : ∀ j, j ≠ n → (d.car j).path = none := by
  intro j hj
  show (tabGetD d.cars j vehicle0).path = none
  generalize d.cars = l at h
  induction l with
  | nil => rfl
  | cons x l ih =>
    have hx := h x (by simp)
    have ih := ih (fun y hy => h y (by simp [hy]))
    obtain ⟨k, v⟩ := x
    simp only [tabGetD, tabGet] at ih ⊢
    split
    · rename_i e
      exact hx.resolve_left (fun f => hj (e ▸ f))
    · exact ih

theorem some_of{α : Type} (o : Option α) (p : α → Bool) (h : (match o with | some r => p r | none => false) = true) :
    ∃ r, o = some r ∧ p r = true := by
  cases o with
  | none => simp at h
  | some r => exact ⟨r, rfl, h⟩

namespace WellFormedSmoke

/-- Plain frames and headers, well-formed as they stand. -/
def fr : Frame := { data := zeros 64 }
def rr : ResReq := { path := 200, count := 0, stepLow := 0, baseS := 0, length := 40, items := [] }
def pm : PtpMsg := { src := 1, seq := 1, origin := 0 }
def an : Announce := { src := 1, seq := 1, domain := 0, priority1 := 128, clkClass := 6, accuracy := 0x21, variance := 0, priority2 := 128, gm := 1,
                       steps := 0, utc := 37, utcValid := true }
def cp : CapSample := { codes := [0, 1, 2, 3] }

/-- Commands that carry a request alone. -/
noncomputable def bare : List (Nat → Req → Instr) := [.restartCold, .restartWarm, .restartHot, .surveyStart, .surveyStop, .captureArm,
  .captureForceTrigger, .powerRun, .powerIdle, .powerHibernate, .powerGlacier, .soloDeclare, .soloLeave, .jenynIdentify]

/-- Commands that carry a request and its data. -/
noncomputable def withData : List (Nat → Req → List Byte → Instr) := [.forceRelease, .scheduleGroupSelect, .taskSubmit, .taskCancel,
  .stopCommand, .keepAlive, .tableBatch, .queueStatisticsClear, .schedulerStatisticsClear, .captureRelease, .softwareReset, .switchOver, .drill,
  .closeWindow, .programKey, .revokeKey, .activate, .confirm, .abandon, .moraineReadFrom, .moraineClear]

/-- The axis commands, whose word R358 lays out. -/
noncomputable def axisCommands : List (Nat → Req → Fin 8 → Nat → Int → Instr) := [.axisMoveAbsolute, .axisMoveRelative, .axisJog, .axisStop,
  .axisHome, .axisEnable, .axisDisable, .axisClearFault]

/-- Commands that carry a request and more, at plain operands. -/
noncomputable def withMore : List (Req → Instr) := [fun q => .registerWrite 0 q 0 [] {}, fun q => .ledgerSubscribe 0 q 0 0 0 0, fun q =>
  .checkOnly 0 q false, fun q => .commitNextInstant 0 q false, fun q => .commitAtInstant 0 q false 0, fun q => .abort 0 q false, fun q =>
  .pendingClear 0 q 0 [], fun q => .ledgerConfigWrite 0 q 0 [], fun q => .comparatorArm 0 q 0 [], fun q => .slotResetFilter 0 q 0, fun q =>
  .slotDropCarried 0 q 0, fun q => .reserve 0 q rr, fun q => .extend 0 q rr, fun q => .release 0 q rr, fun q => .lookup 0 q rr, fun q =>
  .vehicleHold 0 q 0 0 0, fun q => .vehicleResume 0 q 0 0 0, fun q => .vehicleGoToNode 0 q 0 0 0, fun q => .vehicleGiveUpTask 0 q 0 0 0, fun q
  => .clearCommand 0 q [] 0 0, fun q => .axisSetPosition 0 q 0 [], fun q => .tableInsert 0 q none, fun q => .tableReplace 0 q none, fun q =>
  .tableDelete 0 q none, fun q => .tableLookup 0 q none, fun q => .tableReadIndex 0 q none, fun q => .tableFlush 0 q none, fun q => .queueFlush
  0 q 0 [], fun q => .timedActionArm 0 q 0 [], fun q => .captureStop 0 q [], fun q => .clearLatches 0 q [] false false, fun q => .imageData 0 q
  0 0 [] none, fun q => .gpioOutput 0 q [] 0]

/-- Commands without a request that `Instr.wf` checks, at plain operands. -/
noncomputable def formed1 : List Instr := [.partBufferTimeout 0 pr, .settingsStoreWrite 0 none, .responseCacheExpiry 0 pr 0, .ptpSyncReceive 0 0
  pm, .ptpFollowUpReceive 0 0 pm, .ptpAnnounceReceive 0 0 an, .ptpDelayReqReceive 0 0 pm, .ptpDelayRespReceive 0 0 pm, .ptpPdelayReqReceive 0 0
  pm, .ptpPdelayRespReceive 0 0 false pm, .observationIntake 0 0 0 0 [] 0 [], .stopInputAct 0 0 0 0 none, .stopInputDiscrepancy 0 0 0 0,
  .outputReadbackFault 0 0 0 0, .stopInputFaultClear 0 0 0, .testPulseCheck 0 0 0, .resumePress 0 0 0 0, .acknowledgement 0 0 0 [],
  .taskStatusReport 0 0 0 [], .axisLimitInput 0 0 0 0, .axisFaultInput 0 0 0 0, .axisHomeEdge 0 0 0 0, .frameReceive 0 0 fr, .linkUp 0 0 0 0,
  .queuePush 0 0 0 0 0 0 [], .captureTrigger 0 [] [], .captureRecordComplete 0 [], .thawIslandStart 0 1, .islandStarted 0 1 [],
  .islandStartTimeout 0 1, .islandRecoveryStart 0 1, .islandRecoveryEnd 0 1, .heartbeatReceive 0 0 [], .cairnPartReceive 0 0 [],
  .cairnAckReceive 0 0 [], .stopNoticeReceive 0 0 [], .settingsPartReceive 0 0 [] false, .settingsAckReceive 0 0 [], .pairWakeReceive 0 0 [],
  .moraineFlashCopy 0 none]

/-- Commands without a request that `Instr.wf` checks, at plain operands. -/
noncomputable def formed2 : List Instr := [.sramScrub 0 1 0 0 .clean, .coreRetire 0 0 1, .sramRowRetire 0 1 0 0 1 false, .dramRegionRetire 0 0 1
  .other]

/-- Commands that each break one check of `Instr.wf` beside that of the request. -/
noncomputable def illFormed1 : List Instr := [.registerWrite 0 rq (2 ^ 8) [] {}, .registerWrite 0 rq 0 (zeros 65545) {}, .ledgerSubscribe 0 rq
  (2 ^ 16) 0 0 0, .ledgerSubscribe 0 rq 0 (2 ^ 16) 0 0, .ledgerSubscribe 0 rq 0 0 (2 ^ 8) 0, .partBufferTimeout 0 { pr with kind := 0 },
  .settingsStoreWrite 0 (some (1024, 3)), .settingsStoreWrite 0 (some (0, 4)), .responseCacheExpiry 0 pr (2 ^ 32), .responseCacheExpiry 0
  { pr with kind := 0 } 0, .pendingClear 0 rq (2 ^ 8) [], .ledgerConfigWrite 0 rq (2 ^ 8) [], .ptpSyncReceive 0 0 { pm with seq := 65536 },
  .ptpFollowUpReceive 0 0 { pm with seq := 65536 }, .ptpAnnounceReceive 0 0 { an with steps := 65536 }, .ptpDelayReqReceive 0 0
  { pm with seq := 65536 }, .ptpDelayRespReceive 0 0 { pm with seq := 65536 }, .ptpPdelayReqReceive 0 0 { pm with seq := 65536 },
  .ptpPdelayRespReceive 0 0 false { pm with seq := 65536 }, .observationIntake 0 0 (2 ^ 128) 0 [] 0 [], .observationIntake 0 0 0 (2 ^ 16) [] 0
  [], .observationIntake 0 0 0 0 (zeros 1453) 0 [], .reserve 0 rq { rr with path := 65536 }, .extend 0 rq { rr with path := 65536 }, .release 0
  rq { rr with path := 65536 }, .lookup 0 rq { rr with path := 65536 }, .stopInputAct 0 0 (2 ^ 7) 0 none, .stopInputDiscrepancy 0 0 (2 ^ 7) 0,
  .outputReadbackFault 0 0 (2 ^ 7) 0, .stopInputFaultClear 0 0 (2 ^ 7), .testPulseCheck 0 0 (2 ^ 7), .clearCommand 0 rq [] (2 ^ 7) 0]

/-- Commands that each break one check of `Instr.wf` beside that of the request. -/
noncomputable def illFormed2 : List Instr := [.resumePress 0 0 (2 ^ 7) 0, .acknowledgement 0 (2 ^ 128) 0 [], .acknowledgement 0 0 (2 ^ 16) [],
  .acknowledgement 0 0 0 (zeros 1453), .taskStatusReport 0 (2 ^ 128) 0 [], .taskStatusReport 0 0 (2 ^ 16) [], .taskStatusReport 0 0 0 (zeros
  1453), .axisLimitInput 0 0 (2 ^ 4) 0, .axisFaultInput 0 0 (2 ^ 4) 0, .axisHomeEdge 0 0 (2 ^ 4) 0, .frameReceive 0 0
  { fr with fill := 131073 }, .linkUp 0 0 0 (2 ^ 2), .queuePush 0 0 0 0 (2 ^ 32) 0 [], .captureStop 0 rq [{ codes := [4096, 0, 0, 0] }],
  .captureTrigger 0 [{ codes := [4096, 0, 0, 0] }] [], .captureTrigger 0 [] [{ tick := 0, frac := 160, rising := true }], .captureRecordComplete
  0 [{ codes := [4096, 0, 0, 0] }], .thawIslandStart 0 11, .thawIslandStart 0 0, .islandStarted 0 11 [], .islandStarted 0 0 [],
  .islandStartTimeout 0 11, .islandStartTimeout 0 0, .islandRecoveryStart 0 11, .islandRecoveryStart 0 0, .islandRecoveryEnd 0 11,
  .islandRecoveryEnd 0 0, .heartbeatReceive 0 0 (zeros 65536), .cairnPartReceive 0 0 (zeros 65536), .cairnAckReceive 0 0 (zeros 65536),
  .stopNoticeReceive 0 0 (zeros 65536), .settingsPartReceive 0 0 (zeros 65536) false]

/-- Commands that each break one check of `Instr.wf` beside that of the request. -/
noncomputable def illFormed3 : List Instr := [.settingsAckReceive 0 0 (zeros 65536), .pairWakeReceive 0 0 (zeros 65536), .imageData 0 rq (2 ^
  32) 0 [] none, .imageData 0 rq 0 (2 ^ 32) [] none, .imageData 0 rq 0 0 [] (some (1024, 3)), .imageData 0 rq 0 0 [] (some (0, 4)),
  .moraineFlashCopy 0 (some (1024, 3)), .moraineFlashCopy 0 (some (0, 4)), .sramScrub 0 11 0 0 .clean, .sramScrub 0 0 0 0 .clean, .coreRetire 0
  0 7, .coreRetire 0 0 0, .sramRowRetire 0 11 0 0 1 false, .sramRowRetire 0 0 0 0 1 false, .sramRowRetire 0 1 0 0 7 false, .sramRowRetire 0 1 0
  0 0 false, .dramRegionRetire 0 0 7 .other, .dramRegionRetire 0 0 0 .other, .gpioOutput 0 rq [] (2 ^ 16)]

/-- Every command that carries a request, around a request. -/
noncomputable def around (q : Req) : List Instr := bare.map (fun f => f 0 q) ++ withData.map (fun f => f 0 q [])
  ++ axisCommands.map (fun f => f 0 q 0 0 0) ++ (withMore).map (fun f => f q)

/-- Each of these is well-formed, so a refusal below is by the one field that differs. -/
theorem test_plain_commands_are_well_formed : (around rq ++ formed1 ++ formed2).all Instr.wf = true := by decide +kernel

/-- Every command is refused with a request that is not well-formed. -/
theorem test_requests_are_checked : (around { rq with version := 256 }).any Instr.wf = false := by decide +kernel

/-- The word of an axis command has 24 reserved bits and a signed argument of 32 bits. -/
theorem test_axis_words_are_checked :
    [((2 ^ 24, 0) : Nat × Int), (0, 2 ^ 31), (0, -2 ^ 31 - 1)].all (fun x => axisCommands.all (fun f => !(f 0 rq 0 x.1 x.2).wf)) = true := by
  decide +kernel

/-- Every other check of `Instr.wf` refuses a command that breaks it. -/
theorem test_ill_formed_commands_are_refused : (illFormed1 ++ illFormed2 ++ illFormed3).any Instr.wf = false := by decide +kernel

theorem test_plain_frames_are_well_formed : pr.wf ∧ rq.wf ∧ fr.wf ∧ rr.wf ∧ pm.wf ∧ an.wf ∧ cp.wf := by decide +kernel

theorem test_ill_formed_Peer_refused :
    [{ pr with kind := 0 }, { pr with kind := 5 }, { pr with can := 2 }, { pr with port := 65536 }, { pr with addr := 2 ^ 32 },
      { pr with kind := 2, addr := 2 ^ 128 }].any Peer.wf = false := by decide +kernel

theorem test_ill_formed_Req_refused :
    [{ rq with peer := { pr with kind := 5 } }, { rq with arrPort := 8 }, { rq with dstUdp := 65536 }, { rq with reqId := 2 ^ 32 },
      { rq with magic := 65536 }, { rq with status := 65536 }, { rq with version := 256 }, { rq with rsv := 2 ^ 30 },
      { rq with crc := some (2 ^ 32) }].any Req.wf = false := by decide +kernel

theorem test_ill_formed_Frame_refused :
    [{ fr with data := zeros 17 }, { fr with data := zeros 16385 }, { fr with fill := 131073 }].any Frame.wf = false := by decide +kernel

theorem test_ill_formed_CapSample_refused :
    [{ cp with codes := [0, 1, 2] }, { cp with codes := [0, 1, 2, 4096] }, { cp with pins := 65536 }, { cp with signals := 2 ^ 39 }].any
      CapSample.wf = false := by decide +kernel

theorem test_ill_formed_ResReq_refused :
    [{ rr with magic := 65536 }, { rr with version := 256 }, { rr with slot := 256 }, { rr with path := 65536 }, { rr with tag := 2 ^ 32 },
      { rr with stepLow := 256 }].any ResReq.wf = false := by decide +kernel

theorem test_ill_formed_PtpMsg_refused :
    [{ pm with src := 2 ^ 80 }, { pm with seq := 65536 }, { pm with domain := 256 }, { pm with asked := 2 ^ 80 }].any PtpMsg.wf = false :=
      by decide +kernel

theorem test_ill_formed_Announce_refused :
    [{ an with src := 2 ^ 80 }, { an with seq := 65536 }, { an with domain := 256 }, { an with priority1 := 256 }, { an with clkClass := 256 },
      { an with accuracy := 256 }, { an with variance := 65536 }, { an with priority2 := 256 }, { an with gm := 2 ^ 64 },
      { an with steps := 65536 }].any Announce.wf = false := by decide +kernel

end WellFormedSmoke

namespace Examples

/-- The device after one command. -/
def after (c : Instr) (d : Dev) : Dev :=
  match exec c (St d) with
  | .next t => t.dev
  | _ => d

/-- R452, R453: at power-on reset a Thaw begins, with the core island not yet running. -/
theorem test_power_on_reset : (after (.powerOnReset 0 2000 1) State.reset.dev).up 6 = false := by decide +kernel

/-- R51, R61, the Site Keld example of chapter 02: STAGE of 2040:01 with value 1 and REQ_ID 51H is answered, and 2010:07 reads 1. -/
theorem test_stage_envelope :
    let d := after (.registerWrite 5 rq opStage (writePayload rq 0x2040 1 0 1 [1]) {}) (W [])
    d.nat 0x201007 = 1 ∧ d.nat 0x204001 = (W []).nat 0x204001
      ∧ (d.out.head?).map (fun x => x.flds.take 4) = some [0x51, 3, 0, 0x2040] := by decide +kernel

/-- R45, the same example: the check ends at a nanosecond field of 314.0 ms and the instant is 320.0 ms. -/
theorem test_commit_instant : closureInstant (314000000 + commitLead) = 320000000 := by decide +kernel

/-- R21, the same example: 97 slots at 20 Hz are beyond BALANCED, 96 are not. -/
theorem test_balanced_load : 96 * 20 ≤ envelopeEpochs 1 ∧ ¬ 97 * 20 ≤ envelopeEpochs 1 := by decide +kernel

/-- R55: the CRC-32C of "123456789" is the check value of the Castagnoli polynomial. -/
theorem test_crc32c : crc32c [0x31, 0x32, 0x33, 0x34, 0x35, 0x36, 0x37, 0x38, 0x39] = 0xE3069283 := by decide +kernel

/-- Phase errors of the Site Keld grandmaster (chapter 03) seen so far, and the one that GNSS has delivered now: the fourth that agrees confirms
the step, one does not. -/
def jump (seen : List Int) : Dev :=
  { W [(0x220001, 2), (0x221104, 2), (0x220004, 1), (0x220009, 37), (0x221008, 4)] with
    servo := { (W []).servo with cands := seen, first := false, due := [(1, (2400000300 * 65536, some 37))] } }

/-- R94, step 4 of the example: the step is pending and event source 33 is raised. -/
theorem test_step_confirmed :
    let d := jump (List.replicate 3 (2400000300 * 65536))
    let e := after (.servoUpdate 5 1) d
    e.servo.stepAt.isSome ∧ e.pendingEv 33 := by decide +kernel

/-- R94, step 1 of the example: nothing is fed to the loop, and r is held. -/
theorem test_step_candidate :
    let d := jump []
    let e := after (.servoUpdate 5 1) d
    e.servo.stepAt = none ∧ e.clk.rate = d.clk.rate ∧ e.servo.cands.length = 1 := by decide +kernel

/-- R233, the example of chapter 06: the Morton code of SC-11's place. -/
theorem test_morton : morton (1412306 / 100 + 8388608) (583940 / 100 + 8388608) = 0xC000073DA4EF := by decide +kernel

/-- Zone records up to zone 215: 212 at 4,167 mm/s for classes 1 and 2, 215 at 2,222 mm/s for class 2. -/
def zones : List Byte :=
  zeros (8 * 212) ++ [0, 0, 0x47, 0x10, 6, 0, 0, 0] ++ zeros 16 ++ [0, 0, 0xAE, 0x08, 4, 0, 0, 0]

/-- R234, R236, the example of chapter 06: of the two prefixes the longer wins, and the zone is 215. -/
theorem test_zone :
    let z := classify zones [0xD4, 0x78, 0x00, 0x00, 0x3C, 0x07, 0x00, 0xC0, 0xD7, 0x90, 0x00, 0xA0, 0x3D, 0x07, 0x00, 0xC0] 1412306 583940
    z.id = 215 ∧ z.speed = 2222 ∧ z.mask = 4 ∧ z.plen = 36 ∧ z.noGo = false := by decide +kernel

/-- R238, the same example: the two prefixes use six trie nodes. -/
theorem test_trie_nodes :
    trieNodes [[0xD4, 0x78, 0x00, 0x00, 0x3C, 0x07, 0x00, 0xC0], [0xD7, 0x90, 0x00, 0xA0, 0x3D, 0x07, 0x00, 0xC0]] = 6 := by decide +kernel

/-- R281, R283, the example of chapter 07: SC-11 would stop 13,073 mm on, whose three parts are stated to the millimetre. -/
theorem test_stop_braking : 13072 < stopDist 600 2000 4000 (-1000) ∧ stopDist 600 2000 4000 (-1000) < 13075 := by decide +kernel

/-- R281, the same example: SC-23's stop from 3,000 mm/s is 7,950 mm. -/
theorem test_stop_cruising : stopDist 600 2000 3000 0 = 7950 := by decide +kernel

/-- R299, R305, the example of chapter 08: input 0 at level W2 acts after the filter time; event source 320, read-back 21.0 µs. -/
theorem test_stop_button :
    let d := after (.stopInputAct 5 0 0x7E 2000 (some 210)) (W [(0x380101, 0), (0x380102, 0), (0x380103, 57), (0x381001, 3)])
    d.nat 0x380101 = 1 ∧ d.nat 0x380102 = 3 ∧ d.nat 0x380103 = 58 ∧ d.nat 0x380104 = 1 ∧ d.nat 0x380109 = 210 ∧ d.pendingEv 320 := by
  decide +kernel

/-- Queue 145 of the example of chapter 12: 20 words, a level of 1, and what stands in it. -/
def intake (n : Nat) : Dev :=
  let d := { W [(qKey 145 1, 1), (qKey 145 2, 20), (qKey 145 4, 1)] with clk := { (W []).clk with now := 8000 } }
  d.setQueue 145 { queue0 with items := List.replicate n { src := 9, typ := 1, tag := 0, words := 10, buf := none, flds := [], seenAt := 0 }
                               nHead := n }

/-- R413, step 3: the first descriptor passes the level, and event source 448 is raised. -/
theorem test_queue_level : (after (.queuePush 5 145 9 1 0 10 []) (intake 0)).pendingEv 448 := by decide +kernel

/-- R413, R392, step 5: with no credit the frame is discarded, counted in 3A50:04, and event source 393 is raised. -/
theorem test_queue_no_credit :
    let d := after (.queuePush 5 145 8 1 0 10 []) (intake 2)
    d.nat 0x3A5004 = (intake 2).nat 0x3A5004 + 1 ∧ d.pendingEv 393 ∧ (d.queue 145).items.length = 2 := by decide +kernel

/-- R419, steps 7 and 10: a flush empties the queue and raises event source 450. -/
theorem test_queue_flush :
    let d := after (.queueFlush 5 rq 145 [1]) (intake 2)
    (d.queue 145).items = [] ∧ d.pendingEv 450 ∧ (d.queue 145).lost = 2 := by decide +kernel

/-- R419, R413, after step 10: pipeline B, whose item was discarded, receives FLUSHED (1) on its next push, once. -/
theorem test_queue_flushed :
    let d := (intake 1).flush 145
    let e := (d.pass 10).push 145 { src := 9, typ := 1, tag := 0, words := 10, buf := none, flds := [], seenAt := 0 }
    e.2 = 1 ∧ (e.1.push 145 { src := 9, typ := 1, tag := 0, words := 10, buf := none, flds := [], seenAt := 0 }).2 = 0 := by decide +kernel

/-- R512: SHA-512 of "abc" (FIPS 180-4, its example), its first eight bytes. -/
theorem test_sha512 : (sha512 [0x61, 0x62, 0x63]).take 8 = [0xDD, 0xAF, 0x35, 0xA1, 0x93, 0x61, 0x7A, 0xBA] := by decide +kernel

/-- R513: the first test vector of Ed25519 in RFC 8032, an empty message. -/
theorem test_ed25519 :
    edVerify (leBytes 32 0x1A5107F7681A02AF2523A6DAF372E10E3A0764C9D3FE4BD5B70AB18201985AD7) []
      (leBytes 64 0x0B107A8E4341516524BE5B59F0F55BD26BB4F91C70391EC6AC3BA3901582B85F5501492265E073D874D9E5B81E7F87848A826E80CCE2869072AC60C3004356E5)
      = true := by decide +kernel

end Examples

/-! Statements witnessed here: FusesNeverRevert, AuctionAllotsOnce, StepRunsFront. -/

/-- A step answers a next state. -/
def goesOn : Out → Bool
  | .next _ => true
  | _ => false

/-- A command waits at reset: the step runs it, and the fuses of reset are later than themselves. -/
theorem witness_FusesNeverRevert :
    State.reset.fuses.Later State.reset.fuses ∧ goesOn (step { State.reset with pending := [.powerOnReset 0 2000 1] }) = true :=
  ⟨⟨Nat.le_refl _, fun _ h => h, fun _ h => h, fun _ h => h, fun _ h => h⟩, by decide +kernel⟩

theorem witness_StepRunsFront :
    ({ State.reset with pending := [.powerOnReset 0 2000 1] } : State).pending = [.powerOnReset 0 2000 1] ∧ State.reset.pending = [] := by
  decide +kernel

theorem witness_AuctionAllotsOnce : [3, 17, 96].Nodup := by decide

/-! Statements witnessed here: CommitAccepted, StagedWrite, LiveWrite, AbortDiscards, CheckEnds, CommitApplies, LedgerHousekeeping,
RouterAndPortWrites, CanPorts. -/

namespace WLedger

def B := W []
def owned (d : Dev) : Dev := { d.setN 0x201003 1 with cs := { d.cs with owner := some pr, staged := [(0x481001, .num 5)] } }
def G := B.setN 0x461001 1
def cr1 : CommitReq := { peer := pr, reqId := 7, mode := 1, instant := 0, asWrite := false, at_ := 0 }
def xh0_2 : Dev := { (owned B).setN 0x201003 2 with cs := { (owned B).cs with req := some cr1 } }
def chk (m : Nat) (d : Dev) : Dev :=
  { (owned d).setN 0x201003 2 with cs := { (owned d).cs with req := some { peer := pr, reqId := 7, mode := m, instant := 0, asWrite := false, at_ := 0 } } }
def c1 := chk 1 B
def rqq (m : Nat) : CommitReq := { peer := pr, reqId := 7, mode := m, instant := 0, asWrite := false, at_ := 0 }
def c2 := { c1 with cs := { c1.cs with staged := [(0x220502, .num 200000), (0x361001, .num 9)] } }
def cx := (c2.pass 5).closure.getD (0,0)
def appl := { (owned B).setN 0x201003 3 with cs := { (owned B).cs with instant := some (true, 10000000) } }
def sb3 : Subscriber := { peer := pr, mask := 8, leaseEnd := 0, seq := 0, lost := 0, recs := [], sentAt := [] }
def pb1 : PartBuf := { peer := pr, key := 5, staged := true, total := 6, data := [], at_ := 0 }
def lh :=
  { B with led := { B.led with parts := [pb1], cache := [{peer := pr, reqId := 5, reply := {kind := .notify}, at_ := 0}], change := [(1, 5, 0),(2,4,0)] }, ev := { B.ev with subs := [(3, { peer := pr, mask := 8, leaseEnd := 0, seq := 0, lost := 0, recs := [], sentAt := [] }),(4, { peer := pr, mask := 8, leaseEnd := 0, seq := 0, lost := 0, recs := [], sentAt := [] })] }, nvDue := [(0x203001, .num 6)] }
def lh2 := { lh with led := { lh.led with change := [(2,4,0)] } }
def sx : Subscriber :=
  { peer := pr, mask := 8, leaseEnd := 0, seq := 0, lost := 0, recs := [{ src := 3, time := 5, count := 1, detail := 5}], sentAt := [1] }
def xh0_4 : Dev := { B with ev := { B.ev with subs := [(3, sx)] } }
def pc := G.setN 0x481502 0x8000000A
def TT := 3000000000
def cp :=
  { (B.setN 0x1E0004 3).setN 0x101700 100 with can0 := { B.can0 with nmt := .operational }, can1 := { B.can1 with nmt := .preOperational } }
  |>.setN 0x220001 3 |>.setN 0x101500 10
def cq := { cp with ev := { cp.ev with inhibit := true } }
def cr := { cq with ev := { cq.ev with emcyWait := [(3, 5, 9), (4, 6, 1)] } }

theorem witness_CommitAccepted :
    ((Instr.checkOnly 5 rq false, 1, 0) ∈ [(Instr.checkOnly 5 rq false, 1, 0), (Instr.commitNextInstant 5 rq false, 2, 0),
      (Instr.commitAtInstant 5 rq false 0, 3, 0)] ∧ (owned B).intake rq opCommit (leBytes 1 1 ++ zeros 5 ++ time80Bytes 0) = Intake.execute ∧
      (rq.peer.kind = 1 ∨ rq.peer.kind = 2) ∧ (owned B).nat 0x201003 = 1 ∧ (owned B).cs.owner = some rq.peer)
    ∧ ((Instr.checkOnly 5 rq true, 1) ∈ [(Instr.checkOnly 5 rq true, 1), (Instr.commitNextInstant 5 rq true, 2), (Instr.commitAtInstant 5 rq
      true 0, 3)] ∧ (owned B).accepts rq 8208 1 (leBytes 1 1) (DVal.num 1) ∧ (owned B).nat 0x201003 = 1 ∧ (owned B).cs.owner = some rq.peer) :=
  by simp only [accepts_iff, Dev.admits]; decide +kernel

theorem witness_StagedWrite :
    B.takes rq true 18448 1 [1, 0, 0, 0] ∧ (rq.peer.kind = 1 ∨ rq.peer.kind = 2) ∧ 1 < 256 ∧ [1, 0, 0, 0].length ≤ 1420 ∧ valueOf 18448 1 [1, 0,
      0, 0] = Except.ok (DVal.num 1) ∧ B.upd.waiting = false ∧ B.pwr.due = none ∧ List.length (tabPut B.cs.staged (keyOf 18448 1) (DVal.num 1))
      ≤ 4096 ∧ (List.map (fun e => stagedSize e.fst e.snd) (tabPut B.cs.staged (keyOf 18448 1) (DVal.num 1))).sum ≤ 16777216 :=
  by simp only [Dev.takes, ok_iff]; decide +kernel

theorem witness_LiveWrite :
    (G.takes rq false 7680 1 [9] ∧ rq.peer.kind ≠ 4 ∧ 7680 < 8192 ∧ 1 < 256 ∧ [9].length ≤ 1420 ∧ valueOf 7680 1 [9] = Except.ok (DVal.num 9) ∧
      G.upd.waiting = false ∧ G.pwr.due = none)
    ∧ (4112 < 8192) :=
  by simp only [Dev.takes, ok_iff]; decide +kernel

theorem witness_AbortDiscards :
    ((owned B).intake rq opAbort [] = Intake.execute ∧ (rq.peer.kind = 1 ∨ rq.peer.kind = 2) ∧ ((owned B).nat 0x201003 = 1 ∨ (owned B).nat
      0x201003 = 3 ∧ ((owned B).pass 5).tooLate = false) ∧ (owned B).cs.owner = some rq.peer ∧ (owned B).upd.waiting = false ∧ (owned B).pwr.due
      = none)
    ∧ ((owned B).clk.now + 5 < (owned B).cs.lastReq + (owned B).nat 0x203003 * secT)
    ∧ (((owned B).nat 0x201003 = 1 ∨ (owned B).nat 0x201003 = 3) ∧ ((owned B).pass 100000000000).tooLate = false ∧ (owned B).upd.waiting = false
      ∧ (owned B).pwr.due = none ∧ (owned B).cs.lastReq + (owned B).nat 0x203003 * secT ≤ (owned B).clk.now + 100000000000)
    ∧ (xh0_2.nat 0x201003 = 2 ∧ xh0_2.cs.req = some cr1 ∧ xh0_2.upd.waiting = false ∧ xh0_2.pwr.due = none ∧ xh0_2.cs.lastReq + xh0_2.nat
      0x203003 * secT ≤ xh0_2.clk.now + 100000000000) :=
  by decide +kernel

theorem witness_CheckEnds :
    (c2.nat 0x201003 = 2 ∧ c2.cs.req = some (rqq 1) ∧ (c2.pass 5).closure = some (cx.fst, cx.snd))
    ∧ (c1.nat 0x201003 = 2 ∧ c1.cs.req = some (rqq 1) ∧ (c1.pass 5).closure = none ∧ (rqq 1).mode = 1)
    ∧ ((chk 2 B).nat 0x201003 = 2 ∧ (chk 2 B).cs.req = some (rqq 2) ∧ ((chk 2 B).pass 5).closure = none ∧ (rqq 2).mode = 2) :=
  by decide +kernel

theorem witness_CommitApplies :
    appl.nat 0x201003 = 3 ∧ appl.upd.waiting = false ∧ appl.pwr.due = none ∧ appl.role ≠ 2 ∧ (∀ (e : Nat × DVal), e ∈ appl.cs.staged → 0x481001
      ≤ e.fst ∧ e.fst ≤ 0x481410 ∧ 1 ≤ e.fst % 256 ∧ e.fst % 256 ≤ 16) :=
  by decide +kernel

theorem witness_LedgerHousekeeping :
    (pb1 ∈ (lh.pass 100000000000).led.parts ∧ pb1.peer = pr ∧ pb1.at_ + (lh.pass 100000000000).nat 0x203003 * secT ≤ (lh.pass
      100000000000).clk.now)
    ∧ ((rq.peer.kind = 1 ∨ rq.peer.kind = 2) ∧ B.intake rq opSubscribe (leBytes 2 5 ++ leBytes 2 8 ++ leBytes 1 1 ++ leBytes 3 0) =
      Intake.execute ∧ List.find? (fun e => e.snd.peer == rq.peer) B.ev.subs = none ∧ tabFree B.ev.subs 16 = some 0)
    ∧ (xh0_4.up 8 = true ∧ xh0_4.up 7 = true ∧ tabGet xh0_4.ev.subs 3 = some sx ∧ sx.recs ≠ [] ∧ sx.recs.length ≤ 71 ∧ [1] = List.filter (fun t
      => decide (xh0_4.clk.now + 5 < t + secT)) sx.sentAt ∧ [1].length < 1000)
    ∧ (tabGet (lh.pass 100000000000).ev.subs 3 = some sb3 ∧ sb3.leaseEnd ≤ (lh.pass 100000000000).clk.now)
    ∧ ((lh.pass 100000000000).up 2 = true ∧ (lh.pass 100000000000).nvDue ≠ [])
    ∧ (0 + secT ≤ (lh.pass 100000000000).clk.now ∧ (lh.pass 100000000000).led.change = [(1, 5, 0), (2, 4, 0)])
    ∧ (0 + secT ≤ (lh2.pass 100000000000).clk.now ∧ (lh2.pass 100000000000).led.change = [(2, 4, 0)]) :=
  by decide +kernel

theorem witness_RouterAndPortWrites :
    (pc.accepts rq 18453 2 [11, 0, 0, 0] (DVal.num 11))
    ∧ (pc.accepts rq 8240 1 [224, 46] (DVal.num 12000)) :=
  by simp only [accepts_iff, Dev.admits]; decide +kernel

theorem witness_CanPorts :
    ((cp.pass TT).up 8 = true ∧ ((cp.pass TT).dueIn Recur.tpdo1 (100 * msT) = true ∨ (cp.pass TT).lastOf Recur.level ≠ some (cp.pass
      TT).woLevel))
    ∧ ((cp.pass TT).up 8 = true ∧ (cp.pass TT).timeState ≠ 0 ∧ (cp.pass TT).lastOf Recur.tpdo2 ≠ some ((cp.pass TT).fleetNs / 1000000000))
    ∧ ((cp.pass TT).up 8 = true ∧ ((cp.pass TT).can 0).nmt ≠ Nmt.initialisation ∧ (cp.pass TT).nat 0x101700 ≠ 0 ∧ (cp.pass TT).dueIn
      (Recur.heartbeat 0) (msTicks ((cp.pass TT).nat 0x101700)) = true)
    ∧ ((cq.pass TT).up 8 = true ∧ (cq.pass TT).ev.inhibit = true ∧ (cq.pass TT).ev.inhibitAt + (cq.pass TT).nat 0x101500 * 100 * usT ≤ (cq.pass
      TT).clk.now ∧ (cq.pass TT).ev.emcyWait = [])
    ∧ ((cr.pass TT).up 8 = true ∧ (cr.pass TT).ev.inhibit = true ∧ (cr.pass TT).ev.inhibitAt + (cr.pass TT).nat 0x101500 * 100 * usT ≤ (cr.pass
      TT).clk.now ∧ (cr.pass TT).ev.emcyWait = [(3, 5, 9), (4, 6, 1)] ∧ (cr.pass TT).nat 0x101500 ≠ 0) :=
  by decide +kernel

end WLedger

/-! Statements witnessed here: ServoSteers, SlewAndStep, SourcesComeAndGo, CartridgeLife, PulsesAndComparators, EfcOffloadMoves, PtpSlave,
PtpMaster. -/

namespace WTime

def B := W []
def TT := 3000000000
def TE := 80000000000
def TL := 100000000000
def T := W [(0x220001, 2), (0x221104, 2), (0x220004, 1), (0x220009, 37)]
def T1 := { T with servo := { T.servo with first := false, due := [(1, (50000, some 37))] } }
def T1b := { T with servo := { T.servo with first := false, due := [(1, (65536000001, some 37))] } }
def S := T.setN 0x22000A 1 |>.setN 0x221103 77 |>.setN 0x221102 5
def xh2_0 : Dev := { S with servo := { S.servo with slewTerm := 500 } }
def cm :=
  { (T.setN 0x22000A 2 |>.setN (cmpKey 4 7) 1 |>.setN (cmpKey 4 2) 100) with servo := { T.servo with stepAt := some (true, 5), stepSize := 65536 * 900000000 } }
def E := { T with servo := { T.servo with rSum := 281474976 * 15000000000, rAt := 0, rFrom := 0 } } |>.setN 0x221101 524288
def gn : Rat := (190000 : Rat) / 1000000000000000000
def mn : Rat := (((E.pass TE).servo.rSum + (E.pass TE).num 0x221102 * (((E.pass TE).clk.now - (E.pass TE).servo.rAt : Nat) : Int) : Int) : Rat)
  / (((E.pass TE).clk.now - (E.pass TE).servo.rFrom : Nat) : Rat) / 281474976710656
def dl : Rat := max (-1 / 1000000000) (min (1 / 1000000000) mn)
def So := W [(0x220001, 3), (0x221104, 4), (0x220004, 2)]
def So2 := { W [(0x220001, 4), (0x221104, 0), (0x220004, 0)] with servo := { B.servo with everValid := 4, runs := [(2, (0, 99000000000))] } }
def So3 := { So2 with servo := { So2.servo with err0 := 4000000 } }
def Ca :=
  { W [(0x220001, 3),(0x20200A, 0)] with cart := { B.cart with present := true, clockOk := true, idValid := true, warming := true, goodAt := some 0, warmup := 1 } }
def Cv := { B with cart := { B.cart with clockOk := false, goodAt := some 5, inserted := true, counted := false } }
def P := W [(0x220001, 3), (ppsSet 0 1, 1)]
def P2 := { P with pps0 := { P.pps0 with nextSec := some 1, qerr := 8 } }
def Cm := W [(0x220001, 3), (cmpKey 3 1, 1)]
def xh2_1 : Dev := (Cm.setN (cmpKey 3 1) 0)
def Cf := W [(0x220001, 3), (cmpKey 3 1, 1), (cmpKey 3 7, 1), (cmpKey 3 4, 3)]
def Pt :=
  { W [(0x220001, 3), (ptpSet 0 1, 1), (0x222202, 9)] with sw := { B.sw with ports := [(0, { port0 with up := true, speed := 1000 }), (1, { port0 with up := true, speed := 1000 })] } }
  |>.setO 0x222204 (beBytes 10 77)
def ms : PtpMsg := { src := 77, seq := 4, origin := 1000000 }
def an : Announce :=
  { src := 77, seq := 1, domain := 0, priority1 := 1, clkClass := 6, accuracy := 0x20, variance := 100, priority2 := 1, gm := 5, steps := 0, utc := 37, utcValid := false }
def Pt9 := Pt.setN 0x222202 9
def Pt2 := { Pt9 with ptp0 := { Pt9.ptp0 with syncOpen := true, syncSeq := 4, delayOpen := true, txDelay := 4 } }
def xh2_2 : Dev := ((Pt.setN 0x222202 4).setN (ptpSet 0 2) 2)
def Pt3 := { Pt9 with ptp0 := { Pt9.ptp0 with best := some an } }
def Pm := Pt.setN 0x222202 6 |>.setN (ptpSet 0 2) 3
def Pm8 := { Pm.setN 0x222203 8 |>.setN (ptpSet 1 1) 1 |>.setN (ptpSet 1 2) 2 with ptp1 := { Pm.ptp1 with best := some an } }
def Pm9 := { Pm.setN 0x222203 9 |>.setN (ptpSet 1 1) 1 |>.setN (ptpSet 1 2) 2 with ptp1 := { Pm.ptp1 with best := some an } }
def xh2_4 : Dev := { Pm.setN (ptpSet 0 1) 2 with ptp0 := { Pm.ptp0 with pOpen := true, txDelay := 4} }

theorem witness_ServoSteers :
    ((T1.pass 125000000).timeState = 2 ∧ tabGet (T1.pass 125000000).servo.due 1 = some (50000, some 37) ∧ (T1.pass 125000000).delivers 1 = true
      ∧ (T1.pass 125000000).bit 0x221104 1 = true ∧ (T1.pass 125000000).nat 0x220004 = 1 ∧ (∀ (u : Int), some 37 = some u → (T1.pass
      125000000).num 0x220009 = u) ∧ (T1.pass 125000000).servo.stepAt = none ∧ (T1.pass 125000000).bit 0x22000A 0 = false ∧ Int.natAbs 50000 <
      65536000 ∧ (T1.pass 125000000).servo.first = false ∧ (T1.pass 125000000).servo.lockRun < 29)
    ∧ ((T1b.pass 125000000).timeState = 2 ∧ tabGet (T1b.pass 125000000).servo.due 1 = some (65536000001, some 37) ∧ (T1b.pass
      125000000).delivers 1 = true ∧ (T1b.pass 125000000).bit 0x221104 1 = true ∧ (T1b.pass 125000000).nat 0x220004 = 1 ∧ (∀ (u : Int), some 37
      = some u → (T1b.pass 125000000).num 0x220009 = u) ∧ (T1b.pass 125000000).servo.stepAt = none ∧ (T1b.pass 125000000).bit 0x22000A 0 = false
      ∧ 65536000000 ≤ Int.natAbs 65536000001 ∧ (T1b.pass 125000000).servo.cands = [] ∧ 2 ≤ (T1b.pass 125000000).nat 0x221008) :=
  by simp only [some_iff]; decide +kernel

theorem witness_SlewAndStep :
    ((xh2_0.pass 12).bit 0x22000A 0 = true ∧ (xh2_0.pass 12).timeState ≠ 0 ∧ (xh2_0.pass 12).slewLeft = 0)
    ∧ ((cm.pass 12).servo.stepAt ≠ none ∧ 2 ≤ (cm.pass 12).timeState) :=
  by decide +kernel

theorem witness_SourcesComeAndGo :
    ((∀ (c : Nat), (So.pass TL).bit 0x221104 c = decide (c = 2)) ∧ (So.pass TL).up 8 = true ∧ (So.pass TL).bit 0x22000A 0 = false ∧ (So.pass
      TL).timeState = 3 ∧ (So.pass TL).nat 0x220004 = 2 ∧ (So.pass TL).lastHeard 2 + (So.pass TL).sourceGap 2 ≤ (So.pass TL).clk.now)
    ∧ ((∀ (c : Nat), (So2.pass TL).bit 0x221104 c = false) ∧ (So2.pass TL).up 8 = true ∧ (So2.pass TL).bit 0x22000A 0 = false ∧ (So2.pass
      TL).timeState = 4 ∧ (So2.pass TL).nat 0x220004 = 0 ∧ (So2.pass TL).servo.everValid.testBit 2 = true ∧ 2#8 ∈ List.takeWhile (fun c => c !=
      0) ((So2.pass TL).oct 0x221001) ∧ (So2.pass TL).ranHoldoff 2 = true)
    ∧ ((So3.pass 5).up 8 = true ∧ (So3.pass 5).bit 0x22000A 0 = false ∧ (So3.pass 5).timeState = 4 ∧ (So3.pass 5).nat 0x22100C < (So3.pass
      5).estError) :=
  ⟨⟨bit_pow _ _ _ (by decide +kernel), by decide +kernel⟩, ⟨bit_zero _ _ (by decide +kernel), by decide +kernel⟩, by decide +kernel⟩

theorem witness_CartridgeLife :
    ((Ca.pass 5).cart.clockOk = true ∧ (Ca.pass 5).up 10 = false ∧ (Ca.pass 5).timeState ≠ 0)
    ∧ (0 < 10000 ∧ (B.pass 5).cart.goodAt = none)
    ∧ ((Cv.pass TT).cart.clockOk = false ∧ (Cv.pass TT).cart.goodAt = some 5 ∧ 5 + secT ≤ (Cv.pass TT).clk.now ∧ (Cv.pass TT).cart.counted =
      false)
    ∧ ((Ca.pass TT).cart.clockOk = true ∧ (Ca.pass TT).cart.warming = true ∧ (Ca.pass TT).cart.goodAt = some 0 ∧ 0 + (Ca.pass TT).cart.warmup *
      secT ≤ (Ca.pass TT).clk.now)
    ∧ ((Ca.pass 4500000000000).cart.clockOk = true ∧ (Ca.pass 4500000000000).cart.lifeAt + 3600 * secT ≤ (Ca.pass 4500000000000).clk.now) :=
  by decide +kernel

theorem witness_PulsesAndComparators :
    ((P.pass 5).ppsOn 0 = true ∧ (P.pass 5).num (ppsSet 0 4) * 65536 / 10 ≤ (P.pass 5).fleet)
    ∧ ((P2.pass 5).ppsOn 0 = true ∧ ((P2.pass 5).pps 0).nextSec = some 1)
    ∧ ((Cm.pass 5).accepts rq (8832 + 3) 2 (leBytes 10 1000) (DVal.num 1000000000000) ∧ (Cm.pass 5).nat (cmpKey (3) 1) ≠ 0 ∧ (Cm.pass
      5).timeState ≠ 0 ∧ ↑(Cm.pass 5).fleetNs < 1000000000000)
    ∧ ((xh2_1.pass 5).accepts rq (8832 + 3) 2 (leBytes 10 1000) (DVal.num 1000000000000) ∧ (xh2_1.pass 5).nat (cmpKey (3) 1) = 0)
    ∧ ((Cf.pass 5).bit (cmpKey (3) 7) 0 = true ∧ (Cf.pass 5).nat (cmpKey (3) 1) = 1 ∧ (Cf.pass 5).nat (cmpKey (3) 4) = 3 ∧ (Cf.pass 5).quiet =
      false ∧ (Cf.pass 5).timeState ≠ 0 ∧ (Cf.pass 5).num (cmpKey (3) 2) * 65536 ≤ (Cf.pass 5).fleet) :=
  by simp only [accepts_iff, Dev.admits]; decide +kernel

theorem witness_EfcOffloadMoves :
    dl = max (-1 / 1000000000) (min (1 / 1000000000) mn) ∧ ((E.pass TE).timeState = 2 ∨ (E.pass TE).timeState = 3) ∧ (E.pass TE).servo.rFrom +
      (E.pass TE).nat 0x22100D * secT ≤ (E.pass TE).clk.now ∧ (E.pass TE).cart.efcGain ≠ 0 ∧ gn = ((E.pass TE).cart.efcGain : Rat) /
      1000000000000000000 ∧ mn = ↑((E.pass TE).servo.rSum + (E.pass TE).num 0x221102 * ↑((E.pass TE).clk.now - (E.pass TE).servo.rAt)) /
      ↑((E.pass TE).clk.now - (E.pass TE).servo.rFrom) / 281474976710656 ∧ E.num 0x221101 + roundRat (dl / gn) = (E.pass TE).num 0x221101 +
      roundRat (dl / gn) :=
  ⟨rfl, by decide +kernel⟩

theorem witness_PtpSlave :
    ((Pt9.pass 5).fromParent 0 ms = true)
    ∧ ((Pt2.pass 5).fromParent 0 ms = true ∧ ((Pt2.pass 5).ptp 0).syncOpen = true ∧ ms.seq = ((Pt2.pass 5).ptp 0).syncSeq ∧ (Pt2.pass
      5).portState 0 = 9 ∧ (Pt2.pass 5).nat (ptpSet 0 1) = 1)
    ∧ ((Pt2.pass 5).ptpRuns 0 = true ∧ ((Pt2.pass 5).portState 0 = 8 ∨ (Pt2.pass 5).portState 0 = 9) ∧ (Pt2.pass 5).nat (ptpSet 0 1) = 1 ∧
      (Pt2.pass 5).dueIn (Recur.delay 0) (logTicks ((Pt2.pass 5).num (ptpSet 0 8))) = true)
    ∧ ((Pt2.pass 5).fromParent 0 ms = true ∧ ((Pt2.pass 5).ptp 0).delayOpen = true ∧ ms.seq = ((Pt2.pass 5).ptp 0).txDelay)
    ∧ ((xh2_2.pass 5).ptpRuns 0 = true ∧ an.domain = (xh2_2.pass 5).nat (ptpSet 0 3) ∧ an.utcValid = false ∧ ((xh2_2.pass 5).ptp 0).best = none
      ∧ ((xh2_2.pass 5).ptp (1 - 0)).best = none ∧ (xh2_2.pass 5).nat (ptpSet 0 2) = 2 ∧ (xh2_2.pass 5).portState 0 = 4)
    ∧ ((Pt3.pass 5).ptpOn 0 = true ∧ ((Pt3.pass 5).ptp 0).best = some an ∧ (Pt3.pass 5).bit 0x22000A 0 = false ∧ (Pt3.pass 5).dueIn (Recur.heard
      0) ((Pt3.pass 5).nat (ptpSet 0 9) * logTicks ((Pt3.pass 5).num (ptpSet 0 6))) = true) :=
  by decide +kernel

theorem witness_PtpMaster :
    ((Pm.pass 5).ptpRuns 0 = true ∧ (Pm.pass 5).portState 0 = 6 ∧ (Pm.pass 5).nat (ptpSet 0 1) = 1 ∧ ms.domain = (Pm.pass 5).nat (ptpSet 0 3))
    ∧ ((Pm.pass 5).ptpRuns 0 = true ∧ (Pm.pass 5).portState 0 = 6 ∧ (Pm.pass 5).dueIn (Recur.sync 0) (logTicks ((Pm.pass 5).num (ptpSet 0 7))) =
      true ∧ 1 = (((Pm.pass 5).ptp 0).txSync + 1) % 65536)
    ∧ ((Pm8.pass 5).ptpRuns 0 = true ∧ (Pm8.pass 5).dueIn (Recur.announce 0) (logTicks ((Pm8.pass 5).num (ptpSet 0 6))) = true ∧ ((Pm8.pass
      5).mark (Recur.announce 0) (Pm8.pass 5).clk.now).bmca.portState 0 = 6 ∧ ((Pm8.pass 5).mark (Recur.announce 0) (Pm8.pass
      5).clk.now).bmca.portState (1 - 0) ≠ 9 ∧ 1 = ((((Pm8.pass 5).mark (Recur.announce 0) (Pm8.pass 5).clk.now).bmca.ptp 0).txAnn + 1) % 65536)
    ∧ ((Pm9.pass 5).ptpRuns 0 = true ∧ (Pm9.pass 5).dueIn (Recur.announce 0) (logTicks ((Pm9.pass 5).num (ptpSet 0 6))) = true ∧ ((Pm9.pass
      5).mark (Recur.announce 0) (Pm9.pass 5).clk.now).bmca.portState 0 = 6 ∧ ((Pm9.pass 5).mark (Recur.announce 0) (Pm9.pass
      5).clk.now).bmca.portState (1 - 0) = 9 ∧ (((Pm9.pass 5).mark (Recur.announce 0) (Pm9.pass 5).clk.now).bmca.ptp (1 - 0)).best = some an ∧ 1
      = ((((Pm9.pass 5).mark (Recur.announce 0) (Pm9.pass 5).clk.now).bmca.ptp 0).txAnn + 1) % 65536)
    ∧ ((xh2_4.pass 5).ptpRuns 0 = true ∧ (xh2_4.pass 5).nat (ptpSet 0 1) = 2)
    ∧ ((xh2_4.pass 5).ptpRuns 0 = true ∧ ((xh2_4.pass 5).ptp 0).pOpen = true ∧ ms.seq = ((xh2_4.pass 5).ptp 0).txDelay) :=
  by decide +kernel

end WTime

/-! Statements witnessed here: FeedsNotchesJamming, ChannelStates, ReceiverRestarts, EpochsRecorded, SurveyAndTime. -/

namespace WRx

def B := W []
def fd (st : Int) := W [(feedKey 1 0, 1), (feedKey 3 0, st), (feedKey 1 1, 1), (feedKey 3 1, st)]
def nt := W [(bandSet 2 1, 0), (bandSet 2 2, 1), (bandKey 2 5, 0)]
def nt3 := (nt.setN (bandKey 2 6) 1 |>.setN (bandKey 2 2) 999).setBand 2 { (nt.band 2) with weak := [(1, 0)] }
def xh3_0 : Dev := { nt3 with clk := { nt3.clk with now := 1250000000 } }
def bb : Band := { (B.band 0) with rms2 := some 4 }
def bs (p : Rat) : BandSample := { power := p }
def xh3_1 : Dev := (nt.setN (bandKey 2 0xD) 20)
def nt2 := nt.setN (bandKey 2 0xD) 100
def nt4 : Dev := { nt2 with rx := { B.rx with jamUp := [1, 2] }, clk := { nt2.clk with now := 2500000000 } }
def xh3_2 : Dev := (nt4.setBand 2 { (nt4.band 2) with low := some 0 })
def R (l : List (Nat × Chan)) (q : List (Nat × Bool) := []) : Dev := let d := W [(0x220001, 3)];
  { d with rx := { d.rx with chans := l, queue := q }, clk := { d.clk with now := 90000000000 } }
def ch1 : Chan := { chan0 with state := 1, sys := 0, sig := 0, sat := 5}
def sky : List SkySat := [{ sys := 0, sat := 9, elev := 500, sigs := [0, 3], dir := [0,0,1] },
  { sys := 0, sat := 5, elev := 700, sigs := [0], dir := [0,0,1] }]
def y1 : Chan := { chan0 with state := 1, sys := 0, sig := 0, sat := 5, elev := 700, dir := [0,0,1], since := 90000000005 }
def Rq :=
  { R [] with rx := { B.rx with requeue := [(90000000000, {sys := 0, sig := 0, sat := 5, ant := 1}), (90000000006, {sys := 0, sig := 0, sat := 5, ant := 1})] } }
def Rw := R [(2, { chan0 with state := 4, weakAt := some 89000000000, elev := 400 })]
def kk : Corr := { e := (10, 3), p := (40, 5), l := (11, 2), n := (20, 10) }
def tq : Rat := (((St Rw).dev.pass 5).coherentUs 0 false : Rat) / 1000000
def cnq : Nat := min (meanOf (slide [] ((St Rw).dev.pass 5).clk.now secT ((logFloor 1000 ((power2 kk.p - power2 kk.n) / (power2 kk.n * tq)) :
  Nat) : Rat))).floor.toNat 65535
def xh3_5 : Dev := (R [(2, { chan0 with state := 2, since := 5})] [(3,true)])
def xh3_6 : Dev := (R [(2, { chan0 with state := 2, since := 5, sig := 3})] [(3,true)])
def Rr := R [(2, { chan0 with state := 5, since := 5}), (4, { chan0 with state := 4 }), (384, {chan0 with state := 6}), (9,
  {chan0 with state := 7})] [(3,true)]
def Rr2 := { Rr with rx := { Rr.rx with almanac := true, eph := [(0,5)] } }
def xh3_9 : Dev := (Rr.setN 0x246003 32 |>.setN 0x484001 32)
def sh (b : List Bool) : Shadow := { chan := 4, res := 390, at_ := 5, before := [], bad := b }
def xh3_10 : Dev := { Rr with rx := { Rr.rx with shadow := some (sh [false]) } }
def xh3_11 : Dev := { Rr with rx := { Rr.rx with shadow := some (sh [true]) } }
def en : MeasEntry :=
  { chan := 4, sys := 0, sig := 0, sat := 5, ant := 0, pr := 70000000, carrier := 5, doppler := 4, lockMs := 400, cn0 := 40, mp := 0, flags := 0}
def mz : Meas := { seq := 5, rate := 10, timeSt := 3, flags := 0, time := 1500000000, tick := 7, steps := 0, at_ := 90000000000, entries := [] }
def Re := { Rr with rx := { Rr.rx with latch := some mz } }
def xh3_14 : Dev := (Re.setN 0x249003 2)
def Rm := { (Rr.setN 0x249003 2) with rx := { Rr.rx with last := some { mz with time := 0, entries := [en] } } } |>.setN 0x24C001 1 |>.setN
  0x24C003 1
def mtt := (Rm.pass 7500000000).nominal (msmPeriod ((Rm.pass 5).nat 0x24C004))
def m2 : Meas := { mz with time := mtt, entries := [{ en with flags := 3 }] }
def Rm2 := { Rm with rx := { Rm.rx with last := some m2 } }
def xh3_15 : Dev := (Rr.setN 0x461001 1)
def xh3_16 : Dev := (Rr.setN 0x249204 1 |>.setN 0x461001 1)
def Sv :=
  { (Rr.setN 0x249204 1).setN 0x249202 3600 with rx := { Rr.rx with surveyAt := 0, surveyN := 2, surveySum := [5,7,9], surveySq := [12.5,24.5,40.5] }, clk := { Rr.clk with now := 90000000000000 } }
def xh3_17 : Dev := (Sv.setN 0x249203 1)
def Rh : Dev := { Rm with rx := { Rm.rx with hour := [(90000000000, [20, 0, 0])] } }
def ts : TimeSol :=
  { sky := [1,2,3,4,5].map (fun n => { sys := 0, sat := n, x := 20000000, y := 1000 * n, z := 700, elev := 500 }), utc := some 37 }
def mtm : Meas := { mz with time := 2000000000, entries := [1,2,3,4,5].map (fun n => { en with sat := n, chan := n }) }
def Rt : Dev := { (Rm.setN 0x248001 0) with rx := { Rm.rx with last := some mtm } }
def lS : List SolSig := (((Rt.pass 5).solSigs mtm ts ((Rt.pass 5).nat 0x221009) ((Rt.pass 5).antPoint ((Rt.pass 5).nat 0x221009))).filter (fun x
  => !x.ent.flags.testBit 9 && decide ((Rt.pass 5).num 0x24800D ≤ x.pos.elev)))
def cS : Rat := ((clockOf (lS.map (fun x => (solValue lS ts.bring x, solWeight x)))).getD 0)

theorem witness_FeedsNotchesJamming :
    (((fd 1).pass 5).up 4 = true ∧ ((fd 1).pass 5).flag (feedKey 1 0) = true ∧ 1200 < 1300 ∧ (((fd 1).pass 5).nat (feedKey 3 0) = 1 ∨ ((fd
      1).pass 5).nat (feedKey 3 0) = 2))
    ∧ (((fd 3).pass 5).up 4 = true ∧ ((fd 3).pass 5).flag (feedKey 1 1) = true ∧ ((fd 3).pass 5).nat (feedKey 3 1) = 3 ∧ ((fd 3).pass 5).dueIn
      (Recur.feed 1) (10 * secT) = true ∧ 1200 < 1300)
    ∧ (((fd 1).pass 5).up 4 = true ∧ ((fd 1).pass 5).flag (feedKey 1 1) = true ∧ ((fd 1).pass 5).nat (feedKey 3 1) = 1 ∧ 49 < 50)
    ∧ ((nt.pass 5).up 4 = true ∧ Int.natAbs 5000 ≤ 30000000 ∧ 10 * (nt.pass 5).num (bandSet (2) 9) < 900 ∧ 1 < 4 ∧ (∀ (k : Nat), k < 4 →
      (nt.pass 5).nat (bandKey (2) (5 + k)) = 0) ∧ (nt.pass 5).nat (bandSet (2) (1 + 1)) = 1 ∧ (∀ (k : Nat), k < 1 → (nt.pass 5).nat (bandSet
      (2) (1 + k)) ≠ 1))
    ∧ ((xh3_0.pass 5).up 4 = true ∧ (xh3_0.pass 5).nat (bandKey (2) (5 + 1)) = 1 ∧ tabGet ((xh3_0.pass 5).band 2).weak 1 = some 0 ∧ 0 + secT ≤
      (xh3_0.pass 5).clk.now)
    ∧ ((nt.pass 5).up 4 = true ∧ bb.rms2 = some 4 ∧ ↑(40 * 40) * 4 < 100 * 65)
    ∧ ((xh3_1.pass 5).up 4 = true ∧ logFloor 40 (meanOf (slide ((xh3_1.pass 5).band 2).jn (xh3_1.pass 5).clk.now (msTicks 100) ((bs 101).power +
      (bs 101).notched - 1))) ≤ 400 ∧ (xh3_1.pass 5).nat (bandKey (2) 13) ≤ logFloor 40 (meanOf (slide ((xh3_1.pass 5).band 2).jn (xh3_1.pass
      5).clk.now (msTicks 100) ((bs 101).power + (bs 101).notched - 1))) * 255 / 400 ∧ ¬2 ∈ (xh3_1.pass 5).rx.jamUp)
    ∧ ((xh3_2.pass 5).up 4 = true ∧ logFloor 40 (meanOf (slide ((xh3_2.pass 5).band 2).jn (xh3_2.pass 5).clk.now (msTicks 100) ((bs 11).power +
      (bs 11).notched - 1))) ≤ 400 ∧ logFloor 40 (meanOf (slide ((xh3_2.pass 5).band 2).jn (xh3_2.pass 5).clk.now (msTicks 100) ((bs 11).power +
      (bs 11).notched - 1))) * 255 / 400 + 16 < (xh3_2.pass 5).nat (bandKey (2) 13) ∧ ((xh3_2.pass 5).band 2).low = some 0 ∧ 0 + secT ≤
      (xh3_2.pass 5).clk.now ∧ 2 ∈ (xh3_2.pass 5).rx.jamUp) :=
  by decide +kernel

theorem witness_ChannelStates :
    (((St (R [])).dev.pass 5).up 4 = true ∧ ((((St (R [])).dev.pass 5).seeSky sky).chan 0).state = 0 ∧ (∀ (j : Nat), j < 0 → ((((St (R
      [])).dev.pass 5).seeSky sky).chan j).state ≠ 0) ∧ List.find? (fun z => !(((St (R [])).dev.pass 5).seeSky sky).hasSignal z.signal &&
      (((((St (R [])).dev.pass 5).seeSky sky).sibling 416 z).isSome || hasUnaided z.sig)) ((((St (R [])).dev.pass 5).seeSky sky).claims sky) =
      some y1)
    ∧ (((St (R [(2, ch1)] [(2, true)])).dev.pass 5).up 4 = true ∧ ((St (R [(2, ch1)] [(2, true)])).dev.pass 5).rx.queue = [(2, true)] ∧ (∀ (z :
      Nat × Bool), z ∈ [] → z.fst ≠ 2) ∧ (((St (R [(2, ch1)] [(2, true)])).dev.pass 5).chan 2).state = 1 ∧ ((St (R [(2, ch1)] [(2,
      true)])).dev.pass 5).rx.bankAt + ((St (R [(2, ch1)] [(2, true)])).dev.pass 5).searchTicks (((St (R [(2, ch1)] [(2, true)])).dev.pass
      5).chan 2).sig true ≤ ((St (R [(2, ch1)] [(2, true)])).dev.pass 5).clk.now ∧ 900 ^ 100 * 10 ^ ((St (R [(2, ch1)] [(2, true)])).dev.pass
      5).nat 0x243003 < 20000 ^ 100 ∧ (900 ^ 100 * 10 ^ ((St (R [(2, ch1)] [(2, true)])).dev.pass 5).nat 0x243003 < 200 ^ 100 ∨ 900 ^ 100 * 10 ^
      ((St (R [(2, ch1)] [(2, true)])).dev.pass 5).nat 0x243003 < 20000 ^ 100) ∧ 7 < (searchOf (((St (R [(2, ch1)] [(2, true)])).dev.pass
      5).chan 2).sig true).bins ∧ 3 < (searchOf (((St (R [(2, ch1)] [(2, true)])).dev.pass 5).chan 2).sig true).dopBins)
    ∧ (((St (R [(2, ch1)] [(2, true)])).dev.pass 5).up 4 = true ∧ ((St (R [(2, ch1)] [(2, true)])).dev.pass 5).rx.queue = [(2, true)] ∧ (∀ (z :
      Nat × Bool), z ∈ [] → z.fst ≠ 2) ∧ (((St (R [(2, ch1)] [(2, true)])).dev.pass 5).chan 2).state = 1 ∧ ((St (R [(2, ch1)] [(2,
      true)])).dev.pass 5).rx.bankAt + ((St (R [(2, ch1)] [(2, true)])).dev.pass 5).searchTicks (((St (R [(2, ch1)] [(2, true)])).dev.pass
      5).chan 2).sig true ≤ ((St (R [(2, ch1)] [(2, true)])).dev.pass 5).clk.now ∧ 905 ^ 100 ≤ 900 ^ 100 * 10 ^ ((St (R [(2, ch1)] [(2,
      true)])).dev.pass 5).nat 0x243003)
    ∧ ((Rq.pass 5).up 4 = true)
    ∧ ((Rw.pass 5).up 4 = true ∧ ((Rw.pass 5).chan 2).state = 4 ∧ (Rw.pass 5).num 0x243001 - 20 ≤ ((Rw.pass 5).chan 2).elev ∧ tq = ↑((Rw.pass
      5).coherentUs ((Rw.pass 5).chan 2).sig false) / 1000000 ∧ 0 < tq ∧ 0 < power2 kk.n ∧ power2 kk.n < power2 kk.p ∧ cnq = min (meanOf (slide
      ((Rw.pass 5).chan 2).cn0s (Rw.pass 5).clk.now secT ↑(logFloor 1000 ((power2 kk.p - power2 kk.n) / (power2 kk.n * tq))))).floor.toNat 65535
      ∧ ((Rw.pass 5).chan 2).weakAt = some 89000000000 ∧ 89000000000 + 250000000 ≤ (Rw.pass 5).clk.now ∧ cnq < (Rw.pass 5).lossCn0 ((Rw.pass
      5).chan 2).sig)
    ∧ ((xh3_5.pass 5).up 4 = true ∧ ((xh3_5.pass 5).chan 2).state = 2 ∧ ((((xh3_5.pass 5).chan 2).since + if 2 = 2 then secT else 2 * secT) ≤
      (xh3_5.pass 5).clk.now) ∧ hasUnaided ((xh3_5.pass 5).chan 2).sig = true)
    ∧ ((xh3_6.pass 5).up 4 = true ∧ ((xh3_6.pass 5).chan 2).state = 2 ∧ ((((xh3_6.pass 5).chan 2).since + if 2 = 2 then secT else 2 * secT) ≤
      (xh3_6.pass 5).clk.now) ∧ hasUnaided ((xh3_6.pass 5).chan 2).sig = false ∧ (xh3_6.pass 5).sibling (2) ((xh3_6.pass 5).chan 2) = none) :=
  by decide +kernel

theorem witness_ReceiverRestarts :
    ((1, Instr.restartCold 5 rq) ∈ [(1, Instr.restartCold 5 rq), (2, Instr.restartWarm 5 rq), (3, Instr.restartHot 5 rq)] ∧ Rr2.accepts rq 9264
      4 [1#8] (DVal.num 1))
    ∧ ((xh3_9.pass 5).up 4 = true ∧ ((xh3_9.pass 5).chan 2).state ≤ 5 ∧ (xh3_9.pass 5).rx.swaps = [] ∧ (xh3_9.pass 5).rx.shadow = none ∧
      (xh3_9.pass 5).freeReserve = some 384)
    ∧ ((xh3_10.pass 5).up 4 = true ∧ (xh3_10.pass 5).rx.shadow = some (sh [false]) ∧ (sh [false]).chan = 4 ∧ (sh [false]).before = [] ∧
      ((xh3_10.pass 5).chan 4).state = 4 ∧ (sh [false]).at_ + 10 * secT ≤ (xh3_10.pass 5).clk.now ∧ (sh [false]).bad = [false])
    ∧ ((xh3_11.pass 5).up 4 = true ∧ (xh3_11.pass 5).rx.shadow = some (sh [true]) ∧ (sh [true]).chan = 4 ∧ (sh [true]).before = [] ∧
      ((xh3_11.pass 5).chan 4).state = 4 ∧ (sh [true]).at_ + 10 * secT ≤ (xh3_11.pass 5).clk.now ∧ (sh [true]).bad = [true] ∧ (xh3_11.pass
      5).freeReserve = some 384 ∧ (xh3_11.pass 5).shadows 384 = false) :=
  by simp only [accepts_iff, Dev.admits]; decide +kernel

theorem witness_EpochsRecorded :
    ((Rr.pass 5).up 4 = true ∧ (Rr.pass 5).timeState ≠ 0 ∧ (Rr.pass 5).rx.swaps = [] ∧ (Rr.pass 5).lastOf Recur.epoch ≠ some ((Rr.pass
      5).nominal (measPeriod ((Rr.pass 5).nat 0x247001))))
    ∧ ((Re.pass 5).up 4 = true ∧ (Re.pass 5).rx.latch = some mz ∧ (Re.pass 5).clk.now ≤ mz.at_ + 0x2625A0 ∧ (Re.pass 5).up 5 = true)
    ∧ ((xh3_14.pass 5).up 4 = true ∧ (xh3_14.pass 5).rx.latch = some mz)
    ∧ ((Rm2.pass 7500000000).up 4 = true ∧ (Rm2.pass 7500000000).up 7 = true ∧ (Rm2.pass 7500000000).flag 0x24C001 = true ∧ (Rm2.pass
      7500000000).nat 0x24C003 ≠ 0 ∧ (Rm2.pass 7500000000).benchmark = true ∧ 2 ≤ (Rm2.pass 7500000000).timeState ∧ (Rm2.pass 7500000000).flag
      0x248101 = false ∧ (Rm2.pass 7500000000).rx.msmOff = false ∧ (Rm2.pass 7500000000).rx.last = some m2 ∧ m2.time = (Rm2.pass
      7500000000).nominal (msmPeriod ((Rm2.pass 7500000000).nat 0x24C004)) ∧ 2 ≤ m2.timeSt ∧ m2.time % ((Rm2.pass 7500000000).nat 0x24C006 *
      1000000000) ≠ 0 ∧ (Rm2.pass 7500000000).lastOf Recur.msm ≠ some m2.time) :=
  by decide +kernel

theorem witness_SurveyAndTime :
    (lS = List.filter (fun x => !x.ent.flags.testBit 9 && decide ((Rt.pass 5).num 0x24800D ≤ x.pos.elev)) ((Rt.pass 5).solSigs mtm ts ((Rt.pass
      5).nat 0x221009) ((Rt.pass 5).antPoint ((Rt.pass 5).nat 0x221009))) ∧ clockOf (List.map (fun x => (solValue lS ts.bring x, solWeight x))
      lS) = some cS ∧ (Rt.pass 5).up 4 = true ∧ (Rt.pass 5).timeState ≠ 0 ∧ (Rt.pass 5).rx.last = some mtm ∧ mtm.time % 1000000000 = 0 ∧
      (Rt.pass 5).clk.now < mtm.at_ + secT ∧ (Rt.pass 5).benchmark = true ∧ (Rt.pass 5).nat 0x249204 ≠ 1 ∧ (Rt.pass 5).nat 0x248001 = 0 ∧
      (Rt.pass 5).flag 0x248101 = false ∧ (Rt.pass 5).rx.excl = [] ∧ (Rt.pass 5).rx.fixed = false ∧ 5 ≤ (satsOf lS).length)
    ∧ ((xh3_15.pass 5).accepts rq 9362 1 [1] (DVal.num 1))
    ∧ ((xh3_16.pass 5).accepts rq 9362 1 [2] (DVal.num 2) ∧ (xh3_16.pass 5).nat 0x249204 = 1)
    ∧ ((xh3_17.pass 5).up 4 = true ∧ (xh3_17.pass 5).nat 0x249204 = 1 ∧ (xh3_17.pass 5).nat 0x249202 ≤ (xh3_17.pass 5).surveySecs ∧ (xh3_17.pass
      5).surveyMean = some ([2.5, 3.5, 4.5], 0) ∧ 0 ≤ (xh3_17.pass 5).nat 0x249203)
    ∧ ((Sv.pass 5).up 4 = true ∧ (Sv.pass 5).nat 0x249204 = 1 ∧ 10 * (Sv.pass 5).nat 0x249202 ≤ (Sv.pass 5).surveySecs)
    ∧ ((Rh.pass 5).up 4 = true ∧ (Rh.pass 5).benchmark = true ∧ (Rh.pass 5).hourMm = some 20000 ∧ 10000 < 20000 ∧ (Rh.pass 5).rx.far = false) :=
  ⟨⟨rfl, clock_of _ _ (by decide +kernel), by decide +kernel⟩, by simp only [accepts_iff, Dev.admits]; decide +kernel⟩

end WRx

/-! Statements witnessed here: MoraineLog, BackgroundTests, UnitsRetired, QueuesCarry, FirnMoves, TasksScheduled, TimedActions. -/

namespace WJobs

def B := (W [(0x461001,1)]).setN 0x220001 3
def me : MorEntry := { code := 5, sev := 4, island := 3 }
def me0 : MorEntry := { me with sev := 0 }
def me1 : MorEntry := { me with seq := 1 }
def me5 : MorEntry := { me with seq := 5, flash := true }
def M := { B with mor := { B.mor with offers := [me, me0] } }
def f1 : MorEntry := { me with seq := 3, flash := true }
def M2 := { B with mor := { B.mor with ring := [me5, f1, me1], copied := 2 } }
def P1 : Dev := { B with pwr := { B.pwr with overAt := some 0 }, clk := { B.clk with now := 1250000000 } }
def U1 := { B with res := { B.res with rowErrs := [(5 * 2 ^ 24 + 2 * 2 ^ 12 + 3, [(1, true), (0, true)])], regErrs := [(8, [(4, true)])] } }
def xh4_1 : Dev := (U1.setN 0x201003 1)
def xh4_2 : Dev := (U1.setN 0x201003 1)
def xh4_3 : Dev := (U1.setN 0x201003 1)
def it (n w : Nat) (t := 0) : QItem := { src := 3, typ := 1, tag := n, words := w, buf := none, flds := [n], seenAt := t }
def Q (x : Queue) := let d := { B with clk := { B.clk with now := 8000 } }.setN (qKey 20 1) 1;
  { d with sched := { d.sched with queues := [(20, x)] } }
def qa : Queue := { queue0 with items := (List.range 30).map (fun i => it i 8), nHead := 1, nFirn := 16 }
def qb : Queue := { queue0 with items := (List.range 3).map (fun i => it i 8), nHead := 1, nFirn := 0 }
def xh4_4 : Dev := (Q { qb with items := qb.items ++ [it 4 8 (8005 * 16 + 100)] })
def qc : Queue := { queue0 with items := (List.range 64).map (fun i => it i 64), nHead := 1, nFirn := 0 }
def jb (st : Nat) (c : Option Nat) : Job :=
  { state := st, prio := 4, mask := 255, core := c, srcKind := 0, srcNum := 0, memo := false, readyAt := 5 }
def Qj (x : Queue) (j : Job) := let d := Q x;
  { d with sched := { d.sched with jobs := [(9, j)], cores := [(2, { core0 with run := some 9 })] } }
def j9 := jb 4 (some 2)
def ja : Job := { j9 with again := [(20, it 77 3)] }
def xh4_5 : Dev := ((Qj queue0 j9).setN 0x202009 2)
def ts := B.setO 0x400301 (zeros 512)
def Ts :=
  { ts.setN 0x220001 0 with sched := { ts.sched with cores := [(2, { core0 with run := some 9 })], jobs := [(9, { jb 4 (some 2) with held := [(20, it 3 2)] })], timers := [(4, (9, 1))] }, clk := { ts.clk with now := 10000000000 } }
def xh4_6 : Dev := (Ts.setN 0x400001 90)
def Ta := B.setN (actKey 9 1) 1
def xh4_7 : Dev := (Ta.setN (actKey 9 7) 1)

theorem witness_MoraineLog :
    ((M.pass 5).up 2 = true ∧ (M.pass 5).mor.offers = [me, me0] ∧ (M.pass 5).mor.ring.length < 4096 ∧ (M.pass 5).mor.lostNow = 0)
    ∧ (f1.flash = true ∧ (M2.pass 5).mor.copied < f1.seq ∧ (∀ (f : MorEntry), f ∈ (M2.pass 5).mor.flash → f.seq ≠ f1.seq) ∧ (∀ (o : MorEntry), o
      ∈ [me1] → o.flash = false) ∧ (M2.pass 5).mor.flash.length < (M2.pass 5).mor.blocks * 2048)
    ∧ ((M2.pass 5).accepts rq 18464 2 [5, 0, 0, 0] (DVal.num 5))
    ∧ ((M2.pass 5).accepts rq 18464 6 [9] (DVal.num 9) ∧ (M2.pass 5).mor.offers = [] ∧ (M2.pass 5).mor.ring.length < 4096) :=
  by simp only [accepts_iff, Dev.admits]; decide +kernel

theorem witness_BackgroundTests :
    (¬5 * 2 ^ 24 + 2 * 2 ^ 12 + 3 ∈ (B.pass 5).res.bare)
    ∧ ((B.pass 5).up 9 = true)
    ∧ ((B.pass 5).up 8 = true ∧ (B.pass 5).dueIn Recur.coreTest (60 * secT) = true)
    ∧ ((B.pass 5).up 8 = true ∧ (B.pass 5).dueIn Recur.wear (86400 * secT) = true)
    ∧ ((P1.pass 5).up 8 = true ∧ (P1.pass 5).nat 0x204004 < 70000 ∧ (P1.pass 5).pwr.overAt = some 0 ∧ 0 + secT ≤ (P1.pass 5).clk.now ∧ (P1.pass
      5).pwr.overBound = false)
    ∧ ((P1.pass 5).up 8 = true ∧ 7 ≤ (P1.pass 5).nat 0x204004) :=
  by decide +kernel

theorem witness_UnitsRetired :
    ((B.pass 5).up 8 = true ∧ 2 < 7 ∧ (B.pass 5).physical 2 = 2 ∧ (∀ (k : Nat), k < 2 → (B.pass 5).physical k ≠ 2) ∧ (B.pass 5).physical 7 ≠ 255
      ∧ ((B.pass 5).oct 0x484201).length = 8 ∧ ((B.pass 5).core 2).run = none ∧ (∀ (k : Nat), k < 7 → ((B.pass 5).core k).ready = []))
    ∧ (¬5 * 2 ^ 24 + 2 * 2 ^ 12 + 3 ∈ (U1.pass 5).res.bare ∧ 2 ≤ errCount (U1.pass 5).clk.now true (tabGetD (U1.pass 5).res.rowErrs (5 * 2 ^ 24
      + 2 * 2 ^ 12 + 3) []) ∧ tabGetD (U1.pass 5).res.rowsUsed (5 * 2 ^ 12 + 2) 0 < 2)
    ∧ (((Q qa).pass 5).up 9 = true ∧ ((Q qa).pass 5).nat 0x484005 ≠ 0)
    ∧ ((xh4_1.pass 5).up 9 = true ∧ 1 ≤ errCount (xh4_1.pass 5).clk.now true (tabGetD (xh4_1.pass 5).res.regErrs 8 []) ∧ (xh4_1.pass 5).nat
      0x484005 ≠ 0)
    ∧ ((xh4_2.pass 5).up 9 = true ∧ 1 ≤ errCount (xh4_2.pass 5).clk.now true (tabGetD (xh4_2.pass 5).res.regErrs 8 []) ∧ (xh4_2.pass 5).nat
      0x484005 ≠ 0 ∧ (xh4_2.pass 5).nat 0x201003 ≠ 0)
    ∧ ((xh4_3.pass 5).up 9 = true ∧ 1 ≤ errCount (xh4_3.pass 5).clk.now true (tabGetD (xh4_3.pass 5).res.regErrs 8 []) ∧ (xh4_3.pass 5).nat
      0x484005 ≠ 0) :=
  by decide +kernel

theorem witness_QueuesCarry :
    (((Q qb).pass 5).nat (qKey (20) 4) = 0 ∧ ((Q qb).pass 5).up 9 = true ∧ ((Q qb).pass 5).queueExists 20 = true ∧ 4 ≤ ((Q qb).pass 5).credits
      20 ∧ (((Q qb).pass 5).queue 20).told.testBit 2 = false ∧ (∀ (i : QItem), i ∈ (((Q qb).pass 5).queue 20).items → i.seenAt < ((Q qb).pass
      5).clk.now * 16 + 4 * 25))
    ∧ (((Qj qb j9).pass 5).nat (qKey (20) 4) = 0 ∧ ((Qj qb j9).pass 5).up 9 = true ∧ (((Qj qb j9).pass 5).queue 20).items = [it 0 8, it 1 8, it
      2 8] ∧ (it 0 8).seenAt ≤ ((Qj qb j9).pass 5).clk.now * 16 ∧ (∀ (j : Nat) (y : Job), ((Qj qb j9).pass 5).poppedFor 5 = some (j, y) → ∀ (p :
      Nat × QItem), p ∈ y.again → p.fst ≠ 20))
    ∧ ((xh4_4.pass 5).nat (qKey (20) 4) = 0 ∧ (xh4_4.pass 5).up 9 = true ∧ (xh4_4.pass 5).queueExists 20 = true ∧ 4 ≤ (xh4_4.pass 5).credits 20
      ∧ ((xh4_4.pass 5).queue 20).told.testBit 2 = false ∧ ((xh4_4.pass 5).queue 20).items = qb.items ++ [it 4 8 (8005 * 16 + 100)] ∧ (∀ (k :
      QItem), k ∈ qb.items → k.seenAt < (xh4_4.pass 5).clk.now * 16 + 4 * 25) ∧ (it 4 8 (8005 * 16 + 100)).seenAt = (xh4_4.pass 5).clk.now * 16
      + 4 * 25 ∧ 2 < (it 4 8 (8005 * 16 + 100)).src ∧ ((xh4_4.pass 5).queue 20).nHead + ((xh4_4.pass 5).queue 20).nFirn ≤ qb.items.length)
    ∧ (((Q qc).pass 5).nat (qKey (20) 4) = 0 ∧ ((Q qc).pass 5).up 9 = true ∧ ((Q qc).pass 5).queueExists 20 = true ∧ ((Q qc).pass 5).credits 20
      < 16 ∧ 2 ≠ 8 ∧ 2 ≠ 9 ∧ (((Q qc).pass 5).queue 20).refuseAt = none)
    ∧ (((Qj qb ja).pass 5).nat (qKey (20) 4) = 0 ∧ ((Qj qb ja).pass 5).up 9 = true ∧ ((Qj qb ja).pass 5).poppedFor 2 = some (9, ja) ∧ ja.again =
      [(20, it 77 3)])
    ∧ (((Qj queue0 j9).pass 5).nat (qKey (20) 4) = 0 ∧ (∀ (j : Nat) (y : Job), ((Qj queue0 j9).pass 5).poppedFor 2 = some (j, y) → y.again = [])
      ∧ ((Qj queue0 j9).pass 5).up 9 = true ∧ (((Qj queue0 j9).pass 5).queue 20).items = [])
    ∧ ((xh4_5.pass 5).nat (qKey (20) 4) = 0 ∧ (xh4_5.pass 5).up 9 = false)
    ∧ (((Q qa).pass 5).nat (qKey (20) 4) = 0 ∧ ((Q qa).pass 5).accepts rq (15872 + 20) 5 [1] (DVal.num 1))
    ∧ (((Q qa).pass 5).nat (qKey (20) 4) = 0 ∧ ((Q qa).pass 5).accepts rq 16144 4 [1] (DVal.num 1)) :=
  by simp only [accepts_iff, Dev.admits, pair_iff]; decide +kernel

theorem witness_FirnMoves :
    (((Q qa).pass 5).up 9 = true ∧ (∀ (i : QItem), i ∈ List.drop ((Queue.settle (((Q qa).pass 5).clk.now * 16) 16 (((Q qa).pass 5).queue
      20)).nHead + (Queue.settle (((Q qa).pass 5).clk.now * 16) 16 (((Q qa).pass 5).queue 20)).nFirn) (Queue.settle (((Q qa).pass 5).clk.now *
      16) 16 (((Q qa).pass 5).queue 20)).items → i.seenAt ≤ ((Q qa).pass 5).clk.now * 16) ∧ 64 ≤ wordsOf (List.drop ((Queue.settle (((Q qa).pass
      5).clk.now * 16) 16 (((Q qa).pass 5).queue 20)).nHead + (Queue.settle (((Q qa).pass 5).clk.now * 16) 16 (((Q qa).pass 5).queue 20)).nFirn)
      (Queue.settle (((Q qa).pass 5).clk.now * 16) 16 (((Q qa).pass 5).queue 20)).items))
    ∧ (((Q qa).pass 5).up 9 = true ∧ (((Q qa).pass 5).queue 20).headWords < 32 ∧ (((Q qa).pass 5).queue 20).nFirn ≠ 0 ∧ (((Q qa).pass 5).queue
      20).nHead + (((Q qa).pass 5).queue 20).nFirn ≤ (((Q qa).pass 5).queue 20).items.length) :=
  by decide +kernel

theorem witness_TasksScheduled :
    ((ts.pass 5).up 8 = true ∧ ((ts.pass 5).job 9).state = 0 ∧ 3 ∈ (ts.pass 5).activeCores ∧ fieldN ((ts.pass 5).oct 0x400301) (2 * 9 + 1) 1 = 0
      ∧ ((ts.pass 5).core 3).run = none ∧ ((ts.pass 5).core 3).ready = [])
    ∧ ((Ts.pass 5).up 8 = true ∧ ((Ts.pass 5).core 2).run = some 9 ∧ (∀ (i : Nat), i < 7 → ((Ts.pass 5).core i).ready = []))
    ∧ ((Ts.pass 50000).up 8 = true ∧ tabGet (Ts.pass 50000).sched.timers 4 = some (9, 1) ∧ schedTick 1 ≤ (Ts.pass 50000).schedNs ∧ ((Ts.pass
      50000).job 9).state = 4 ∧ (∀ (x : Nat × Nat × Int), x ∈ (Ts.pass 50000).sched.timers → 1 < x.snd.snd ∨ 1 = x.snd.snd ∧ 4 ≤ x.fst))
    ∧ ((xh4_6.pass 5).up 8 = true ∧ (xh4_6.pass 5).nat 0x400001 * 100 < (xh4_6.pass 5).loadOf 2 ∧ ((xh4_6.pass 5).core 2).loadHigh = false)
    ∧ ((Ts.pass 5).up 8 = true ∧ (Ts.pass 5).accepts rq 16384 3 [1] (DVal.num 1)) :=
  by simp only [accepts_iff, Dev.admits]; decide +kernel

theorem witness_TimedActions :
    ((Ta.pass 5).noTime = false ∧ (Ta.pass 5).accepts rq (16640 + 9) 2 (leBytes 10 1000) (DVal.num 1000000000000) ∧ (Ta.pass 5).nat (actKey (9)
      1) ≠ 0 ∧ ↑(Ta.pass 5).fleetNs < 1000000000000)
    ∧ ((B.pass 5).noTime = false ∧ (B.pass 5).accepts rq (16640 + 9) 2 (leBytes 10 1000) (DVal.num 1000000000000) ∧ (B.pass 5).nat (actKey (9)
      1) = 0)
    ∧ ((xh4_7.pass 5).noTime = false ∧ (xh4_7.pass 5).bit (actKey (9) 7) 0 = true ∧ (xh4_7.pass 5).nat (actKey (9) 1) = 1 ∧ (xh4_7.pass 5).nat
      (actKey (9) 5) = 0 ∧ (xh4_7.pass 5).actTick 9 ≤ (xh4_7.pass 5).schedNs ∧ (∀ (b : Nat), b < 256 → (xh4_7.pass 5).bit (actKey b 7) 0 = true
      → (xh4_7.pass 5).actTick 9 < (xh4_7.pass 5).actTick b ∨ (xh4_7.pass 5).actTick 9 = (xh4_7.pass 5).actTick b ∧ 9 ≤ b)) :=
  by simp only [accepts_iff, Dev.admits]; decide +kernel

end WJobs

/-! Statements witnessed here: EpochsServed, SlotStates, ReservationRequests, HoldsLapse. -/

namespace WFixes

def sl (n : Nat) := [(slotKey n 0 1, (1:Int)), (slotKey n 0 2, 5000 + (n:Int)), (slotKey n 1 1, 2)]
def B := { W ([(0x220001,3),(0x461001,1)] ++ sl 3) with clk := { dev0.clk with now := 100000000000 } }
def cell (sat : Nat) : VCell :=
  { sys := 0, sat := sat, obs := 12611, pr := 22000000, phase := none, lock := 500, half := true, cnr := 4500, rate := none }
def be (n v : Nat) : List Byte := (leBytes n v).reverse
def msmB (num tow : Nat) (more : Bool) : List Byte := let x := [0xD3, 0, 7] ++ be 2 (num * 16) ++ [0] ++ be 4 (tow * 4 + if more then 2 else 0)
  x ++ be 3 (crc24q x)
def teleB (tow : Nat) : List Byte := telegramBytes 1 1 5003 0 5 0xFF ([1,0,0,0] ++ msmB 1077 tow true)
def tow0 : Nat := (((B.gpsNow / 1000000 - 315964800000) % 604800000 + 604800000) % 604800000).toNat
def mE : Msm := { num := 1077, ok := true, tow := tow0, more := true, cells := [cell 1, cell 2] }
def ep (st : Nat) : Epoch :=
  { slot := 3, tv := B.gpsNow - 5000000000, partial_ := false, excess := false, conform := false, again := false, refAt := 7, stage := st, base := none, extra := false, firstAt := 90000000000, cells := [cell 1] }
def E (w : List Epoch) : Dev := { B with eng_ := { B.eng_ with wait := w } }
def e0 : Epoch := { ep 0 with tv := B.gpsNow }
def br : BaseRec :=
  { num := 1, time := 5, tag := (ep 0).tv, timeSt := 3, suspect := false, excluded := false, at_ := 99999999999, entries := [] }
def full := (List.range 8).map (fun g => (g, ep 2))
def E3 := { B with eng_ := { B.eng_ with wait := [ep 1], bases := [br], busy := full } }
def xh5_0 : Dev := { B with eng_ := { B.eng_ with wait := [ep 1, ep 2] } }
def S2 := B.setSlot 3 { slot0 with lastFix := some 5 }
def xh5_1 : Dev := { S2 with eng_ := { S2.eng_ with baseAt := some 9 } }
def fl : Filt := { t := 0, x := [], cov := [], sds := [], pivots := [] }
def S5 :=
  { (B.setSlot 3 { slot0 with filt := some fl, gapAt := some 99000000000 }).setN (slotKey 3 1 1) 5 with eng_ := { B.eng_ with runAt := some 50000000000, baseAt := some 99999999999 } }
def xh5_2 : Dev := { S2 with eng_ := { S2.eng_ with wait := [ep 1] } }
def R := (B.setO 0x2C1004 (zeros 12))
def r1 : ResReq :=
  { path := 200, count := 1, stepLow := 0, baseS := 80, length := 40, items := [{stop := 9000, start := 1000, group := 1, arc := 0xFFFF}] }
def ho (p g : Nat) (k : HoldKind) (a b : Int) : Hold :=
  { path := p, group := g, kind := k, start := a, stop := b, last := 5, arcs := [], nodes := [], since := 0, alert := false }
def Rr :=
  { R with resv := { R.resv with holds := [ho 200 1 .supervisor 5000 6000, ho 3 0 .interval (-60) (-7), ho 5 2 .interval 600 700], pieces := [{group := 1, sec := 5, path := 200}] } }
def RrF :=
  { R with resv := { R.resv with holds := [ho 200 1 .supervisor 500000 600000, ho 3 0 .interval 500000 600000, ho 5 2 .interval 600000 700000], pieces := [{group := 1, sec := 500, path := 200}] } }
def r3 : ResReq := { path := 200, count := 0, stepLow := 0, baseS := 80, length := 24, items := [] }
def r4 : ResReq :=
  { path := 0xFFFF, count := 1, stepLow := 0, baseS := 0, length := 40, items := [{stop := 9000, start := 1000, group := 1, arc := 0xFFFF}] }
def b2 (n : Nat) := leBytes 2 n
def b4 (n : Nat) := leBytes 4 n
def node (grp flags e : Nat) := leBytes 1 flags ++ leBytes 1 0 ++ b2 grp ++ b4 e ++ b4 0 ++ b4 0
def arc (f t cnt first len : Nat) := b2 f ++ b2 t ++ b2 0 ++ leBytes 1 0 ++ leBytes 1 cnt ++ b2 first ++ b2 0xFFFF ++ b2 0xFFFF ++ b2 1000 ++ b4
  len ++ b4 0
def seg (grp e : Nat) := b2 grp ++ b2 0 ++ b4 e
def G := (((R.setO 0x2C1001 (node 0 1 0 ++ node 1 1 10000 ++ node 2 1 20000)).setO 0x2C1002 (arc 0 1 1 0 10000 ++ arc 1 2 1 1 10000)).setO
  0x2C1003 (seg 0 10000 ++ seg 1 10000)).setO 0x2C1004 (zeros 12) |>.setN (slotKey 3 1 1) 3
def G1 := G.setCar 3 { vehicle0 with track := some (0, 5000, 0) }
def rv1 : ResReq :=
  { path := 3, slot := 3, count := 3, stepLow := 0, baseS := 80, length := 72, items := [{stop := 9000, start := 1000, group := 0, arc := 0}, {kind := 1, stop := 19000, start := 8000, group := 1, arc := 0}, {kind := 2, stop := 0xFFFFFFFF, start := 18000, group := 1, arc := 0}] }
def G2 := (run1 [.reserve 5 rq rv1] (St G1)).dev
def rv2 : ResReq :=
  { path := 3, slot := 3, count := 3, stepLow := 0, baseS := 80, length := 72, items := [{stop := 29000, start := 20000, group := 1, arc := 1}, {kind := 1, stop := 39000, start := 28000, group := 2, arc := 1}, {kind := 2, stop := 0xFFFFFFFF, start := 38000, group := 2, arc := 1}] }
def hs : Hold :=
  { path := 3, group := 0, kind := .standing, start := 60, stop := 70, last := 5, arcs := [], nodes := [], since := -900000, alert := false }
def Rs :=
  { R with resv := { R.resv with holds := [ho 200 1 .supervisor 5000 6000, hs, ho 5 2 .interval 600 700], pieces := [{group := 1, sec := 5, path := 200}] } }
def xh5_4 : Dev := (Rs.setN (slotKey 3 0x11 3) 900000)
def bx : List Byte := leBytes 8 (40000000000) ++ leBytes 8 (5000000000) ++ leBytes 8 (49000000000)
def F := B.setO 0x249001 bx
def geo1 (n : Nat) (x y z : Rat) : SatGeo := { sys := 0, sat := n, x := x, y := y, z := z, elV := 450, elB := 450 }
def gl := [geo1 1 20000000 0 17000000, geo1 2 15000000 15000000 15000000, geo1 3 10000000 (-15000000) 19000000, geo1 4 22000000 10000000
  10000000, geo1 5 5000000 5000000 25000000, geo1 6 24000000 (-8000000) 8000000]
def me (n : Nat) : MeasEntry :=
  { chan := n, sys := 0, sig := 0, sat := n, ant := 0, pr := 22000000 * 4096, carrier := 0, doppler := 0, lockMs := 500, cn0 := 4500, mp := 0, flags := 1 }
def bf : BaseRec :=
  { num := 1, time := 5, tag := (ep 0).tv, timeSt := 3, suspect := false, excluded := false, at_ := 99999999999, entries := [me 1, me 2, me 3, me 4] }
def ef : Epoch := { ep 2 with base := some bf, cells := [cell 1, cell 2, cell 3, cell 4] }
def Fx := { F.setN 0x202006 0 with eng_ := { F.eng_ with busy := [(2, ef)] } }
def S6 := (S5.setSlot 3 { (S5.slot 3) with gapAt := some 9000000000 }).setN 0x280013 10
def xh5_5 : Dev := { (S2.setN 0x484003 8) with eng_ := { S2.eng_ with busy := full } }

theorem witness_EpochsServed :
    ((∃ r, (({ (Fx.pass 5) with eng_ := { (Fx.pass 5).eng_ with busy := tabDel (Fx.pass 5).eng_.busy 2 } } : Dev).asBegun ef).solve ef bf gl []
      = some r ∧ decide (r.1.sol < ((Fx.pass 5).asBegun ef).nat (slotKey ef.slot 0 8)) = true) ∧ (Fx.pass 5).up 5 = true ∧ tabGet (Fx.pass
      5).eng_.busy 2 = some ef ∧ ef.base = some bf ∧ ef.conform = false ∧ ef.void = false ∧ (Fx.pass 5).slotState ef.slot = 2 ∧ (Fx.pass 5).up 6
      = false)
    ∧ ((B.pass 5).up 5 = true ∧ (B.pass 5).up 8 = true ∧ (((B.pass 5).pop ((B.pass 5).nat (slotKey (3) 0 3))).fst.checkTele (teleOf 9 10 (teleB
      tow0)) fun _ => none) = Except.ok 3 ∧ (teleOf 9 10 (teleB tow0)).typ = 1 ∧ (teleOf 9 10 (teleB tow0)).term ≤ (B.pass 5).nat 0x440203 ∧
      ((B.pass 5).pop ((B.pass 5).nat (slotKey (3) 0 3))).fst.slotOn 3 = true ∧ (teleOf 9 10 (teleB tow0)).vehicle = (B.pass 5).nat (slotKey (3)
      0 2) ∧ carrierMsms (teleB tow0) [[cell 1, cell 2]] = [mE] ∧ mE.ok = true ∧ mE.more = true ∧ msmSystem mE.num = some 0 ∧ ((B.pass 5).pop
      ((B.pass 5).nat (slotKey (3) 0 3))).fst.collecting 3 = none ∧ ((B.pass 5).pop ((B.pass 5).nat (slotKey (3) 0 3))).fst.epochReason (3)
      (((B.pass 5).pop ((B.pass 5).nat (slotKey (3) 0 3))).fst.epochTime 0 mE.tow) = 0)
    ∧ (((St (E [e0])).dev.pass 5).up 5 = true ∧ ((St (E [e0])).dev.pass 5).collecting 3 = some e0 ∧ e0.firstAt + 25000000 ≤ ((St (E
      [e0])).dev.pass 5).clk.now ∧ (((St (E [e0])).dev.pass 5).slot 3).lastTv = none ∧ ((St (E [e0])).dev.pass 5).pairing e0.tv = Pairing.hold)
    ∧ ((E3.pass 5).up 5 = true ∧ List.find? (fun z => z.slot == 3 && z.stage == 1) (E3.pass 5).eng_.wait = some (ep 1) ∧ (E3.pass 5).pairing (ep
      1).tv = Pairing.with_ br false ∧ (∀ (g : Nat), g ∈ (E3.pass 5).groupsUsed → (tabGet (E3.pass 5).eng_.busy g).isSome = true))
    ∧ ((xh5_0.pass 5).up 5 = true ∧ List.filter (fun z => z.stage == 2 && !z.conform) (xh5_0.pass 5).eng_.wait = [ep 2] ∧ (ep 2).refAt +
      31250000 ≤ (xh5_0.pass 5).clk.now ∧ (xh5_0.pass 5).groupsUsed ≠ [] ∧ (xh5_0.pass 5).eng_.shedAt = none) :=
  ⟨⟨some_of _ _ (by decide +kernel), by decide +kernel⟩, by simp only [ok_iff]; decide +kernel⟩

theorem witness_SlotStates :
    ((S2.pass 5).up 5 = true ∧ (S2.pass 5).slotState 3 = 2 ∧ ((S2.pass 5).slot 3).lastFix.getD 0 + msTicks ((S2.pass 5).nat 0x280012) ≤ (S2.pass
      5).clk.now)
    ∧ ((xh5_1.pass 5).up 5 = true ∧ (xh5_1.pass 5).slotsOn = [3] ∧ (xh5_1.pass 5).slotState 3 = 2 ∧ (xh5_1.pass 5).eng_.baseAt = some 9 ∧ 9 + 2
      * secT ≤ (xh5_1.pass 5).clk.now)
    ∧ ((S5.pass 5).up 5 = true ∧ (S5.pass 5).slotsOn = [3] ∧ (S5.pass 5).slotState 3 = 5 ∧ (S5.pass 5).eng_.runAt = some 50000000000 ∧ (S5.pass
      5).eng_.baseAt = some 99999999999 ∧ 50000000000 + secT ≤ (S5.pass 5).clk.now ∧ (S5.pass 5).clk.now < 99999999999 + 2 * secT ∧ (S5.pass
      5).gap 3 ≤ (S5.pass 5).nat 0x280013 * secT)
    ∧ ((S6.pass 5).up 5 = true ∧ (S6.pass 5).slotsOn = [3] ∧ (S6.pass 5).slotState 3 = 5 ∧ (S6.pass 5).eng_.runAt = some 50000000000 ∧ (S6.pass
      5).eng_.baseAt = some 99999999999 ∧ 50000000000 + secT ≤ (S6.pass 5).clk.now ∧ (S6.pass 5).clk.now < 99999999999 + 2 * secT ∧ (S6.pass
      5).nat 0x280013 * secT < (S6.pass 5).gap 3)
    ∧ ((xh5_2.pass 5).accepts rq (20483 + 32 * 3) 1 [1] (DVal.num 1) ∧ (xh5_2.pass 5).slotState 3 = 2)
    ∧ ((S2.pass 5).accepts rq (20483 + 32 * 3) 1 [2] (DVal.num 2))
    ∧ ((xh5_5.pass 5).up 5 = true ∧ 37 % 17 ≠ 16 ∧ (∀ (l : Nat), l ∈ (xh5_5.pass 5).eng_.lanes → l / 17 ≠ 37 / 17) ∧ some (ep 2) = tabGet
      (xh5_5.pass 5).eng_.busy (37 / 17) ∧ (xh5_5.pass 5).eng_.groupsOut = []) :=
  by simp only [accepts_iff, Dev.admits]; decide +kernel

theorem witness_ReservationRequests :
    (parseReq (reqBytes 1 r1) = (1, (parseReq (reqBytes 1 r1)).snd) ∧ ((R.pass 5).heard rq).settleHolds = (R.pass 5).heard rq ∧ (R.pass
      5).timeState ≠ 0 ∧ (R.pass 5).accepts rq 11792 1 (reqBytes 1 r1) (DVal.oct (reqBytes 1 r1)) ∧ reqMalformed (parseReq (reqBytes 1 r1)).snd
      1 = none ∧ 128 ≤ (parseReq (reqBytes 1 r1)).snd.path ∧ (R.pass 5).holdsOf (parseReq (reqBytes 1 r1)).snd.path = [] ∧ (((R.pass 5).heard
      rq).holdPaired 1 (parseReq (reqBytes 1 r1)).snd).snd.code = 0)
    ∧ (parseReq (reqBytes 4 r4) = (4, (parseReq (reqBytes 4 r4)).snd) ∧ ((RrF.pass 5).heard rq).settleHolds = (RrF.pass 5).heard rq ∧ (RrF.pass
      5).timeState ≠ 0 ∧ (RrF.pass 5).accepts rq 11792 1 (reqBytes 4 r4) (DVal.oct (reqBytes 4 r4)) ∧ reqMalformed (parseReq (reqBytes 4
      r4)).snd 4 = none ∧ ((RrF.pass 5).lookup (parseReq (reqBytes 4 r4)).snd).code = 0)
    ∧ (parseReq (reqBytes 2 rv2) = (2, (parseReq (reqBytes 2 rv2)).snd) ∧ ((G2.pass 5).heard (rq 82)).settleHolds = (G2.pass 5).heard (rq 82) ∧
      (G2.pass 5).timeState ≠ 0 ∧ (G2.pass 5).accepts (rq 82) 11792 1 (reqBytes 2 rv2) (DVal.oct (reqBytes 2 rv2)) ∧ reqMalformed (parseReq
      (reqBytes 2 rv2)).snd 2 = none ∧ (parseReq (reqBytes 2 rv2)).snd.path < 128 ∧ (((G2.pass 5).heard (rq 82)).holdPaired 2 (parseReq
      (reqBytes 2 rv2)).snd).snd.code = 0)
    ∧ (parseReq (reqBytes 3 r3) = (3, (parseReq (reqBytes 3 r3)).snd) ∧ ((RrF.pass 5).heard rq).settleHolds = (RrF.pass 5).heard rq ∧ (RrF.pass
      5).timeState ≠ 0 ∧ (RrF.pass 5).accepts rq 11792 1 (reqBytes 3 r3) (DVal.oct (reqBytes 3 r3)) ∧ reqMalformed (parseReq (reqBytes 3
      r3)).snd 3 = none ∧ 128 ≤ (parseReq (reqBytes 3 r3)).snd.path ∧ (parseReq (reqBytes 3 r3)).snd.stepLow = (RrF.pass 5).nat 0x220006 % 256 ∧
      (RrF.pass 5).holdsOf (parseReq (reqBytes 3 r3)).snd.path ≠ []) :=
  ⟨⟨rfl, rfl, by simp only [accepts_iff, Dev.admits]; decide +kernel⟩, ⟨rfl, rfl, by simp only [accepts_iff, Dev.admits]; decide +kernel⟩, ⟨rfl,
    rfl, by simp only [accepts_iff, Dev.admits]; decide +kernel⟩, ⟨rfl, rfl, by simp only [accepts_iff, Dev.admits]; decide +kernel⟩⟩

theorem witness_HoldsLapse :
    (ho 3 0 HoldKind.interval (-60) (-7) ∈ (Rr.pass 5).resv.holds ∧ (Rr.pass 5).up 6 = true ∧ (ho 3 0 HoldKind.interval (-60) (-7)).path = 3 ∧
      (ho 3 0 HoldKind.interval (-60) (-7)).group = 0 ∧ (ho 3 0 HoldKind.interval (-60) (-7)).kind = HoldKind.interval ∧ (ho 3 0
      HoldKind.interval (-60) (-7)).stop ≤ (Rr.pass 5).engMs ∧ (Rr.pass 5).passedBy (ho 3 0 HoldKind.interval (-60) (-7)) = false)
    ∧ (hs ∈ (Rs.pass 5).resv.holds ∧ (Rs.pass 5).up 6 = true ∧ hs.path = 3 ∧ hs.group = 0 ∧ hs.kind = HoldKind.standing ∧ hs.alert = false ∧
      hs.since + (Rs.pass 5).num 0x2E0001 < (Rs.pass 5).engMs)
    ∧ ((xh5_4.pass 5).up 6 = true)
    ∧ ((Rs.pass 5).accepts rq 11796 1 [200, 0] (DVal.num 200))
    ∧ ((Rs.pass 5).accepts rq 11794 1 [200, 0] (DVal.num 200)) :=
  by simp only [accepts_iff, Dev.admits]; decide +kernel

end WFixes

/-! Statements witnessed here: TasksMove, AuctionRounds, VehicleCommands, VehiclesDriven, VehiclesReport. -/

namespace WFleet

def sl (n : Nat) := [(slotKey n 0 1, (1:Int)), (slotKey n 0 2, 5000 + (n:Int)), (slotKey n 1 1, 2)]
def B := { W ([(0x220001,3),(0x461001,1)] ++ sl 3) with clk := { dev0.clk with now := 100000000000 } }
def b2 (n : Nat) := leBytes 2 n
def b4 (n : Nat) := leBytes 4 n
def node (grp flags e : Nat) := leBytes 1 flags ++ leBytes 1 0 ++ b2 grp ++ b4 e ++ b4 0 ++ b4 0
def arc (f t cnt first len : Nat) := b2 f ++ b2 t ++ b2 0 ++ leBytes 1 0 ++ leBytes 1 cnt ++ b2 first ++ b2 0xFFFF ++ b2 0xFFFF ++ b2 1000 ++ b4
  len ++ b4 0
def seg (grp e : Nat) := b2 grp ++ b2 0 ++ b4 e
def G := ((((B.setO 0x2C1001 (node 0 3 0 ++ node 1 3 10000 ++ node 2 3 20000)).setO 0x2C1002 (arc 0 1 1 0 10000 ++ arc 1 2 1 1 10000)).setO
  0x2C1003 (seg 0 10000 ++ seg 1 10000)).setO 0x2C1004 (zeros 12) |>.setN (slotKey 3 1 1) 3).setO 0x340001 ([1] ++ zeros 31)
def tk : Task :=
  { state := 0, id := 77, prio := 3, slot := 0xFF, reason := 0, attempts := 0, cost := 0, pick := 0, drop := 2, classes := 1, fixed := false, fixSlot := 0, timed := false, pickSvc := 5, dropSvc := 5, earliest := 0, deadline := 0, warned := none }
def tj (st sl : Nat) : Task := { tk with state := st, slot := sl }
def GT (t : Task) : Dev := { G with tasks := [(4, t)] }
def GT9 := { (GT (tj 9 0xFF)).setN 0x300009 0 with clk := G.clk }
def tt : Task := { tj 7 3 with timed := true }
def xh6_0 : Dev := ((GT tt).setN (slotKey 3 0x11 1) 4)
def xh6_2 : Dev := { (GT (tj 2 0xFF)).setN 0x380101 0 with rounds := { G.rounds with due := true } }
def Rn := { G with rounds := { G.rounds with running := true, startAt := 0 } }
def V := G.setN (slotKey 3 0x11 1) 0xFFFF
def xh6_3 : Dev := (V.setCar 3 { vehicle0 with stops := 0x1E })
def xh6_4 : Dev := { (V.setN (slotKey 3 0x11 1) 4) with tasks := [(4, tj 3 3)] }
def D := V.setN 0x440201 0
def pth : Path :=
  { items := [{ arc := 0, seg := 0, kind := 0, group := 0, c0 := 0, c1 := 10000 }, { arc := 0, seg := 0, kind := 1, group := 1, c0 := 10000, c1 := 10000 }, { arc := 0, seg := 0, kind := 2, group := 1, c0 := 10000, c1 := 10000 }], arcs := [(0, 0)], grants := [], depart := 0 }
def Dp :=
  { (D.setCar 3 { vehicle0 with path := some pth, dest := some (9, 10) }) with resv := { D.resv with holds := [{ path := 3, group := 0, kind := .interval, start := -100, stop := 900000, last := 10000, arcs := [0], nodes := [], since := 0, alert := false }, { path := 3, group := 1, kind := .park, start := 100, stop := 0, last := 10000, arcs := [0], nodes := [1], since := 0, alert := false }] } }
def De := { (D.setCar 3 { vehicle0 with dest := some (9, 10) }) with pair := { D.pair with firstPerm := some 4 } }
def xh6_5 : Dev := ((Dp.setN (slotKey 3 1 1) 4).setCar 3 { (Dp.car 3) with unready := some 5 } |>.setN 0x341002 1)
def xh6_6 : Dev := ((Dp.setN (slotKey 3 0x11 2) 5))
def ackB : List Byte := telegramBytes 7 1 5003 0 9 0xFF (packed [4, 4, 4, 4, 1, 1, 2] [8, 3, 0, 0, 2, 1, 0])
def xh6_7 : Dev := { De with pair := { De.pair with firstPerm := none, inherited := [3, 4] } }
def repB : List Byte := telegramBytes 8 1 5003 0 9 0xFF (taskBody [77, 4, 0, 2, 1, 2])
def xh6_8 : Dev := { D.setN (slotKey 3 0x11 1) 4 with tasks := [(4, tj 7 3)] }
def xh6_9 : Dev := (De.setCar 3 { (De.car 3) with periods := 60000 })

theorem witness_TasksMove :
    ((G.pass 5).accepts rq 12289 1 tk.bytes (DVal.oct tk.bytes) ∧ (G.pass 5).submitReason tk.bytes = 0 ∧ tabFree (G.pass 5).tasks 1024 = some 0
      ∧ (taskOf tk.bytes).earliest ≤ (G.pass 5).fleetNs)
    ∧ (((GT (tj 2 255)).pass 5).accepts rq 12289 2 (leBytes 4 77) (DVal.num 77) ∧ List.find? (fun x => decide (x.snd.id = 77 ∧ 1 ≤ x.snd.state ∧
      x.snd.state ≤ 7)) ((GT (tj 2 255)).pass 5).tasks = some (4, tj 2 255) ∧ tabGet ((GT (tj 2 255)).pass 5).tasks 4 = some (tj 2 255) ∧ (tj 2
      255).state = 2 ∧ (tj 2 255).slot = 255)
    ∧ (((GT (tj 1 255)).pass 5).up 6 = true ∧ tabGet ((GT (tj 1 255)).pass 5).tasks 4 = some (tj 1 255) ∧ (tj 1 255).slot = 255 ∧ (tj 1
      255).state = 1 ∧ (((GT (tj 1 255)).pass 5).timeState = 0 ∨ (tj 1 255).earliest ≤ ((GT (tj 1 255)).pass 5).fleetNs))
    ∧ ((GT9.pass 5).up 6 = true ∧ tabGet (GT9.pass 5).tasks 4 = some (tj 9 255) ∧ (tj 9 255).slot = 255 ∧ 8 ≤ (tj 9 255).state ∧ (tj 9
      255).endAt + (GT9.pass 5).nat 0x300009 * secT ≤ (GT9.pass 5).clk.now)
    ∧ ((xh6_0.pass 5).up 6 = true ∧ (xh6_0.pass 5).nat (slotKey (3) 17 1) = 4 ∧ 4 ≠ 65535 ∧ tabGet (xh6_0.pass 5).tasks 4 = some tt ∧ tt.state =
      7 ∧ tt.timed = true ∧ tt.slot = 3 ∧ ((xh6_0.pass 5).car 3).v = 0 ∧ ((xh6_0.pass 5).car 3).restAt + tt.dropSvc * 100 * msT ≤ (xh6_0.pass
      5).clk.now ∧ ((xh6_0.pass 5).wants 3 = true → (xh6_0.pass 5).reachQ 3 = true)) :=
  by simp only [accepts_iff, Dev.admits]; decide +kernel

theorem witness_AuctionRounds :
    ((G.pass 5).up 6 = true ∧ (G.pass 5).rounds.startAt + (G.pass 5).nat 0x300001 * msT ≤ (G.pass 5).clk.now)
    ∧ ((xh6_2.pass 5).up 6 = true ∧ (xh6_2.pass 5).rounds.due = true ∧ (xh6_2.pass 5).rounds.running = false ∧ (xh6_2.pass 5).stopped = false ∧
      (xh6_2.pass 5).serving = true)
    ∧ ((Rn.pass 5).up 6 = true ∧ (Rn.pass 5).rounds.running = true ∧ (Rn.pass 5).rounds.bound = none ∧ (Rn.pass 5).rounds.startAt + (Rn.pass
      5).nat 0x300002 * msT ≤ (Rn.pass 5).clk.now)
    ∧ ((Rn.pass 5).up 6 = true ∧ (Rn.pass 5).rounds.running = true ∧ (Rn.pass 5).rounds.free = [] ∧ (Rn.pass 5).rounds.times = [] ∧ (∀ (n :
      Nat), n < 128 → ((Rn.pass 5).car n).target = none) ∧ (∀ (x : Nat × Machine.Task), x ∈ (Rn.pass 5).tasks → x.snd.state ≠ 6)) :=
  by decide +kernel

theorem witness_VehicleCommands :
    (1 < 65536 ∧ (V.pass 5).accepts rq (20499 + 32 * 3) 1 (vehicleWord 1 171 1) (DVal.num ↑(1 * 2 ^ 24 + 1)) ∧ (V.pass 5).nat (slotKey (3) 17 1)
      = 65535 ∧ ((V.pass 5).car 3).stops = 0)
    ∧ (1 < 65536 ∧ (xh6_3.pass 5).accepts rq (20499 + 32 * 3) 1 (vehicleWord 2 171 1) (DVal.num ↑(2 * 2 ^ 24 + 1)))
    ∧ (1 < 65536 ∧ (V.pass 5).accepts rq (20499 + 32 * 3) 1 (vehicleWord 3 171 1) (DVal.num ↑(3 * 2 ^ 24 + 1)) ∧ 1 < (V.pass 5).graph.nNodes ∧
      ((V.pass 5).car 3).path = none ∧ ((V.pass 5).car 3).track = none ∧ (V.pass 5).holdsOf 3 = [] ∧ ((V.pass 5).car 3).stops = 0)
    ∧ (1 < 65536 ∧ (xh6_4.pass 5).accepts rq (20499 + 32 * 3) 1 (vehicleWord 4 171 1) (DVal.num ↑(4 * 2 ^ 24 + 1)) ∧ (xh6_4.pass 5).nat (slotKey
      (3) 17 1) = 4 ∧ tabGet (xh6_4.pass 5).tasks 4 = some (tj 3 3) ∧ (tj 3 3).state = 3 ∧ (tj 3 3).slot = 3 ∧ ((xh6_4.pass 5).wants 3 = true →
      (xh6_4.pass 5).reachQ 3 = true)) :=
  by simp only [accepts_iff, Dev.admits]; decide +kernel

theorem witness_VehiclesDriven :
    ((∀ (j : Nat), j ≠ 3 → ((Dp.pass 12500000).car j).path = none) ∧ (Dp.pass 12500000).up 6 = true ∧ (Dp.pass 12500000).serving = true ∧
      ((Dp.pass 12500000).car 3).path.isSome = true ∧ ((Dp.pass 12500000).car 3).target = none ∧ (Dp.pass 12500000).lastOf Recur.block ≠ some
      (Dp.pass 12500000).blockNum)
    ∧ ((De.pass 5).settleHolds = De.pass 5 ∧ (De.pass 5).up 6 = true ∧ (De.pass 5).serving = true ∧ (De.pass 5).tele.newTerm = false ∧ (De.pass
      5).slotsOn = [3] ∧ ((De.pass 5).car 3).path = none ∧ (De.pass 5).up 7 = true ∧ (De.pass 5).destOf 3 = some (9, 10) ∧ (De.pass 5).wo.refAt
      = none ∧ (De.pass 5).pair.firstPerm ≠ none ∧ (De.pass 5).lastOf Recur.period ≠ some (De.pass 5).periodNum)
    ∧ ((xh6_5.pass 12500000).settleHolds = xh6_5.pass 12500000 ∧ (xh6_5.pass 12500000).up 6 = true ∧ ((xh6_5.pass 12500000).car 3).unready =
      some 5 ∧ 5 + (xh6_5.pass 12500000).nat 0x341002 * secT ≤ (xh6_5.pass 12500000).clk.now ∧ ((xh6_5.pass 12500000).car 3).path.isSome = true
      ∧ (xh6_5.pass 12500000).ready 3 = false ∧ ((xh6_5.pass 12500000).task ((xh6_5.pass 12500000).nat (slotKey (3) 17 1))).state = 0)
    ∧ ((xh6_6.pass 5).up 6 = true ∧ (xh6_6.pass 5).nat (slotKey (3) 17 2) = 5 ∧ ((xh6_6.pass 5).car 3).v = 0 ∧ ((xh6_6.pass 5).car 3).dwellAt +
      ((xh6_6.pass 5).cls ((xh6_6.pass 5).slotClass 3)).dwell * msT ≤ (xh6_6.pass 5).clk.now) :=
  ⟨⟨alone_of _ _ (by decide +kernel), by decide +kernel⟩, ⟨rfl, by decide +kernel⟩, ⟨rfl, by decide +kernel⟩, by decide +kernel⟩

theorem witness_VehiclesReport :
    ((xh6_7.pass 5).up 8 = true ∧ (xh6_7.pass 5).up 7 = true ∧ (xh6_7.pass 5).serving = true ∧ (xh6_7.pass 5).slotOn 3 = true ∧ ((xh6_7.pass
      5).checkTele (teleOf 9 10 ackB) fun x => x.rxAck) = Except.ok 3 ∧ (teleOf 9 10 ackB).typ = 7 ∧ (teleOf 9 10 ackB).term = (xh6_7.pass
      5).nat 0x440203 ∧ ((xh6_7.pass 5).car 3).path = none ∧ (xh6_7.pass 5).pair.firstPerm = none)
    ∧ ((xh6_8.pass 5).up 8 = true ∧ (xh6_8.pass 5).up 7 = true ∧ (xh6_8.pass 5).up 6 = true ∧ (xh6_8.pass 5).serving = true ∧ (xh6_8.pass
      5).slotOn 3 = true ∧ ((xh6_8.pass 5).checkTele (teleOf 9 10 repB) fun x => x.rxTask) = Except.ok 3 ∧ (teleOf 9 10 repB).typ = 8 ∧ (teleOf
      9 10 repB).term ≤ (xh6_8.pass 5).nat 0x440203 ∧ (xh6_8.pass 5).nat (slotKey (3) 17 1) = (reportOf repB).task ∧ tabGet (xh6_8.pass 5).tasks
      (reportOf repB).task = some (tj 7 3) ∧ (tj 7 3).id = (reportOf repB).id ∧ (tj 7 3).state = 7 ∧ (tj 7 3).slot = 3 ∧ (reportOf repB).event =
      2 ∧ ((xh6_8.pass 5).wants 3 = true → (xh6_8.pass 5).reachQ 3 = true))
    ∧ ((xh6_9.pass 5).up 6 = true ∧ (xh6_9.pass 5).slotOn 3 = true ∧ (xh6_9.pass 5).nat 0x342004 ≤ ((xh6_9.pass 5).car 3).periods ∧ ((xh6_9.pass
      5).car 3).absent = false) :=
  by simp only [ok_iff]; decide +kernel

end WFleet

/-! Statements witnessed here: StopSourcesAct, StopsAreServed. -/

namespace WStops

def dA := W [(0x380101,0),(axKey 1 1, 2), (axKey 1 4, 64), (axKey 2 4, 65), (0x381001, 2), (0x38100A, 1), (0x381006, 1), (0x381007, 1)]
def dA2 := { dA with wo := { dA.wo with maskA := 1000, wdRun := true } }.setN 0x381005 1
def dA4 := dA.setN 0x380101 1 |>.setN 0x380102 2
def dB := W [(0x380101,0),(0x380108,1+8),(0x381008,5),(0x381005,1)]
def dC := W [(0x380101,1),(0x380102,2),(0x380103,9),(0x38100D,0),(0x220001,2),(0x381003,1)]
def dC2 := dC.setN 0x38100D 2
def dC3 := dC2.setN 0x380101 2

theorem witness_StopSourcesAct :
    ((dA.pass 5).stopped = false ∧ (dA.pass 5).up 10 = true ∧ (dA.pass 5).nat 0x381003 ≤ 2000 ∧ (((dA.pass 5).samplePins 126).channel (2 * 0) =
      false ∨ ((dA.pass 5).samplePins 126).channel (2 * 0 + 1) = false) ∧ (dA.pass 5).nat 0x381006 ≤ (dA.pass 5).nat (0x381001 + 0) ∧ (dA.pass
      5).nat 0x381007 ≤ (dA.pass 5).nat (0x381001 + 0))
    ∧ ((dA.pass 5).stopped = false ∧ (dA.pass 5).up 10 = true ∧ ((dA.pass 5).samplePins 123).channel (2 * 1) ≠ ((dA.pass 5).samplePins
      123).channel (2 * 1 + 1) ∧ (dA.pass 5).bit 0x380108 1 = false ∧ (dA.pass 5).nat 0x381004 < 2000)
    ∧ (((dA.pass 5).samplePins 59).bit 0x380107 (5 + 1) ≠ ((dA.pass 5).samplePins 59).driven 1 ∧ 20 < 2000 ∧ (dA.pass 5).stopped = false ∧
      (dA.pass 5).up 10 = true ∧ (dA.pass 5).bit 0x380108 (1 + 4) = false)
    ∧ ((dA2.pass 5).stopped = false ∧ (dA2.pass 5).up 10 = true ∧ ((dA2.pass 5).clk.now < if 0 = 0 then (dA2.pass 5).wo.maskA else (dA2.pass
      5).wo.maskB) ∧ (dA2.pass 5).bit 0x381005 0 = true ∧ (dA2.pass 5).bit 0x381005 (1 - 0) = false ∧ Nat.testBit 127 (2 * 0 + 0) = true ∧
      (dA2.pass 5).bit 0x380108 (0 + 2) = false)
    ∧ ((dA.pass 5).accepts rq 14336 1 [2] (DVal.num 2) ∧ (dA.pass 5).stopped = false)
    ∧ ((dA4.pass 5).accepts rq 14336 1 [2] (DVal.num 2) ∧ (dA4.pass 5).stopped = true ∧ 2 ≤ (dA4.pass 5).woLevel)
    ∧ ((dA4.pass 5).accepts rq 14336 1 [3] (DVal.num 3) ∧ (dA4.pass 5).stopped = true ∧ (dA4.pass 5).woLevel < 3) :=
  by simp only [accepts_iff, Dev.admits]; decide +kernel

theorem witness_StopsAreServed :
    ((dB.pass 5).up 10 = true ∧ ((dB.pass 5).bit 0x380108 0 = true ∨ (dB.pass 5).bit 0x380108 (0 + 2) = true) ∧ ((dB.pass 5).samplePins
      127).channel (2 * 0) = true ∧ ((dB.pass 5).samplePins 127).channel (2 * 0 + 1) = true)
    ∧ ((dB.pass 5).up 10 = true ∧ (dB.pass 5).nat 0x381005 % 4 ≠ 0 ∧ (dB.pass 5).pulseDue 0 = true)
    ∧ ((dB.pass 5).up 10 = true ∧ (dB.pass 5).nat 0x381008 ≠ 0 ∧ (dB.pass 5).testDue 0 = true ∧ (true = false → (dB.pass 5).bit 0x380108 (0 + 4)
      = true))
    ∧ ((dC2.pass 50000000000).up 10 = true ∧ ((dC2.pass 50000000000).sampleHigh 127 100000).accepts rq 14336 2 [9, 0, 0, 0] (DVal.num 9) ∧
      (((dC2.pass 50000000000).sampleHigh 127 100000).heard rq).clearReason 9 = 0 ∧ (dC2.pass 50000000000).nat 0x38100D = 2)
    ∧ ((dC.pass 50000000000).up 10 = true ∧ ((dC.pass 50000000000).sampleHigh 127 100000).accepts rq 14336 2 [9, 0, 0, 0] (DVal.num 9) ∧
      (((dC.pass 50000000000).sampleHigh 127 100000).heard rq).clearReason 9 = 0 ∧ (dC.pass 50000000000).nat 0x38100D = 0)
    ∧ ((dC.pass 50000000000).up 10 = true ∧ ((dC.pass 50000000000).sampleHigh 127 100000).accepts rq 14336 2 [8, 0, 0, 0] (DVal.num 8) ∧
      (((dC.pass 50000000000).sampleHigh 127 100000).heard rq).clearReason 8 = 1 ∧ 1 ≠ 0)
    ∧ ((dC2.pass 5).accepts rq 14336 3 [1] (DVal.num 1))
    ∧ ((dC3.pass 50000000000).up 10 = true ∧ (dC3.pass 50000000000).woState = 2 ∧ (dC3.pass 50000000000).wo.armedAt + 30 * secT ≤ (dC3.pass
      50000000000).clk.now) :=
  by simp only [accepts_iff, Dev.admits]; decide +kernel

end WStops

/-! Statements witnessed here: StopSourcesAct, StopsAreServed, AxisCommands, AxisEvents. -/

namespace WAxes

def dA := W [(0x380101,0),(axKey 1 1, 2), (axKey 1 4, 64), (axKey 2 4, 65), (0x381001, 2), (0x38100A, 1), (0x38100B,100),(0x38100C,2),(0x381006,
  1), (0x381007, 1)]
def dA2 := { dA with wo := { dA.wo with maskA := 1000, wdRun := true } }.setN 0x381005 1
def T := 10000000
def dC := W [(0x380101,1),(0x380102,2),(0x380103,9),(0x38100D,0),(0x220001,2),(0x381003,1)]
def dC2 := dC.setN 0x38100D 2
def dC3 := dC2.setN 0x380101 2
def dX := W [(0x380101,0),(axKey 1 1,1),(axKey 1 4,64+32)]
def dX2 := { dX with axes := [(1, {axis0 with plan := .move 900 50, vel := 40, pos := 3})] }.setN (axKey 1 1) 2
def dXd := { dX with axes := [(1, {axis0 with plan := .dwell 900 50})] }.setN (axKey 1 1) 3
def dX3 := dX.setN (axSet 1 0x14) 1
def dX4 := dX.setN (axKey 1 4) 0 |>.setN (axKey 1 1) 0
def dX5 := dX.setN (axKey 1 1) 6
def dX5g := dX5.setN 0x461001 1
def TT := 2000000000
def lim : AxLim := { vmax := (dX.nat (axSet 1 5)), accel := (dX.nat (axSet 1 6)), decel := (dX.nat (axSet 1 7)), jerk := (dX.nat (axSet 1 8)) }
def dX6 := { dX with axes := [(1, {axis0 with plan := .move 1 5000, vel := 1/10, pos := 999/1000, lim := lim})] }.setN (axKey 1 1) 2 |>.setN
  (axKey 1 2) 1
def dX7 := { dX with axes := [(1, {axis0 with plan := .move 1000 5000, vel := 1000, pos := 149/100, lim := lim})] }.setN (axKey 1 1) 2 |>.setN
  (axKey 1 2) 1
def dY7 := dX7.setN (axKey 1 4) 64
def xb_0 : Dev := (dY7.setN (axSet 1 0x0B) 1)
def dX8 := { dX3 with axes := [(1, {axis0 with plan := .home 3 0 0, vel := -100, pos := -5, lim := lim})] }.setN (axKey 1 1) 4
def dY8 := dX8.setN (axKey 1 4) 64
def dY9 := ((dX.setN (axSet 1 0x0E) 5).setN (axKey 1 4) 64)
def dX9 := { dX with axes := [(1, {axis0 with plan := .dwell 900 50})] }.setN (axKey 1 1) 3

theorem witness_StopSourcesAct :
    (dA2.pass 2000000000).stopped = false ∧ (dA2.pass 2000000000).up 10 = true ∧ (dA2.pass 2000000000).nat 0x38100B ≠ 0 ∧ (dA2.pass
      2000000000).wo.wdRun = true ∧ (dA2.pass 2000000000).wo.expiry = false ∧ (dA2.pass 2000000000).wo.wdAt + (dA2.pass 2000000000).nat 0x38100B
      * msT ≤ (dA2.pass 2000000000).clk.now :=
  by decide +kernel

theorem witness_StopsAreServed :
    ((dC2.pass T).up 10 = true ∧ ((dC2.pass T).sampleHigh 127 100000).accepts rq 14336 2 [9, 0, 0, 0] (DVal.num 9) ∧ (((dC2.pass T).sampleHigh
      127 100000).heard rq).clearReason 9 = 0 ∧ (dC2.pass T).nat 0x38100D = 2)
    ∧ ((dC.pass T).up 10 = true ∧ ((dC.pass T).sampleHigh 127 100000).accepts rq 14336 2 [9, 0, 0, 0] (DVal.num 9) ∧ (((dC.pass T).sampleHigh
      127 100000).heard rq).clearReason 9 = 0 ∧ (dC.pass T).nat 0x38100D = 0)
    ∧ ((dC3.pass T).up 10 = true ∧ ((dC3.pass T).nat 0x38100D = 2 ∧ (dC3.pass T).woState = 2 ∧ (dC3.pass T).clk.now ≤ (dC3.pass T).wo.armedAt +
      30 * secT ∨ (dC3.pass T).nat 0x38100D = 1 ∧ (dC3.pass T).woState = 1) ∧ ((dC3.pass T).sampleHigh 127 100000).channelsHigh = true ∧
      ((dC3.pass T).sampleHigh 127 100000).noStopFault = true ∧ (dC3.pass T).wo.expiry = false ∧ (dC3.pass T).timeState ≠ 0) :=
  by simp only [accepts_iff, Dev.admits]; decide +kernel

theorem witness_AxisCommands :
    (-2147483648 ≤ 500 ∧ 500 < 2147483648 ∧ 3 < 2 ^ 24 ∧ (Instr.axisMoveAbsolute 7 rq 1 3 500, 1) ∈ [(Instr.axisMoveAbsolute 7 rq 1 3 500, 1),
      (Instr.axisMoveRelative 7 rq 1 3 500, 2), (Instr.axisJog 7 rq 1 3 500, 3), (Instr.axisStop 7 rq 1 3 500, 4), (Instr.axisHome 7 rq 1 3 500,
      5), (Instr.axisEnable 7 rq 1 3 500, 6), (Instr.axisDisable 7 rq 1 3 500, 7), (Instr.axisClearFault 7 rq 1 3 500, 8)] ∧ (dX.pass 7).accepts
      rq (13856 + 1) 0 (axBytes 1 3 500) (DVal.oct (axBytes 1 3 500)) ∧ (dX.pass 7).axReason (1) 1 3 500 ≠ 0)
    ∧ (-2147483648 ≤ 500 ∧ 500 < 2147483648 ∧ ((Instr.axisMoveAbsolute 7 rq 1 0 500, 1, 500, (dX.pass 7).nat (axSet 1 5)) ∈
      [(Instr.axisMoveAbsolute 7 rq 1 0 500, 1, 500, (dX.pass 7).nat (axSet (1) 5)), (Instr.axisMoveRelative 7 rq 1 0 500, 2, (dX.pass 7).axPos
      1 + 500, (dX.pass 7).nat (axSet (1) 5)), (Instr.axisJog 7 rq 1 0 500, 3, if 0 < 500 then (dX.pass 7).num (axSet (1) 10) else (dX.pass
      7).num (axSet (1) 9), min (Int.natAbs 500) ((dX.pass 7).nat (axSet (1) 5)))]) ∧ (dX.pass 7).accepts rq (13856 + 1) 0 (axBytes 1 0 500)
      (DVal.oct (axBytes 1 0 500)) ∧ (dX.pass 7).axReason (1) 1 0 500 = 0 ∧ (1 = 3 → 500 ≠ 0) ∧ ((dX.pass 7).axis 1).vel = 0 ∧ (∀ (u : Int) (r :
      Nat), ((dX.pass 7).axis 1).plan ≠ AxisPlan.dwell u r))
    ∧ (-2147483648 ≤ 0 ∧ 0 < 2147483648 ∧ (dX2.pass 7).accepts rq (13856 + 1) 0 (axBytes 4 0 0) (DVal.oct (axBytes 4 0 0)) ∧ (dX2.pass
      7).axState 1 ≠ 6 ∧ ((dX2.pass 7).axis 1).plan = AxisPlan.move 900 50 ∧ ((dX2.pass 7).axis 1).vel ≠ 0)
    ∧ (-2147483648 ≤ 500 ∧ 500 < 2147483648 ∧ ((Instr.axisMoveAbsolute 7 rq 1 0 500, 1, 500, (dX.pass 7).nat (axSet 1 5)) ∈
      [(Instr.axisMoveAbsolute 7 rq 1 0 500, 1, 500, (dXd.pass 7).nat (axSet (1) 5)), (Instr.axisMoveRelative 7 rq 1 0 500, 2, (dXd.pass
      7).axPos 1 + 500, (dXd.pass 7).nat (axSet (1) 5)), (Instr.axisJog 7 rq 1 0 500, 3, if 0 < 500 then (dXd.pass 7).num (axSet (1) 10) else
      (dXd.pass 7).num (axSet (1) 9), min (Int.natAbs 500) ((dXd.pass 7).nat (axSet (1) 5)))]) ∧ (dXd.pass 7).accepts rq (13856 + 1) 0 (axBytes
      1 0 500) (DVal.oct (axBytes 1 0 500)) ∧ (dXd.pass 7).axReason (1) 1 0 500 = 0 ∧ (1 = 3 → 500 ≠ 0) ∧ ((dXd.pass 7).axis 1).vel = 0 ∧
      ((dXd.pass 7).axis 1).plan = AxisPlan.dwell 900 50)
    ∧ (-2147483648 ≤ 500 ∧ 500 < 2147483648 ∧ ((Instr.axisMoveAbsolute 7 rq 1 0 500, 1, 500, (dX.pass 7).nat (axSet 1 5)) ∈
      [(Instr.axisMoveAbsolute 7 rq 1 0 500, 1, 500, (dX2.pass 7).nat (axSet (1) 5)), (Instr.axisMoveRelative 7 rq 1 0 500, 2, (dX2.pass
      7).axPos 1 + 500, (dX2.pass 7).nat (axSet (1) 5)), (Instr.axisJog 7 rq 1 0 500, 3, if 0 < 500 then (dX2.pass 7).num (axSet (1) 10) else
      (dX2.pass 7).num (axSet (1) 9), min (Int.natAbs 500) ((dX2.pass 7).nat (axSet (1) 5)))]) ∧ (dX2.pass 7).accepts rq (13856 + 1) 0 (axBytes
      1 0 500) (DVal.oct (axBytes 1 0 500)) ∧ (dX2.pass 7).axReason (1) 1 0 500 = 0 ∧ (1 = 3 → 500 ≠ 0) ∧ ((dX2.pass 7).axis 1).vel ≠ 0 ∧ true =
      decide ((dX2.pass 7).axStop 1 ≤ (if ((dX2.pass 7).axis 1).vel < 0 then -1 else 1) * (500 - ((dX2.pass 7).axis 1).pos)))
    ∧ (-2147483648 ≤ 0 ∧ 0 < 2147483648 ∧ (dX3.pass 7).accepts rq (13856 + 1) 0 (axBytes 5 0 0) (DVal.oct (axBytes 5 0 0)) ∧ (dX3.pass
      7).axReason (1) 5 0 0 = 0 ∧ ((dX3.pass 7).axis 1).vel = 0)
    ∧ (-2147483648 ≤ 0 ∧ 0 < 2147483648 ∧ (dX4.pass 7).accepts rq (13856 + 1) 0 (axBytes 6 0 0) (DVal.oct (axBytes 6 0 0)) ∧ (dX4.pass
      7).axState 1 ≠ 6 ∧ (dX4.pass 7).bit (axKey (1) 4) 6 = false ∧ (dX4.pass 7).quiet = false)
    ∧ (-2147483648 ≤ 0 ∧ 0 < 2147483648 ∧ (dX.pass 7).accepts rq (13856 + 1) 0 (axBytes 7 0 0) (DVal.oct (axBytes 7 0 0)) ∧ (dX.pass 7).bit
      (axKey (1) 4) 6 = true ∧ (dX.pass 7).stopped = false ∧ (dX.pass 7).axState 1 ≠ 6 ∧ ((dX.pass 7).axis 1).vel = 0 ∧ (dX.pass 7).nat (axSet
      (1) 19) = 0)
    ∧ (-2147483648 ≤ 0 ∧ 0 < 2147483648 ∧ (dX5.pass 7).accepts rq (13856 + 1) 0 (axBytes 8 0 0) (DVal.oct (axBytes 8 0 0)) ∧ (dX5.pass 7).bit
      (axKey (1) 4) 4 = false ∧ (dX5.pass 7).axState 1 = 6 ∧ ((dX5.pass 7).bit (axKey (1) 4) 1 && (dX5.pass 7).bit (axKey (1) 4) 2) = false)
    ∧ (-2147483648 ≤ 77 ∧ 77 < 2147483648 ∧ (dX5g.pass 7).accepts rq (13872 + 1) 0 (leBytes 4 77) (DVal.num 77) ∧ ((dX5g.pass 7).axState 1 = 0 ∨
      (dX5g.pass 7).axState 1 = 1 ∨ (dX5g.pass 7).axState 1 = 6) ∧ ((dX5g.pass 7).axis 1).vel = 0) :=
  by simp only [accepts_iff, Dev.admits, dwell_iff]; decide +kernel

theorem witness_AxisEvents :
    ((dX.pass TT).up 10 = true ∧ 9 = (6 ^^^ 15 ^^^ ((dX.pass TT).axUse (1) 12).toNat) % 16 ∧ false = decide (↑((dX.pass TT).axUse (1) 18) < max
      ((dX.pass TT).axis 1).vel (-((dX.pass TT).axis 1).vel)))
    ∧ ((dX2.pass TT).up 10 = true ∧ 9 = (6 ^^^ 15 ^^^ ((dX2.pass TT).axUse (1) 12).toNat) % 16 ∧ false = decide (↑((dX2.pass TT).axUse (1) 18) <
      max ((dX2.pass TT).axis 1).vel (-((dX2.pass TT).axis 1).vel)) ∧ 0 < (dX2.pass TT).axUse (1) 13)
    ∧ ((dX6.pass TT).up 10 = true ∧ 0 = (15 ^^^ 15 ^^^ ((dX6.pass TT).axUse (1) 12).toNat) % 16 ∧ false = decide (↑((dX6.pass TT).axUse (1) 18)
      < max ((dX6.pass TT).axis 1).vel (-((dX6.pass TT).axis 1).vel)) ∧ (dX6.pass TT).up 6 = true ∧ ((dX6.pass TT).axis 1).segAt ≤ (dX6.pass
      TT).clk.now ∧ ((dX6.pass TT).axis 1).plan = AxisPlan.move 1 5000 ∧ ((dX6.pass TT).axis 1).lim.decel = (dX6.pass TT).nat (axSet (1) 7) ∧
      ((dX6.pass TT).axis 1).lim.jerk = (dX6.pass TT).nat (axSet (1) 8) ∧ (dX6.pass TT).axPos 1 = roundRat ((dX6.pass TT).axis 1).pos ∧
      ((((dX6.pass TT).setAxis (1) (have __src := (dX6.pass TT).axis 1;
      { plan := __src.plan, pos := __src.pos, vel := __src.vel, acc := __src.acc, forward := __src.forward, lim := __src.lim, readyAt := __src.readyAt, restAt := __src.restAt, set := __src.set, segAt := ((dX6.pass TT).axis 1).segAt + 125000, dirPin := __src.dirPin })).axDefer
      1).axToward (1) 1 ↑(min 5000 ((((dX6.pass TT).setAxis (1) (have __src := (dX6.pass TT).axis 1;
      { plan := __src.plan, pos := __src.pos, vel := __src.vel, acc := __src.acc, forward := __src.forward, lim := __src.lim, readyAt := __src.readyAt, restAt := __src.restAt, set := __src.set, segAt := ((dX6.pass TT).axis 1).segAt + 125000, dirPin := __src.dirPin })).axDefer
      1).axis 1).lim.vmax)).snd = true)
    ∧ ((dX7.pass TT).up 10 = true ∧ 0 = (15 ^^^ 15 ^^^ ((dX7.pass TT).axUse (1) 12).toNat) % 16 ∧ true = decide (↑((dX7.pass TT).axUse (1) 18) <
      max ((dX7.pass TT).axis 1).vel (-((dX7.pass TT).axis 1).vel)) ∧ (dX7.pass TT).up 6 = true ∧ ((dX7.pass TT).axis 1).segAt ≤ (dX7.pass
      TT).clk.now ∧ ((dX7.pass TT).axis 1).plan = AxisPlan.move 1000 5000 ∧ ((dX7.pass TT).axis 1).lim.decel = (dX7.pass TT).nat (axSet (1) 7) ∧
      ((dX7.pass TT).axis 1).lim.jerk = (dX7.pass TT).nat (axSet (1) 8) ∧ (dX7.pass TT).axPos 1 = roundRat ((dX7.pass TT).axis 1).pos ∧
      ((((dX7.pass TT).setAxis (1) (have __src := (dX7.pass TT).axis 1;
      { plan := __src.plan, pos := __src.pos, vel := __src.vel, acc := __src.acc, forward := __src.forward, lim := __src.lim, readyAt := __src.readyAt, restAt := __src.restAt, set := __src.set, segAt := ((dX7.pass TT).axis 1).segAt + 125000, dirPin := __src.dirPin })).axDefer
      1).axToward (1) 1000 ↑(min 5000 ((((dX7.pass TT).setAxis (1) (have __src := (dX7.pass TT).axis 1;
      { plan := __src.plan, pos := __src.pos, vel := __src.vel, acc := __src.acc, forward := __src.forward, lim := __src.lim, readyAt := __src.readyAt, restAt := __src.restAt, set := __src.set, segAt := ((dX7.pass TT).axis 1).segAt + 125000, dirPin := __src.dirPin })).axDefer
      1).axis 1).lim.vmax)).snd = false)
    ∧ ((dY7.pass TT).up 10 = true ∧ 3 = (12 ^^^ 15 ^^^ ((dY7.pass TT).axUse (1) 12).toNat) % 16 ∧ true = decide (↑((dY7.pass TT).axUse (1) 18) <
      max ((dY7.pass TT).axis 1).vel (-((dY7.pass TT).axis 1).vel)) ∧ (dY7.pass TT).axUse (1) 13 ≤ 60000 ∧ ((dY7.pass TT).axis 1).plan =
      AxisPlan.move 1000 5000 ∧ (∀ (i : Nat), 1 ≤ i → i ≤ 4 → (dY7.pass TT).bit (axKey (1) 4) i = false))
    ∧ ((dY7.pass TT).up 10 = true ∧ 1 = (14 ^^^ 15 ^^^ ((dY7.pass TT).axUse (1) 12).toNat) % 16 ∧ true = decide (↑((dY7.pass TT).axUse (1) 18) <
      max ((dY7.pass TT).axis 1).vel (-((dY7.pass TT).axis 1).vel)) ∧ (dY7.pass TT).axUse (1) 13 ≤ 60000 ∧ ((dY7.pass TT).axis 1).plan =
      AxisPlan.move 1000 5000 ∧ (∀ (i : Nat), 1 ≤ i → i ≤ 4 → (dY7.pass TT).bit (axKey (1) 4) i = false) ∧ (1 % 4 = 1 ∧ 0 < ((dY7.pass TT).axis
      1).vel ∨ 1 % 4 = 2 ∧ ((dY7.pass TT).axis 1).vel < 0) ∧ 1 < 8 ∧ (dY7.pass TT).axUse (1) 11 = 0 ∧ 2 ≤ (dY7.pass TT).axState 1 ∧ (dY7.pass
      TT).axState 1 ≤ 5)
    ∧ ((xb_0.pass TT).up 10 = true ∧ 1 = (14 ^^^ 15 ^^^ ((xb_0.pass TT).axUse (1) 12).toNat) % 16 ∧ true = decide (↑((xb_0.pass TT).axUse (1)
      18) < max ((xb_0.pass TT).axis 1).vel (-((xb_0.pass TT).axis 1).vel)) ∧ (xb_0.pass TT).axUse (1) 13 ≤ 60000 ∧ ((xb_0.pass TT).axis 1).plan
      = AxisPlan.move 1000 5000 ∧ (∀ (i : Nat), 1 ≤ i → i ≤ 4 → (xb_0.pass TT).bit (axKey (1) 4) i = false) ∧ (1 % 4 = 1 ∧ 0 < ((xb_0.pass
      TT).axis 1).vel ∨ 1 % 4 = 2 ∧ ((xb_0.pass TT).axis 1).vel < 0) ∧ 1 < 8 ∧ (xb_0.pass TT).axUse (1) 11 ≠ 0)
    ∧ ((dY7.pass TT).up 10 = true ∧ 8 = (7 ^^^ 15 ^^^ ((dY7.pass TT).axUse (1) 12).toNat) % 16 ∧ true = decide (↑((dY7.pass TT).axUse (1) 18) <
      max ((dY7.pass TT).axis 1).vel (-((dY7.pass TT).axis 1).vel)) ∧ (dY7.pass TT).axUse (1) 13 ≤ 60000 ∧ ((dY7.pass TT).axis 1).plan =
      AxisPlan.move 1000 5000 ∧ (∀ (i : Nat), 1 ≤ i → i ≤ 4 → (dY7.pass TT).bit (axKey (1) 4) i = false) ∧ 8 % 4 ≠ 3)
    ∧ ((dY8.pass TT).up 10 = true ∧ 4 = (11 ^^^ 15 ^^^ ((dY8.pass TT).axUse (1) 12).toNat) % 16 ∧ false = decide (↑((dY8.pass TT).axUse (1) 18)
      < max ((dY8.pass TT).axis 1).vel (-((dY8.pass TT).axis 1).vel)) ∧ (dY8.pass TT).axUse (1) 13 ≤ 60000 ∧ ((dY8.pass TT).axis 1).plan =
      AxisPlan.home 3 0 0 ∧ (dY8.pass TT).bit (axKey (1) 4) ((dY8.pass TT).edgeBit 1) = false ∧ ((dY8.pass TT).axInputs (1) 4).bit (axKey (1) 4)
      ((dY8.pass TT).edgeBit 1) = true ∧ ((dY8.pass TT).axInputs (1) 4).axHit 1 = 0 ∧ 4 < 8 ∧ 4 % 4 ≠ 3)
    ∧ ((dY9.pass TT).up 10 = true ∧ 0 = (15 ^^^ 15 ^^^ ((dY9.pass TT).axUse (1) 12).toNat) % 16 ∧ false = decide (↑((dY9.pass TT).axUse (1) 18)
      < max ((dY9.pass TT).axis 1).vel (-((dY9.pass TT).axis 1).vel)) ∧ (dY9.pass TT).nat (axSet (1) 14) ≠ 0 ∧ (dY9.pass TT).axState 1 = 1 ∧
      (dY9.pass TT).bit (axKey (1) 4) 5 = false ∧ ((dY9.pass TT).axis 1).restAt + msTicks ((dY9.pass TT).nat (axSet (1) 14)) ≤ (dY9.pass
      TT).clk.now)
    ∧ ((dX9.pass TT).up 10 = true ∧ 0 = (15 ^^^ 15 ^^^ ((dX9.pass TT).axUse (1) 12).toNat) % 16 ∧ false = decide (↑((dX9.pass TT).axUse (1) 18)
      < max ((dX9.pass TT).axis 1).vel (-((dX9.pass TT).axis 1).vel)) ∧ (dX9.pass TT).up 6 = true ∧ ((dX9.pass TT).axis 1).plan = AxisPlan.dwell
      900 50 ∧ ((dX9.pass TT).axis 1).restAt + msTicks ((dX9.pass TT).axUse (1) 17).toNat ≤ (dX9.pass TT).clk.now) :=
  by simp only [four_iff]; decide +kernel

end WAxes

/-! Statements witnessed here: FramesMove. -/

namespace WFrames

def vl : List Byte := leBytes 8 (5 + 2^16*0xFF + 2^24*0xF0)
def P (u : Bool) : Port := { port0 with up := u, speed := 1000 }
def sta (mac vid port : Nat) : Entry := { key := macKey vid mac, val := macFresh port }
def mk (es : List Entry) : Exact := es.foldl (fun x e => match x.insert macShape e with | some (y,_) => y | none => x)
  { ways := [], order := [] }
def dF0 := (W [(portSet 1 1,1),(portSet 1 4,5),(portSet 1 5,0),(portSet 1 6,0)]).setO 0x3A3001 vl
def dF :=
  { dF0 with sw := { dF0.sw with ports := [(1,P true),(3,P true),(6,P true)], pipeA := { dF0.sw.pipeA with mac := mk [sta 0x020000000002 5 3] } } }
def gP : Pkt := { dst := 0x020000000002, src := 0x020000000004, tci := none, body := [0x88, 0xB5] ++ zeros 50, len := 0 }
def fr : Frame := { data := gP.bytes none }
def T := 100000
def fr0 : Frame := { fr with data := fr.data.map (fun x => x + 1) }
def dF1 := { dF with sw := { dF.sw with pipeA := { dF.sw.pipeA with mac := mk [sta 0x020000000002 5 1] } } }.setN (portSet 1 6) 1
def ins := ((dF1.pipe 0).mac.insert macShape { key := macKey 5 gP.src, val := macFresh 1 }).getD ({ ways := [], order := [] },0)
def fo : OutFrame := { cls := 1, len := 100, flds := [1,2] }
def dG := { dF with sw := { dF.sw with ports := [(1,{ P true with sending := some fo })] } }
def dG2 := { dF with sw := { dF.sw with ports := [(1,P false),(2,P true)] } }
def dG3 := { dF1 with sw := { dF1.sw with ports := [(1,{ P true with waiting := [fo] })] } }
def wI := ((dF.pipe 0).mac.find macShape (sta 0x020000000002 5 3).key).getD 0
def eR : Entry := { sta 0x020000000002 5 3 with val := 0x13 }
def nR : LearnNote := { kind := 3, key := eR.key, port := 3, time := 0 }
def dH :=
  { dF with sw := { dF.sw with pipeA := { dF.sw.pipeA with mac := (dF.pipe 0).mac.set wI eR, notices := [{ kind := 3, key := eR.key, port := 3, time := 0 }] } } }
def eRh : Entry := { eR with val := 0x413 }
def dHh := { dF with sw := { dF.sw with pipeA := { dF.sw.pipeA with mac := (dF.pipe 0).mac.set wI eRh } } }
def eR3 : Entry := { eR with val := 0x313 }
def dH3 := { dF with sw := { dF.sw with pipeA := { dF.sw.pipeA with mac := (dF.pipe 0).mac.set wI eR3 } } }
def dS := { dF with sw := { dF.sw with pipeB := { dF.sw.pipeB with freed := true, mac := { ways := [(65537, eR)], order := [65537] } } } }
def insS := (((dS.pipe 1).mac.clear 65537).insert { macShape with stash := 0 } eR).getD ({ ways := [], order := [] },0)

theorem witness_FramesMove :
    ((dF.pass T).up 7 = true ∧ ((dF.pass T).sendOwn.port 1).up = true ∧ (dF.pass T).sendOwn.flag (portSet (1) 1) = true ∧ (dF.pass
      T).sendOwn.bit (portKey (1) 3) 1 = false ∧ ((dF.pass T).sendOwn.port 1).upAt + lineTicks fr0.data.length ((dF.pass T).sendOwn.port
      1).speed ≤ (dF.pass T).sendOwn.clk.now ∧ (frameOk fr0 = false ∨ fr0.data.length < 64 ∨ (dF.pass T).sendOwn.nat 0x3A0002 <
      fr0.data.length))
    ∧ ((dG.pass T).up 7 = true ∧ ((dG.pass T).sendOwn.port 1).sending = some fo ∧ fo.cls ≠ 4 ∧ ((dG.pass T).sendOwn.port 1).waiting = [])
    ∧ ((dF.pass T).up 7 = true ∧ ((dF.pass T).sendOwn.port 1).up = true ∧ (dF.pass T).sendOwn.flag (portSet (1) 1) = true ∧ (dF.pass
      T).sendOwn.bit (portKey (1) 3) 1 = false ∧ ((dF.pass T).sendOwn.port 1).upAt + lineTicks fr.data.length ((dF.pass T).sendOwn.port 1).speed
      ≤ (dF.pass T).sendOwn.clk.now ∧ frameOk fr = true ∧ 64 ≤ fr.data.length ∧ fr.data.length ≤ (dF.pass T).sendOwn.nat 0x3A0002 ∧
      fr.data.length + 4 ≤ 131072 ∧ fr.fill ≤ 65536 ∧ (pktOf fr.data).pause = none ∧ (pktOf fr.data).tci = none ∧ (pktOf fr.data).ptp = false ∧
      isGroup (pktOf fr.data).dst = false ∧ isGroup (pktOf fr.data).src = false ∧ 5 = (dF.pass T).sendOwn.nat (portSet (1) 4) ∧ (dF.pass
      T).sendOwn.nat (portSet (1) 5) ≠ 1 ∧ (dF.pass T).sendOwn.vlan 5 = some (5, 255, 240, false) ∧ (5, 255, 240, false).snd.fst.testBit 1 =
      true ∧ (5, 255, 240, false).snd.snd.snd = false ∧ List.find? (fun i => i.vid == 5) (dF.pass T).sendOwn.ifaces = none ∧ ((dF.pass
      T).sendOwn.pipe (pipeOf 1)).mac.find macShape (macKey 5 (pktOf fr.data).src) = none ∧ (dF.pass T).sendOwn.flag (portSet (1) 6) = false ∧
      ((dF.pass T).sendOwn.pipe (pipeOf 1)).mac.get macShape (macKey 5 (pktOf fr.data).dst) = some (sta 2199023255554 5 3) ∧ (sta 2199023255554
      5 3).val.testBit 5 = false ∧ (sta 2199023255554 5 3).val.testBit 6 = false ∧ macPort (sta 2199023255554 5 3).val = 3 ∧ 3 ≠ 1 ∧ (5, 255,
      240, false).snd.fst.testBit 3 = true ∧ ((dF.pass T).sendOwn.port 3).up = true ∧ ((dF.pass T).sendOwn.port 3).sending = none ∧ ((dF.pass
      T).sendOwn.port 3).waiting = [] ∧ ((dF.pass T).sendOwn.port 3).pausedTo ≤ (dF.pass T).sendOwn.clk.now)
    ∧ ((dF1.pass T).up 7 = true ∧ ((dF1.pass T).sendOwn.port 1).up = true ∧ (dF1.pass T).sendOwn.flag (portSet (1) 1) = true ∧ (dF1.pass
      T).sendOwn.bit (portKey (1) 3) 1 = false ∧ ((dF1.pass T).sendOwn.port 1).upAt + lineTicks fr.data.length ((dF1.pass T).sendOwn.port
      1).speed ≤ (dF1.pass T).sendOwn.clk.now ∧ frameOk fr = true ∧ 64 ≤ fr.data.length ∧ fr.data.length ≤ (dF1.pass T).sendOwn.nat 0x3A0002 ∧
      fr.data.length + 4 ≤ 131072 ∧ fr.fill ≤ 65536 ∧ (pktOf fr.data).pause = none ∧ (pktOf fr.data).tci = none ∧ (pktOf fr.data).ptp = false ∧
      isGroup (pktOf fr.data).dst = false ∧ isGroup (pktOf fr.data).src = false ∧ 5 = (dF1.pass T).sendOwn.nat (portSet (1) 4) ∧ (dF1.pass
      T).sendOwn.nat (portSet (1) 5) ≠ 1 ∧ (dF1.pass T).sendOwn.vlan 5 = some (5, 255, 240, false) ∧ (5, 255, 240, false).snd.fst.testBit 1 =
      true ∧ (5, 255, 240, false).snd.snd.snd = false ∧ List.find? (fun i => i.vid == 5) (dF1.pass T).sendOwn.ifaces = none ∧ ((dF1.pass
      T).sendOwn.pipe (pipeOf 1)).mac.find macShape (macKey 5 (pktOf fr.data).src) = none ∧ (dF1.pass T).sendOwn.flag (portSet (1) 6) = true ∧
      (List.filter (fun t => decide ((dF1.pass T).sendOwn.clk.now < t)) ((dF1.pass T).sendOwn.pipe (pipeOf 1)).inserts).length ≤ 32 ∧ ((dF1.pass
      T).sendOwn.pipe (pipeOf 1)).mac.insert macShape { key := macKey 5 (pktOf fr.data).src, val := macFresh 1 } = some (ins.fst, ins.snd) ∧
      ins.fst.get macShape (macKey 5 (pktOf fr.data).dst) = some (sta 2199023255554 5 1) ∧ (sta 2199023255554 5 1).val.testBit 5 = false ∧ (sta
      2199023255554 5 1).val.testBit 6 = false ∧ macPort (sta 2199023255554 5 1).val = 1 ∧ ((dF1.pass T).sendOwn.pipe (1 - pipeOf
      1)).notices.length < 256)
    ∧ ((dG2.pass T).up 7 = true ∧ (dG2.pass T).sendOwn.flag (portSet (1) 1) = true ∧ ((dG2.pass T).sendOwn.port 1).up = false ∧ (dG2.pass
      T).sendOwn.quiet = false ∧ (2 ≤ 1 ∨ (dG2.pass T).sendOwn.nat (portSet (1) 2) ≠ 4) ∧ (∀ (t : Nat), ((dG2.pass T).sendOwn.port 1).downAt =
      some t → t + 10 * msT ≤ (dG2.pass T).sendOwn.clk.now))
    ∧ ((dG3.pass T).up 7 = true ∧ ((dG3.pass T).sendOwn.port 1).up = true ∧ ((dG3.pass T).sendOwn.port 1).sending = none ∧ ((dG3.pass
      T).sendOwn.port 1).waiting = [fo] ∧ fo.cls ≤ 4 ∧ ((dG3.pass T).sendOwn.port 1).pausedTo ≤ (dG3.pass T).sendOwn.clk.now)
    ∧ ((dH.pass T).up 7 = true ∧ tabGet ((dH.pass T).sendOwn.pipe 0).mac.ways wI = some eR ∧ macStatic eR.val = false ∧ ((dH.pass
      T).sendOwn.pipe 0).notices = [nR] ∧ nR.time + 250 ≤ (dH.pass T).sendOwn.clk.now ∧ nR.kind = 3 ∧ ((dH.pass T).sendOwn.pipe 0).mac.find
      macShape nR.key = some wI ∧ macRemote eR.val = true)
    ∧ ((dHh.pass T).up 7 = true ∧ tabGet ((dHh.pass T).sendOwn.pipe 0).mac.ways wI = some eRh ∧ macStatic eRh.val = false ∧ (dHh.pass
      T).sendOwn.nat 0x3A2001 ≠ 0 ∧ (∀ (t : Nat), tabGet ((dHh.pass T).sendOwn.pipe 0).swept wI = some t → t + (dHh.pass T).sendOwn.nat 0x3A2001
      * secT / 4 ≤ (dHh.pass T).sendOwn.clk.now) ∧ macHit eRh.val = true)
    ∧ ((dH.pass T).up 7 = true ∧ tabGet ((dH.pass T).sendOwn.pipe 0).mac.ways wI = some eR ∧ macStatic eR.val = false ∧ (dH.pass T).sendOwn.nat
      0x3A2001 ≠ 0 ∧ (∀ (t : Nat), tabGet ((dH.pass T).sendOwn.pipe 0).swept wI = some t → t + (dH.pass T).sendOwn.nat 0x3A2001 * secT / 4 ≤
      (dH.pass T).sendOwn.clk.now) ∧ macHit eR.val = false ∧ macAge eR.val ≠ 3)
    ∧ ((dH3.pass T).up 7 = true ∧ tabGet ((dH3.pass T).sendOwn.pipe 0).mac.ways wI = some eR3 ∧ macStatic eR3.val = false ∧ (dH3.pass
      T).sendOwn.nat 0x3A2001 ≠ 0 ∧ (∀ (t : Nat), tabGet ((dH3.pass T).sendOwn.pipe 0).swept wI = some t → t + (dH3.pass T).sendOwn.nat 0x3A2001
      * secT / 4 ≤ (dH3.pass T).sendOwn.clk.now) ∧ macHit eR3.val = false ∧ macAge eR3.val = 3 ∧ macRemote eR3.val = true)
    ∧ ((dS.pass T).up 7 = true ∧ tabGet ((dS.pass T).sendOwn.pipe 1).mac.ways 65537 = some eR ∧ macStatic eR.val = false ∧ ((dS.pass
      T).sendOwn.pipe 1).freed = true ∧ ((dS.pass T).sendOwn.pipe 1).mac.order = [65537] ∧ (((dS.pass T).sendOwn.pipe 1).mac.clear 65537).insert
      (have __src := macShape; { bits := __src.bits, stash := 0 }) eR = some (insS.fst, insS.snd)) :=
  by simp only [some_iff]; decide +kernel

end WFrames

/-! Statements witnessed here: TableCommands, CaptureRecords. -/

namespace WTables

def vl : List Byte := leBytes 8 (5 + 2^16*0xFF + 2^24*0xF0)
def rk (a l : Nat) : Nat := swapBytes 4 a + 2^128 * l
def k1 := rk 0x0A000000 8
def v1 := 5 * 2^128 + 0x0100000A
def d0 := (W []).setO 0x3A3001 vl
def d1 := { d0 with sw := { d0.sw with routes4 := [⟨k1, v1⟩] } }
def mk (es : List Entry) : Exact := es.foldl (fun x e => match x.insert macShape e with | some (y,_) => y | none => x)
  { ways := [], order := [] }
def sta (mac vid port : Nat) : Entry := { key := macKey vid mac, val := macFresh port }
def d3 := { d0 with sw := { d0.sw with pipeA := { d0.sw.pipeA with mac := mk [sta 2 5 3, sta 4 5 1, sta 6 6 3] } } }
def dat := ([5,1] : List Byte) ++ zeros 6 ++ leBytes 24 k1 ++ leBytes 24 v1
def datB := ([5,1] : List Byte) ++ zeros 6 ++ leBytes 24 (2^140) ++ leBytes 24 v1
def d4 := { d0 with sw := { d0.sw with faulty := [(5,⟨k1,v1⟩)] } }
def c0 := W [(0x420001,1),(0x420003,2),(0x420004,4),(0x420005,2),(0x420006,3),(0x421001,0)]
def xd_1 : Dev := { c0 with cap := { c0.cap with rearm := some 20000 } }
def xd_2 : Dev := (c0.setN 0x421001 5)
def xd_3 : Dev := (c0.setN 0x421001 1)
def cS := { c0 with cap := { c0.cap with tick := 100005, frac := 0 } }.setN 0x421001 3
def xd_4 : Dev := (c0.setN 0x421001 2)
def xd_5 : Dev := (c0.setN 0x421001 3)
def r0 : CapRecord := { header := [], frames := [] }
def c1 := { c0 with cap := { c0.cap with records := [(1,r0),(2,r0)] } }
def xd_7 : Dev := (c0.setN 0x421001 1)
def c2 := c0.setN 0x420101 3 |>.setN 0x420104 100
def c2p := { c2 with cap := { c2.cap with primedLow := true, start := 10 } }
def ed : TdcEdge := { tick := 99998, frac := 20, rising := true }
def smp : CapSample := { codes := [0,0,200,0] }
def xd_8 : Dev := (c2p.setN 0x421001 2)
def xd_9 : Dev := (c2p.setN 0x421001 3)
def xd_10 : Dev := (c2p.setN 0x421001 3)

theorem witness_TableCommands :
    ((d0.pass 9).windowBusy = false ∧ (d0.pass 9).sw.given = (d0.pass 9).out.length ∧ (Instr.tableInsert 9 rq (some (9, 0, 0)), 1) ∈
      [(Instr.tableInsert 9 rq (some (9, 0, 0)), 1), (Instr.tableReplace 9 rq (some (9, 0, 0)), 2), (Instr.tableDelete 9 rq (some (9, 0, 0)),
      3), (Instr.tableLookup 9 rq (some (9, 0, 0)), 4), (Instr.tableReadIndex 9 rq (some (9, 0, 0)), 5), (Instr.tableFlush 9 rq (some (9, 0,
      0)), 6)] ∧ tableLoaded (d0.pass 9) rq 1 9 0 0 (some (9, 0, 0)) ∧ (d0.pass 9).badKey 9 1 0 = true)
    ∧ ((d0.pass 9).windowBusy = false ∧ (d0.pass 9).sw.given = (d0.pass 9).out.length ∧ tableLoaded (d0.pass 9) rq 1 5 k1 v1 (some (5, k1, v1))
      ∧ (d0.pass 9).badKey 5 1 k1 = false ∧ List.findIdx? (fun x => x.key == k1) (d0.pass 9).sw.routes4 = none ∧ (d0.pass 9).badValue 5 k1 v1 =
      false ∧ (routePut false { key := k1, val := v1 } (d0.pass 9).sw.routes4).length ≤ 8192 ∧ routeNodes false (routePut false
      { key := k1, val := v1 } (d0.pass 9).sw.routes4) ≤ 2048)
    ∧ ((d1.pass 9).windowBusy = false ∧ (d1.pass 9).sw.given = (d1.pass 9).out.length ∧ tableLoaded (d1.pass 9) rq 3 5 k1 0 (some (5, k1, 0)) ∧
      (d1.pass 9).badKey 5 3 k1 = false ∧ List.findIdx? (fun x => x.key == k1) (d1.pass 9).sw.routes4 = some 0)
    ∧ ((d1.pass 9).windowBusy = false ∧ (d1.pass 9).sw.given = (d1.pass 9).out.length ∧ tableLoaded (d1.pass 9) rq 4 5 k1 0 (some (5, k1, 0)) ∧
      (d1.pass 9).badKey 5 4 k1 = false ∧ List.findIdx? (fun x => x.key == k1) (d1.pass 9).sw.routes4 = some 0 ∧ (d1.pass 9).sw.routes4[0]? =
      some { key := k1, val := v1 })
    ∧ ((d3.pass 9).windowBusy = false ∧ (d3.pass 9).sw.given = (d3.pass 9).out.length ∧ tableLoaded (d3.pass 9) rq 6 1 (3 + 256 * 5) 0 (some (1,
      3 + 256 * 5, 0)) ∧ (d3.pass 9).badKey 1 6 (3 + 256 * 5) = false ∧ (3 + 256 * 5) % 256 ≤ 7 ∧ tabOk none (d3.pass 9).sw.pipeA.mac.ways =
      true)
    ∧ ((d0.pass 9).windowBusy = false ∧ (d0.pass 9).sw.given = (d0.pass 9).out.length ∧ dat = [5, 1] ++ zeros 6 ++ leBytes 24 k1 ++ leBytes 24
      v1 ∧ k1 < 2 ^ 192 ∧ v1 < 2 ^ 192 ∧ (d0.pass 9).accepts rq 14977 1 dat (DVal.oct dat) ∧ (d0.pass 9).badKey 5 1 k1 = false ∧ (d0.pass
      9).badValue 5 k1 v1 = false ∧ List.findIdx? (fun x => x.key == k1) (d0.pass 9).sw.routes4 = none ∧ (routePut false
      { key := k1, val := v1 } (d0.pass 9).sw.routes4).length ≤ 8192 ∧ routeNodes false (routePut false { key := k1, val := v1 } (d0.pass
      9).sw.routes4) ≤ 2048)
    ∧ ((d0.pass 9).windowBusy = false ∧ (d0.pass 9).sw.given = (d0.pass 9).out.length ∧ datB = [5, 1] ++ zeros 6 ++ leBytes 24 (2 ^ 140) ++
      leBytes 24 v1 ∧ 2 ^ 140 < 2 ^ 192 ∧ v1 < 2 ^ 192 ∧ (d0.pass 9).accepts rq 14977 1 datB (DVal.oct datB) ∧ (d0.pass 9).badKey 5 1 (2 ^ 140)
      = true)
    ∧ ((d0.pass 9).windowBusy = false ∧ (d0.pass 9).sw.given = (d0.pass 9).out.length ∧ (d0.pass 9).up 7 = true ∧ (d0.pass 9).sw.eccAt = none)
    ∧ ((d1.pass 9).windowBusy = false ∧ (d1.pass 9).sw.given = (d1.pass 9).out.length ∧ (d1.pass 9).up 7 = true ∧ (d1.pass 9).sw.routes4[0]? =
      some { key := k1, val := v1 } ∧ tabGet (d1.pass 9).sw.rowFaults (rowOfEntry 5 0) = none)
    ∧ ((d4.pass 9).windowBusy = false ∧ (d4.pass 9).sw.given = (d4.pass 9).out.length ∧ (d4.pass 9).up 7 = true ∧ (d4.pass 9).up 9 = true ∧
      List.find? (fun y => y.fst == 5 && y.snd.key == k1) (d4.pass 9).sw.faulty = some (5, { key := k1, val := v1 })) :=
  by simp only [accepts_iff, Dev.admits, tableLoaded]; decide +kernel

theorem witness_CaptureRecords :
    ((c0.pass 100000).freeSeg = some 0 ∧ (c0.pass 100000).capState = 0 ∧ (c0.pass 100000).accepts rq 16899 1 [1] (DVal.num 1) ∧ (c0.pass
      100000).cap.rearm = none)
    ∧ ((xd_1.pass 100000).freeSeg = some 0 ∧ (xd_1.pass 100000).capState = 0 ∧ (xd_1.pass 100000).cap.rearm = some 20000 ∧ 20000 ≤ (xd_1.pass
      100000).clk.tick)
    ∧ ((xd_2.pass 100000).accepts rq 16899 1 [1] (DVal.num 1) ∧ ((xd_2.pass 100000).capState ≠ 0 ∨ (xd_2.pass 100000).cap.rearm.isSome = true ∨
      (xd_2.pass 100000).freeSeg = none))
    ∧ ((xd_3.pass 100000).accepts rq 16899 1 [2] (DVal.num 2) ∧ ((xd_3.pass 100000).capState = 1 ∨ (xd_3.pass 100000).capState = 2))
    ∧ ((c0.pass 100000).accepts rq 16899 1 [2] (DVal.num 2) ∧ (c0.pass 100000).capState ≠ 1 ∧ (c0.pass 100000).capState ≠ 2 ∧ ((c0.pass
      100000).capState = 3 → sampleAt (c0.pass 100000).cap.tick (c0.pass 100000).cap.frac ≠ ((c0.pass 100000).clk.tick / 5 + 1) * 5))
    ∧ ((cS.pass 100000).accepts rq 16899 1 [2] (DVal.num 2) ∧ (cS.pass 100000).capState = 3 ∧ sampleAt (cS.pass 100000).cap.tick (cS.pass
      100000).cap.frac = ((cS.pass 100000).clk.tick / 5 + 1) * 5)
    ∧ ((xd_4.pass 100000).accepts rq 16899 1 [3] (DVal.num 3) ∧ ((xd_4.pass 100000).capState = 1 ∨ (xd_4.pass 100000).capState = 2 ∨ (xd_4.pass
      100000).capState = 4 ∨ (xd_4.pass 100000).capState = 0 ∧ (xd_4.pass 100000).cap.rearm.isSome = true))
    ∧ ((xd_5.pass 100000).accepts rq 16899 1 [3] (DVal.num 3) ∧ (xd_5.pass 100000).capState = 3)
    ∧ ((c1.pass 100000).accepts rq 16899 2 [1] (DVal.num 1) ∧ (∃ r, r ∈ (c1.pass 100000).cap.records ∧ (1 = 255 ∨ r.fst = 1)))
    ∧ ((xd_7.pass 100000).capState = 1 ∧ (xd_7.pass 100000).nat 0x420005 ≤ (xd_7.pass 100000).framesBefore (xd_7.pass 100000).clk.tick)
    ∧ ((xd_8.pass 100000).up 3 = true ∧ 1 ≤ (xd_8.pass 100000).nat 0x420101 ∧ (xd_8.pass 100000).nat 0x420101 ≤ 4 ∧ (xd_8.pass 100000).nat
      0x420103 ≠ 1 ∧ (xd_8.pass 100000).cap.primedLow = true ∧ (xd_8.pass 100000).nat 0x420104 ≤ smp.codes.getD ((xd_8.pass 100000).nat 0x420101
      - 1) 0 ∧ lastEdge [ed] true ((xd_8.pass 100000).clk.tick / 5 * 800 - 1600) ((xd_8.pass 100000).clk.tick / 5 * 800) = some (99998 * 160 +
      20) ∧ (xd_8.pass 100000).cap.start ≤ sampleAt ((99998 * 160 + 20) / 160) ((99998 * 160 + 20) % 160) ∧ (xd_8.pass 100000).capState = 2)
    ∧ ((xd_9.pass 100000).up 3 = true ∧ 1 ≤ (xd_9.pass 100000).nat 0x420101 ∧ (xd_9.pass 100000).nat 0x420101 ≤ 4 ∧ (xd_9.pass 100000).nat
      0x420103 ≠ 1 ∧ (xd_9.pass 100000).cap.primedLow = true ∧ (xd_9.pass 100000).nat 0x420104 ≤ smp.codes.getD ((xd_9.pass 100000).nat 0x420101
      - 1) 0 ∧ lastEdge [ed] true ((xd_9.pass 100000).clk.tick / 5 * 800 - 1600) ((xd_9.pass 100000).clk.tick / 5 * 800) = some (99998 * 160 +
      20) ∧ (xd_9.pass 100000).cap.start ≤ sampleAt ((99998 * 160 + 20) / 160) ((99998 * 160 + 20) % 160) ∧ (xd_9.pass 100000).capState = 3 ∧
      (xd_9.pass 100000).cap.forced = false)
    ∧ ((xd_10.pass 100000).capState = 3 ∧ (xd_10.pass 100000).framesBefore (sampleAt (xd_10.pass 100000).cap.tick (xd_10.pass 100000).cap.frac)
      + 1 + (xd_10.pass 100000).nat 0x420006 ≤ (xd_10.pass 100000).framesBefore (xd_10.pass 100000).clk.tick)
    ∧ (4095 < 4096)
    ∧ ([7, 4095, 9] ≠ [] ∧ (∀ (x : Nat), x ∈ [7, 4095, 9] → x < 4096))
    ∧ ([5, 4] ≠ [] ∧ (∀ (w : Nat), w ∈ [5, 4] → w < 2 ^ 32) ∧ 2 < 32) :=
  by simp only [accepts_iff, Dev.admits]; decide +kernel

end WTables

/-! Statements witnessed here: ResetsRestart, PowerStates, IslandsAndSupplies. -/

namespace WPower

def de : Desc := { seq := 3, active := 0, trial := false, starts := 0, verA := 1, verB := 0 }
def bk : Bank := { img := zeros 300, len := 300, ver := 1, sec := 2, key := 0, level := 0, schema := 0, good := true }
def p0 := W [(0x205003,15),(0x205004,60),(0x440001,1),(0x440201,2),(0x206003,4)]
def p1 := { p0 with upd := { p0.upd with bankA := some bk, desc0 := some de }, nvDue := [(0x204001, .num 1)] }
def p2 := { p1 with pwr := { p1.pwr with hibernating := true } }
def z0 := W [(0x380101,0)]
def z1 := (z0.setN 0x202005 1 |>.setN 0x202006 1).setN 0x205002 1
def z2 := { z0 with axes := [(2,{axis0 with vel := 30})], nvDue := [(0x204001,.num 1)] }.setN (axKey 2 4) 64 |>.setN (axKey 2 1) 2 |>.setN
  0x461001 1
def z3 :=
  { z0 with resv := { z0.resv with holds := [{ path := 3, group := 1, kind := .standing, start := 0, stop := 0, last := 0, arcs := [], nodes := [], since := 0, alert := false }] } }
def xe_0 : Dev := { z0 with pwr := { z0.pwr with glacier := true }}
def TT := 2000000000
def m0 := { z0 with pwr := { z0.pwr with vmainPg := false } }
def xe_1 : Dev := { z0 with pwr := { z0.pwr with vmainEn := false, thawing := true } }
def t0 := { dev0 with cart := { dev0.cart with clockOk := true } }
def t2 := (t0.setN 0x202009 2)
def t3 := { (W [(0x202009,2),(0x205002,3),(0x440201,0)]) with pwr := { dev0.pwr with thawing := true } }
def xe_2 : Dev := { t2 with pwr := { t2.pwr with failedOnce := [9] } }
def xe_3 : Dev := { t2 with pwr := { t2.pwr with thawing := false, thawFails := 1 } }
def xe_4 : Dev := { z0 with pwr := { z0.pwr with recNow := some 6 } }
def xe_5 : Dev := (z0.setN 0x209001 0xF0)
def xe_6 : Dev := (z0.setN 0x208002 10)
def xe_7 : Dev := (z0.setN 0x208002 10)

theorem witness_ResetsRestart :
    ((p1.pass 3).upd.desc = some de ∧ (p1.pass 3).bankOk de.active = true ∧ (p1.pass 3).up 2 = true ∧ (p1.pass 3).pwr.vmainEn = true ∧ 1000 <
      1001)
    ∧ ((p1.pass 3).upd.desc = some de ∧ (p1.pass 3).bankOk de.active = true ∧ 4000 < 5000)
    ∧ ((p1.pass 3).upd.desc = some de ∧ (p1.pass 3).bankOk de.active = true ∧ (p1.pass 3).accepts rq 8288 1 [90] (DVal.num 90))
    ∧ ((p2.pass 80000000000).upd.desc = some de ∧ (p2.pass 80000000000).bankOk de.active = true ∧ (p2.pass 80000000000).pwr.hibernating = true ∧
      (p2.pass 80000000000).pwr.glacier = false ∧ (p2.pass 80000000000).bit 0x205003 2 = true ∧ (p2.pass 80000000000).nat 0x205004 ≠ 0 ∧
      (p2.pass 80000000000).pwr.vmainAt + (p2.pass 80000000000).nat 0x205004 * (secT - 25000) ≤ (p2.pass 80000000000).clk.now) :=
  by simp only [accepts_iff, Dev.admits]; decide +kernel

theorem witness_PowerStates :
    ((z0.pass 3).pwr.due = none ∧ (z0.pass 3).accepts rq 8272 1 [2] (DVal.num 2) ∧ (z0.pass 3).powerRefusal 2 = 0 ∧ (z0.pass 3).nat 0x205002 =
      0)
    ∧ ((z1.pass 3).pwr.due = none ∧ (z1.pass 3).accepts rq 8272 1 [1] (DVal.num 1) ∧ (z1.pass 3).powerRefusal 1 = 0 ∧ (z1.pass 3).nat 0x205002 =
      1 ∧ (z1.pass 3).pwr.recDue = [])
    ∧ ((z2.pass 3).pwr.due = none ∧ (z2.pass 3).accepts rq 8272 1 [3] (DVal.num 3) ∧ (z2.pass 3).powerRefusal 3 = 0)
    ∧ ((z2.pass 3).pwr.due = none ∧ (z2.pass 3).accepts rq 8272 1 [4] (DVal.num 4) ∧ (z2.pass 3).powerRefusal 4 = 0)
    ∧ ((z3.pass 3).pwr.due = none ∧ (Instr.powerHibernate 3 rq, 3) ∈ [(Instr.powerRun 3 rq, 1), (Instr.powerIdle 3 rq, 2), (Instr.powerHibernate
      3 rq, 3), (Instr.powerGlacier 3 rq, 4)] ∧ (z3.pass 3).accepts rq 8272 1 [3#8] (DVal.num 3) ∧ (z3.pass 3).powerRefusal 3 ≠ 0)
    ∧ ((xe_0.pass 3).pwr.due = none ∧ (xe_0.pass 3).pwr.glacier = true)
    ∧ ((z0.pass 3).pwr.due = none ∧ (z0.pass 3).up 8 = true ∧ (z0.pass 3).dueIn Recur.counts secT = true) :=
  by simp only [accepts_iff, Dev.admits]; decide +kernel

theorem witness_IslandsAndSupplies :
    ((m0.pass TT).up 2 = true ∧ (m0.pass TT).pwr.vmainEn = true ∧ (m0.pass TT).pwr.vmainPg = false ∧ (m0.pass TT).pwr.vmainAt + 100 * msT ≤
      (m0.pass TT).clk.now)
    ∧ ((xe_1.pass TT).up 2 = true ∧ (xe_1.pass TT).pwr.thawing = true ∧ (xe_1.pass TT).pwr.vmainEn = false ∧ (xe_1.pass TT).pwr.vmainAt + secT ≤
      (xe_1.pass TT).clk.now)
    ∧ ((t0.pass TT).up 2 = true ∧ (t0.pass TT).noneStarting = true ∧ (needsCart 9 = false ∨ (t0.pass TT).cart.clockOk = true) ∧ (t0.pass
      TT).upd.recovery = false ∧ (t0.pass TT).owed = false ∧ (t0.pass TT).thawTurn.head? = some 9 ∧ (t0.pass TT).pwr.vmainEn = true)
    ∧ ((t2.pass TT).island 9 = 2 ∧ (t2.pass TT).pwr.recDue = [] ∧ (t2.pass TT).pwr.thawing = true ∧ (t2.pass TT).pwr.recNow = none ∧ ((t2.pass
      TT).setN 0x202009 3).thawTurn ≠ [])
    ∧ ((t3.pass TT).island 9 = 2 ∧ (t3.pass TT).pwr.recDue = [] ∧ (t3.pass TT).pwr.thawing = true ∧ (t3.pass TT).pwr.recNow = none ∧ ((t3.pass
      TT).setN 0x202009 3).thawTurn = [] ∧ ((t3.pass TT).setN 0x202009 3).noneStarting = true ∧ (t3.pass TT).upd.onTrial = false ∧ (t3.pass
      TT).role = 0 ∧ (t3.pass TT).wit.late = 0)
    ∧ ((t2.pass TT).island 9 = 2 ∧ (t2.pass TT).pwr.failedOnce.contains 9 = false)
    ∧ ((xe_2.pass TT).island 9 = 2 ∧ (xe_2.pass TT).pwr.failedOnce.contains 9 = true ∧ (xe_2.pass TT).pwr.thawing = true)
    ∧ ((xe_3.pass TT).up 2 = true ∧ (xe_3.pass TT).pwr.thawing = false ∧ (xe_3.pass TT).pwr.hibernating = false ∧ 0 < (xe_3.pass
      TT).pwr.thawFails ∧ (xe_3.pass TT).pwr.thawFails < 3 ∧ (xe_3.pass TT).pwr.failAt + secT ≤ (xe_3.pass TT).clk.now)
    ∧ ((z0.pass TT).up 2 = true ∧ (z0.pass TT).up 6 = true ∧ (z0.pass TT).pwr.recNow = none ∧ (z0.pass TT).noneStarting = true ∧ (z0.pass
      TT).pwr.recDue = [] ∧ (z0.pass TT).pwr.recTimes = [])
    ∧ ((xe_4.pass TT).up 6 = true ∧ (xe_4.pass TT).pwr.recNow = some 6 ∧ (xe_4.pass TT).pwr.recDue = [])
    ∧ ((xe_5.pass TT).accepts rq 8336 2 [53, 18] (DVal.num 4661))
    ∧ ((xe_6.pass TT).up 8 = true ∧ (xe_6.pass TT).dueIn Recur.temperature (10 * msT) = true ∧ -500 ≤ 500 ∧ 500 < (xe_6.pass TT).num 0x208003 ∧
      (xe_6.pass TT).pwr.warm = false ∧ (xe_6.pass TT).pwr.hot = false ∧ (tabGet (xe_6.pass TT).od 0x208002).isSome = true)
    ∧ ((xe_7.pass TT).up 8 = true ∧ (xe_7.pass TT).dueIn Recur.temperature (10 * msT) = true ∧ -500 ≤ 1300 ∧ 1250 < 1300 ∧ (xe_7.pass
      TT).pwr.hot = false) :=
  by simp only [accepts_iff, Dev.admits]; decide +kernel

end WPower

/-! Statements witnessed here: PairLink, PairRoles. -/

namespace WPair

def P0 := W [(0x440001,1),(0x440002,3),(0x440201,2),(0x440203,7),(0x440205,5),(0x440206,3),(0x380101,0)]
def fb (ty : Nat) (p : List Byte) (term : Nat := 6) (n : Nat := 0) : List Byte := pairBytes ty 2 n term 5 p
def hbp : List Byte := packed [8,1,1,1,1,4,4,4,4,4] [0,3,6,3,0,0,0,0,0,0]
def hbp2 : List Byte := packed [8,1,1,1,1,4,4,4,4,4] [0,2,0,3,0,0,0,0,0,0]
def T := 2000000000
def f1 : List Byte := fb 1 hbp
def f1c : List Byte := fb 1 hbp2 9
def fx : List Byte := (fb 1 hbp) ++ [1]
def P2 := { P0 with pair := { P0.pair with paired := true } }
def P3 := { P0 with pair := { P0.pair with moving := some (0, false, 3, [1,2,3]), busyTill := 3000000000 } }.setN 0x440205 7
def S0 := P0.setN 0x440201 3
def f4 : List Byte := fb 4 (packed [4,1,1,2] [9,1,2,4] ++ time80Bytes 77000000005 ++ zeros 6)
def rc : List Byte := leBytes 2 0x2040 ++ [1,0] ++ leBytes 4 1 ++ [2]
def f5 : List Byte := fb 5 (packed [4,4,4] [8,0,9] ++ rc)
def U0 := { P0 with pair := { P0.pair with unacked := some (8, rc) } }
def f6 (r : Nat) : List Byte := fb 6 (packed [4,4] [8,r])
def xf_0 : Dev := { P0 with pair := { P0.pair with busyTill := 5000000000 } }
def cn := P0.cairnNow 4 false
def cn' := { cn with term := 6 }
def f2 : List Byte := fb 2 (packed [4,4] [4,0] ++ cairnBytes cn')
def snt : Nat × Nat × Nat × Bool := (4, 7, 100, false)
def f3 : List Byte := fb 3 (packed [4,4] [4,7])
def A0 := ({ P0 with pair := { P0.pair with sent := [(5,7,200,false), snt] } }.setCar 3 { vehicle0 with heldBack := [(1,50,0),(2,150,0)] })
def sntF : Nat × Nat × Nat × Bool := (4, 7, 100, true)
def xf_1 : Dev := { P0 with pair := { P0.pair with sent := [sntF] } }
def T9 := 900000000
def TL := 80000000000
def E0 := (P0.setN 0x440201 1).setN 0x440205 0
def B0 := { S0 with pwr := { S0.pwr with hibernating := true } }.setN 0x205003 15
def f7 (r : Nat) : List Byte := fb 7 (packed [1,3] [r,0])
def xf_3 : Dev := (B0.setN 0x440205 0)
def xf_4 : Dev := (P0.setCar 3 { vehicle0 with heldBack := [(4,10,0)] })
def I0 := { P0 with pair := { P0.pair with isolated := true } }.setCar 3 { vehicle0 with heldBack := [(4,10,0)] }
def xf_5 : Dev := (I0.setN 0x461001 1)
def xf_7 : Dev := (P0.setN 0x461001 1)
def L0 := { I0 with pair := { I0.pair with solo := true } }
def xf_8 : Dev := (L0.setN 0x461001 1)
def xf_9 : Dev := { P2 with pair := { P2.pair with switch_ := 1 }}
def K0 := { P2 with pair := { P2.pair with waking := 1 }}.setN 0x440201 5
def xf_10 : Dev := (P2.setN 0x440008 3)
def D0 :=
  { P2 with pair := { P2.pair with waking := 2, drill := true, slotA := some { term := 6, gen := 4, got := [], cairn := some cn' } }, servo := { P2.servo with everValid := 2 } }.setN
  0x440201 4

theorem witness_PairLink :
    ((P0.pass T).up 2 = true ∧ (P0.pass T).inPair = true ∧ (P0.pass T).since (P0.pass T).pair.beatAt (msTicks ((P0.pass T).nat 0x440003)) =
      true)
    ∧ ((P0.pass T).up 2 = true ∧ (P0.pass T).inPair = true ∧ (P0.pass T).bit 0x440002 0 = true ∧ (pairOf 0 fx).ok = false)
    ∧ (linkOk (P0.pass T) (pairOf 0 f1) 1 ∧ (P0.pass T).role = 2 ∧ (pairOf 0 f1).term ≤ (P0.pass T).nat 0x440203 ∧ (P0.pass T).nat 0x440206 ≠ 4)
    ∧ (linkOk (P0.pass T) (pairOf 0 f1c) 1 ∧ (P0.pass T).role = 2 ∧ (P0.pass T).nat 0x440203 < (pairOf 0 f1c).term ∧ ((heartbeatOf (pairOf 0
      f1c).payload).role = 2 ∨ (heartbeatOf (pairOf 0 f1c).payload).role = 5))
    ∧ ((P2.pass T).up 2 = true ∧ (P2.pass T).inPair = true ∧ (P2.pass T).bit 0x440205 0 = true ∧ (P2.pass T).since ((P2.pass T).pair.lane
      0).lastAt (msTicks ((P2.pass T).nat 0x440004)) = true ∧ (P2.pass T).role = 2 ∧ (P2.pass T).pair.paired = true ∧ (P2.pass T).bit 0x440205
      (2 + (1 - 0)) = false ∧ (P2.pass T).pair.moving = none)
    ∧ ((P3.pass T).up 2 = true ∧ (P3.pass T).inPair = true ∧ (P3.pass T).bit 0x440205 0 = true ∧ (P3.pass T).since ((P3.pass T).pair.lane
      0).lastAt (msTicks ((P3.pass T).nat 0x440004)) = true ∧ (P3.pass T).pair.moving = some (0, false, 3, [1, 2, 3]) ∧ (P3.pass T).clk.now <
      (P3.pass T).pair.busyTill ∧ (P3.pass T).laneUp (1 - 0) = true)
    ∧ (linkOk (S0.pass T) (pairOf 0 f4) 4 ∧ (S0.pass T).role ≠ 2 ∧ (∀ (o : Notice), (S0.pass T).pair.notice = some o → o.time ≤ fieldT (pairOf 0
      f4).payload 8))
    ∧ (8 = fieldN (pairOf 0 f5).payload 0 4 ∧ rc = List.drop 12 (pairOf 0 f5).payload ∧ linkOk (S0.pass T) (pairOf 0 f5) 5 ∧ (S0.pass T).role ≠
      2 ∧ fieldN (pairOf 0 f5).payload 4 4 = 0 ∧ fieldN (pairOf 0 f5).payload 8 4 = rc.length)
    ∧ (linkOk (U0.pass T) (pairOf 0 (f6 1)) 6 ∧ (U0.pass T).pair.unacked = some (fieldN (pairOf 0 (f6 1)).payload 0 4, rc))
    ∧ ((U0.pass T).up 2 = true ∧ (U0.pass T).role = 2 ∧ (U0.pass T).pair.setAt + secT ≤ (U0.pass T).clk.now ∧ (U0.pass T).pair.unacked = some
      (8, rc) ∧ 1 ≤ rc.length ∧ rc.length ≤ 4084 ∧ (U0.pass T).bit 0x440205 0 = true ∧ (U0.pass T).bit 0x440002 0 = true)
    ∧ ((xf_0.pass T).role = 2 ∧ (xf_0.pass T).up 8 = true ∧ (xf_0.pass T).peerHeard = true ∧ 3 ≤ (xf_0.pass T).nat 0x440206 ∧ (xf_0.pass T).nat
      0x440206 ≤ 5 ∧ (xf_0.pass T).pair.tookAt ≠ some (xf_0.pass T).cairnInstant ∧ (xf_0.pass T).clk.now < (xf_0.pass T).pair.busyTill)
    ∧ ((P0.pass T).role = 2 ∧ (P0.pass T).up 8 = true ∧ (P0.pass T).peerHeard = true ∧ 3 ≤ (P0.pass T).nat 0x440206 ∧ (P0.pass T).nat 0x440206 ≤
      5 ∧ (P0.pass T).pair.tookAt ≠ some (P0.pass T).cairnInstant ∧ (P0.pass T).pair.busyTill ≤ (P0.pass T).clk.now ∧ (P0.pass T).bit 0x440205 0
      = true)
    ∧ (linkOk (S0.pass T) (pairOf 0 f2) 2 ∧ 3 ≤ (S0.pass T).role ∧ (S0.pass T).role ≤ 5 ∧ (S0.pass T).pair.slotA = none ∧ fieldN (pairOf 0
      f2).payload 4 4 = 0 ∧ cairnOf (List.drop 8 (pairOf 0 f2).payload) = some cn' ∧ cn'.gen = fieldN (pairOf 0 f2).payload 0 4 ∧ cn'.term =
      (pairOf 0 f2).term ∧ cn'.final = false)
    ∧ (linkOk (A0.pass T) (pairOf 0 f3) 3 ∧ (A0.pass T).role = 2 ∧ List.find? (fun y => decide (y.fst = fieldN (pairOf 0 f3).payload 0 4 ∧
      y.snd.fst = fieldN (pairOf 0 f3).payload 4 4)) (A0.pass T).pair.sent = some snt ∧ snt.snd.snd.snd = false ∧ (A0.pass T).pair.isolated =
      false ∧ (A0.pass T).pair.solo = false ∧ (A0.pass T).up 7 = true ∧ (A0.pass T).up 9 = true)
    ∧ (linkOk (xf_1.pass T) (pairOf 0 f3) 3 ∧ (xf_1.pass T).role = 2 ∧ List.find? (fun y => decide (y.fst = fieldN (pairOf 0 f3).payload 0 4 ∧
      y.snd.fst = fieldN (pairOf 0 f3).payload 4 4)) (xf_1.pass T).pair.sent = some sntF ∧ sntF.snd.snd.snd = true) :=
  by simp only [linkOk, some_iff]; decide +kernel

theorem witness_PairRoles :
    ((E0.pass TL).role = 1 ∧ (E0.pass TL).up 8 = true ∧ (E0.pass TL).upd.onTrial = false ∧ (E0.pass TL).peerHeard = false ∧ (E0.pass
      TL).pair.electAt + msTicks ((E0.pass TL).nat 0x440005) ≤ (E0.pass TL).clk.now)
    ∧ (linkOk (B0.pass T9) (pairOf 0 (f7 1)) 7 ∧ 1 = fieldN (pairOf 0 (f7 1)).payload 0 1 ∧ (B0.pass T9).role = 3 ∧ (B0.pass T9).pwr.hibernating
      = true ∧ (B0.pass T9).pwr.glacier = false ∧ (B0.pass T9).bit 0x205003 1 = true)
    ∧ ((xf_3.pass TL).up 2 = true ∧ (xf_3.pass TL).inPair = true ∧ (xf_3.pass TL).peerHeard = false ∧ (xf_3.pass TL).role = 3 ∧ (xf_3.pass
      TL).pair.lostAt + msTicks ((xf_3.pass TL).nat 0x440006) ≤ (xf_3.pass TL).clk.now ∧ (xf_3.pass TL).pwr.hibernating = true ∧ (xf_3.pass
      TL).pwr.glacier = false ∧ (xf_3.pass TL).bit 0x205003 1 = true)
    ∧ ((xf_4.pass T9).up 6 = true ∧ ((xf_4.pass T9).car 3).heldBack = [(4, 10, 0)] ∧ 10 + secT / 2 < (xf_4.pass T9).clk.now)
    ∧ ((xf_5.pass T9).accepts rq 17409 3 [1] (DVal.num 1) ∧ (xf_5.pass T9).role = 2 ∧ (xf_5.pass T9).pair.isolated = true ∧ (xf_5.pass
      T9).pair.solo = false ∧ (xf_5.pass T9).up 7 = true ∧ (xf_5.pass T9).up 9 = true)
    ∧ ((xf_7.pass T9).accepts rq 17409 3 [1] (DVal.num 1) ∧ ((xf_7.pass T9).role ≠ 2 ∨ (xf_7.pass T9).pair.isolated = false))
    ∧ ((xf_8.pass T9).accepts rq 17409 3 [0] (DVal.num 0) ∧ (xf_8.pass T9).pair.solo = true)
    ∧ ((P2.pass T9).accepts rq 17409 1 [1] (DVal.num 1) ∧ (P2.pass T9).role = 2 ∧ (P2.pass T9).pair.paired = true ∧ (P2.pass T9).nat 0x440206 =
      3 ∧ (P2.pass T9).nat 0x440207 = 0)
    ∧ ((xf_9.pass TL).role = 2 ∧ (xf_9.pass TL).pair.switch_ = 1 ∧ (xf_9.pass TL).pair.wokenAt + 2 * secT ≤ (xf_9.pass TL).clk.now)
    ∧ ((K0.pass TL).role = 5 ∧ (K0.pass TL).pair.waking = 1 ∧ (K0.pass TL).pair.wokenAt + 2 * secT ≤ (K0.pass TL).clk.now)
    ∧ ((xf_10.pass 20000000000000).up 8 = true ∧ (xf_10.pass 20000000000000).nat 0x440008 ≠ 0 ∧ (xf_10.pass 20000000000000).pair.drillAt +
      (xf_10.pass 20000000000000).nat 0x440008 * 3600 * secT ≤ (xf_10.pass 20000000000000).clk.now ∧ (xf_10.pass 20000000000000).role = 2 ∧
      (xf_10.pass 20000000000000).pair.paired = true ∧ (xf_10.pass 20000000000000).nat 0x440206 = 3)
    ∧ ((D0.pass T9).role = 4 ∧ (D0.pass T9).up 2 = true ∧ (D0.pass T9).pwr.failed = [] ∧ (D0.pass T9).pwr.thawFails = 0 ∧ (D0.pass T9).nat
      0x205002 = 0 ∧ (D0.pass T9).cairnToUse = some cn' ∧ (D0.pass T9).cairnFits cn' = true ∧ (D0.pass T9).servo.everValid.testBit 1 = true) :=
  by simp only [accepts_iff, Dev.admits, linkOk]; decide +kernel

end WPair

/-! Statements witnessed here: WitnessAndKeys, ImagesRun, RecoveryRuns. -/

namespace WWitness

def TL := 900000000000
def w0 := W [(0x380101,0),(0x461005,0)]
def w1 := { w0 with pwr := { w0.pwr with hibernating := true } }.setN 0x205003 15
def xg_0 : Dev := (w0.setN 0x461005 16)
def xg_2 : Dev := (w0.setN 0x202008 0)
def xg_3 : Dev := (w0.setN 0x461001 1)
def xg_5 : Dev := ((w0.setN 0x461001 1).setN 0x461005 0x17)
def w2 := (w0.setN 0x461001 1).setO 0x462001 (zeros 32) |>.setO 0x462002 (zeros 32)|>.setO 0x462003 (zeros 32)
def ky : List Byte := 7 :: zeros 31
def xg_7 : Dev := (w2.setO 0x462002 ky)
def xg_8 : Dev := (w2.setO 0x462002 ky)
def de : Desc := { seq := 3, active := 0, trial := false, starts := 0, verA := 1, verB := 0 }
def bk : Bank := { img := zeros 300, len := 300, ver := 1, sec := 2, key := 0, level := 0, schema := 0, good := true }
def bk0 : Bank := { bk with good := false }
def bk1 : Bank := { bk with img := zeros 260, good := false }
def rj : Req := { rq with peer := { pr with kind := 4 }, magic := 0x4E4A }
def u0 := { (W [(0x380101,0),(0x461001,1),(0x440201,0)]) with upd := { dev0.upd with bankA := some bk, bankB := some bk0, desc0 := some de } }
def u1 := { u0 with upd := { u0.upd with bankB := some bk1, source := some pr }}.setN 0x460101 1
def xg_9 : Dev := (u0.setN 0x460101 2)
def u2 := { u0 with upd := { u0.upd with bankB := some bk }}.setN 0x460101 3
def xg_10 : Dev := (u2.setN 0x201003 2)
def u3 := { u0 with upd := { u0.upd with bankB := some bk, desc0 := some { de with trial := true, starts := 1 }}}.setN 0x460101 4 |>.setN
  0x460001 1
def v0 := { u0 with upd := { u0.upd with recovery := true, dfuState := 2 } }
def v5 := { u0 with upd := { u0.upd with recovery := true, dfuState := 5, dfuBank := 0 } }
def v6 := { u0 with upd := { u0.upd with recovery := true, dfuState := 6, dfuBank := 0 } }
def v10 := { u0 with upd := { u0.upd with recovery := true, dfuState := 10, dfuError := 3 } }

theorem witness_WitnessAndKeys :
    ((w0.pass 10).pwr.hibernating = false ∧ (w0.pass 10).up 8 = true)
    ∧ ((w1.pass 10).pwr.hibernating = true ∧ (w1.pass 10).pwr.glacier = false ∧ (w1.pass 10).bit 0x205003 3 = true)
    ∧ (100 < 101 ∧ (xg_0.pass 10).wit.sealOff = false ∧ (xg_0.pass 10).bit 0x461005 0 = false ∧ (xg_0.pass 10).up 8 = true)
    ∧ ((xg_2.pass 10).bit 0x461005 1 = false ∧ (xg_2.pass 10).up 8 = false)
    ∧ ((xg_3.pass 10).flag 0x461001 = true)
    ∧ ((xg_5.pass 10).accepts rq 17936 6 [3] (DVal.num 3))
    ∧ ((w2.pass 10).accepts rq 17953 1 (1 :: ky) (DVal.oct (1#8 :: ky)) ∧ (w2.pass 10).keyHeld 1 = false)
    ∧ ((xg_7.pass 10).accepts rq 17953 1 (1 :: ky) (DVal.oct (1#8 :: ky)) ∧ (xg_7.pass 10).keyHeld 1 = true)
    ∧ ((xg_8.pass 10).accepts rq 17953 2 [1] (DVal.num 1) ∧ (xg_8.pass 10).keyHeld 1 = true ∧ 0 ≠ 1 ∧ (xg_8.pass 10).keyUsable 0 = true) :=
  by simp only [accepts_iff, Dev.admits]; decide +kernel

theorem witness_ImagesRun :
    ((u0.pass 10).intake rq (if rq.peer.kind = 4 then 3 else opWrite) (writePayload rq 17922 1 0 300 (zeros 300)) = Intake.execute ∧ (u0.pass
      10).writeCheck rq.peer false 17922 1 = 0 ∧ (zeros 300).length ≤ 300 ∧ 256 ≤ (zeros 300).length ∧ tableEnd (zeros 300) ≤ (zeros 300).length
      ∧ (u0.pass 10).imageReason (zeros 300) = 1 ∧ 1 ≠ 0 ∧ ((u0.pass 10).nat 0x460101 = 0 ∨ (u0.pass 10).nat 0x460101 = 2 ∨ (u0.pass 10).nat
      0x460101 = 3))
    ∧ ((u1.pass 10).intake rq (if rq.peer.kind = 4 then 3 else opWrite) (writePayload rq 17922 1 bk1.img.length bk1.len (zeros 40)) =
      Intake.execute ∧ (u1.pass 10).writeCheck rq.peer false 17922 1 = 0 ∧ (u1.pass 10).nat 0x460101 = 1 ∧ (u1.pass 10).upd.source = some
      rq.peer ∧ (u1.pass 10).upd.bank (u1.pass 10).otherBank = some bk1 ∧ bk1.img ≠ [] ∧ bk1.img.length + (zeros 40).length ≤ bk1.len)
    ∧ ((xg_9.pass 10).up 8 = true ∧ (xg_9.pass 10).nat 0x460101 = 2 ∧ (xg_9.pass 10).upd.bank (xg_9.pass 10).otherBank = some bk0 ∧ digestOk
      bk0.img = false)
    ∧ ((xg_10.pass 10).accepts rq 17922 2 (jenynOne rq [1]) (DVal.num 1) ∧ ((xg_10.pass 10).flag 0x461001 = true ∨ (xg_10.pass 10).flag 0x460003
      = true) ∧ (xg_10.pass 10).nat 0x460101 = 3 ∧ (xg_10.pass 10).upd.bank (xg_10.pass 10).otherBank = some bk ∧ (xg_10.pass 10).nat 0x460108 ≤
      bk.sec ∧ (xg_10.pass 10).levelApart bk.level = false ∧ ((xg_10.pass 10).nat 0x201003 = 2 ∨ (xg_10.pass 10).nat 0x201003 = 3) ∧ (xg_10.pass
      10).pwr.due = none)
    ∧ ((u2.pass 10).accepts rq 17922 2 (jenynOne rq [1]) (DVal.num 1) ∧ ((u2.pass 10).flag 0x461001 = true ∨ (u2.pass 10).flag 0x460003 = true)
      ∧ (u2.pass 10).nat 0x460101 = 3 ∧ (u2.pass 10).upd.bank (u2.pass 10).otherBank = some bk ∧ (u2.pass 10).nat 0x460108 ≤ bk.sec ∧ (u2.pass
      10).levelApart bk.level = false ∧ (u2.pass 10).nat 0x201003 ≠ 2 ∧ (u2.pass 10).nat 0x201003 ≠ 3 ∧ (u2.pass 10).bankOk (u2.pass
      10).otherBank = true)
    ∧ ((u3.pass TL).up 8 = true ∧ (u3.pass TL).nat 0x460001 = 1 ∧ (u3.pass TL).upd.trialAt + (u3.pass TL).nat 0x460002 * secT ≤ (u3.pass
      TL).clk.now ∧ (u3.pass TL).nat 0x460101 = 4 ∧ (u3.pass TL).upd.bank (u3.pass TL).upd.running = some bk ∧ (u3.pass TL).role = 0)
    ∧ ((u2.pass 10).accepts rq 17922 4 (jenynOne rq [1]) (DVal.num 1) ∧ (u2.pass 10).pwr.due = none ∧ ((u2.pass 10).nat 0x460101 = 1 ∨ (u2.pass
      10).nat 0x460101 = 2 ∨ (u2.pass 10).nat 0x460101 = 3))
    ∧ (((u3.pass TL).nat 0x460101 = 4 ∨ (u3.pass TL).nat 0x460101 = 5) ∧ (u3.pass TL).bankOk (u3.pass TL).otherBank = true ∧ (u3.pass TL).up 8 =
      true ∧ (u3.pass TL).pwr.thawEnd + 600 * secT ≤ (u3.pass TL).clk.now)
    ∧ (rj.peer.kind = 4 ∧ (u0.pass 10).intake rj 1 [] = Intake.execute) :=
  by simp only [accepts_iff, Dev.admits]; decide +kernel

theorem witness_RecoveryRuns :
    ((u0.pass TL).up 2 = true ∧ 1 ≤ (u0.pass TL).pwr.kind ∧ (u0.pass TL).pwr.kind ≤ 5 ∧ (u0.pass TL).pwr.hibernating = false ∧ (u0.pass
      TL).pwr.thawAt + 5 * secT ≤ (u0.pass TL).clk.now)
    ∧ ((v5.pass 10).upd.recovery = true ∧ (v5.pass 10).upd.dfuState = 5 ∧ (v5.pass 10).upd.bank (v5.pass 10).upd.dfuBank = some bk ∧
      bk.img.length = bk.len)
    ∧ ((v6.pass 10).upd.recovery = true ∧ ((v6.pass 10).upd.dfuState = 6 ∨ (v6.pass 10).upd.dfuState = 7) ∧ (v6.pass 10).upd.bank (v6.pass
      10).upd.dfuBank = some bk ∧ digestOk bk.img = false)
    ∧ ((v10.pass 10).upd.recovery = true ∧ (v10.pass 10).upd.dfuState = 10)
    ∧ ((v0.pass 10).upd.recovery = true ∧ (v0.pass 10).upd.dfuState ≠ 10 ∧ (v0.pass 10).upd.dfuState ≠ 7) :=
  by decide +kernel

end WWitness

/-! Statements witnessed here: ImagesRun, RecoveryRuns. -/

namespace WImages

def pubK : List Byte := leBytes 32 0x2b8886f1b73032756099534de3fdd00600b87a39f1b951d8e3ab00d892276cea
def img0 : List Byte := leBytes 2 0x4D49 ++ [1, 2] ++ leBytes 4 4096 ++ leBytes 4 0x01020003 ++ [0, 1, 1, 0xFF] ++ zeros 48 ++ leBytes 64
  0x6bb70db0d74f673c0b819232d22539dcb235da6b36df3af350131f875032755ed42027b2cc03073998d1150e5bc52f75b1c4b5902e67c3ad21bbca1eeb45a936 ++ leBytes
  64 0x87c291338181dfc42b6a8be875d0390ed1f4549538dae3288bac64807c5ad14ad5d6ea2305d978ae128dfe39ec01c7249ff53aa47c8c4e2928848a83330b44d ++ zeros
  60 ++ leBytes 4 0x4a5fd472 ++ [1, 0, 0, 0] ++ leBytes 4 4096 ++ zeros 8 ++ [2, 0, 0, 0] ++ leBytes 4 4096 ++ zeros 8
def I0 := ((W [(0x460101, 0), (0x461001, 1)]).setO 0x462002 pubK)
def ig : List Byte := zeros 64 ++ leBytes 64
  0x3eda27f97a3238a5817a4147bd31b9632fec7e87d21883ffb0f2855d3cd1d047cee96cd321a9f483dc15570b05e420d607806dd6502854f1bdb8ef7e35e183cf ++ zeros
  128
def bk (b : List Byte) : Bank := { bankOf b with len := 256 }
def I1 := { W [(0x460101, 2)] with upd := { dev0.upd with bankB := some (bk ig) } }
def R0 := { I0 with upd := { dev0.upd with recovery := true, dfuState := 2 } }
def R1 := { I0 with upd := { dev0.upd with recovery := true, dfuState := 7, bankB := some (bk ig), dfuBank := 1 } }

theorem witness_ImagesRun :
    ((I0.pass 5).intake rq (if rq.peer.kind = 4 then 3 else opWrite) (writePayload rq 17922 1 0 4096 img0) = Intake.execute ∧ (I0.pass
      5).writeCheck rq.peer false 17922 1 = 0 ∧ img0.length ≤ 4096 ∧ 256 ≤ img0.length ∧ tableEnd img0 ≤ img0.length ∧ ((I0.pass 5).nat 0x460101
      = 0 ∨ (I0.pass 5).nat 0x460101 = 2 ∨ (I0.pass 5).nat 0x460101 = 3) ∧ (I0.pass 5).imageReason img0 = 0 ∧ (I0.pass 5).levelApart (fieldN
      img0 14 1) = false ∧ 4096 = fieldN img0 4 4)
    ∧ ((I1.pass 5).up 8 = true ∧ (I1.pass 5).nat 0x460101 = 2 ∧ (I1.pass 5).upd.bank (I1.pass 5).otherBank = some (bk ig) ∧ digestOk (bk ig).img
      = true) :=
  by decide +kernel

theorem witness_RecoveryRuns :
    ((R0.pass 5).upd.recovery = true ∧ (R0.pass 5).upd.dfuState = 2 ∧ 256 ≤ img0.length ∧ img0.length ≤ 4096 ∧ tableEnd img0 ≤ img0.length ∧
      (R0.pass 5).imageReason img0 = 0 ∧ img0.length ≤ fieldN img0 4 4)
    ∧ ((R1.pass 5).upd.recovery = true ∧ ((R1.pass 5).upd.dfuState = 6 ∨ (R1.pass 5).upd.dfuState = 7) ∧ (R1.pass 5).upd.bank (R1.pass
      5).upd.dfuBank = some (bk ig) ∧ digestOk (bk ig).img = true ∧ (R1.pass 5).bit 0x462005 (bk ig).key = false) :=
  by decide +kernel

end WImages

/-! Statements witnessed here: CairnReadsBack, FramesReadBack. -/

namespace WBytes

def c1 : Cairn :=
  { unit := 1, final := true, term := 77, gen := 0xFFFFFFFF, setGen := 3, stopSeq := 9, woState := 2, level := 1, causes := 0xABCD, instant := 1234567890123456789, steps := 5, timeSt := 3, slots := [{slot := 3, state := 4, vehicle := 9999, e := -5, n := 6, u := -70000, ve := -3, vn := 2, vu := 32767, sigE := 1, sigN := 2, sigU := 65535, base := 999999999999, ints := [{sys := 1, band := 2, sat := 3, pivot := 4, n := -9, sd := -3/4}]}], paths := [{slot := 1, state := 2, task := 3, grant := 4, chain := -5, speed := 6, accel := -7, auth := 8, rest := -9, arcs := [(3,true),(65535,false)]}], holds := [{path := 3, early := true, item := {stop := 5, start := 6, group := 7, arc := 8, kind := 1, seg := 2, rsv := 3}}], tasks := [{num := 7, record := (List.range 48).map (BitVec.ofNat 8), state := 1, slot := 2, reason := 3, attempts := 4, cost := 5}] }

def q1 : Req :=
  { peer := {kind := 2, addr := 7}, reqId := 0xFFFFFFF0, arrPort := 3, dstUdp := 7, magic := 3, version := 250, status := 65535, more := true, resp := true, rsv := 2^30-5, lenOff := -2}
def q2 : Req :=
  { peer := {kind := 4}, reqId := 0xFFFFFFF0, magic := 3, version := 250, status := 65535, resp := true, rsv := 2^15-5, lenOff := 70000}
def x1 : Pkt := { dst := 0xFFFFFFFFFF01, src := 3, tci := none, body := (List.range 48).map (BitVec.ofNat 8), len := 0 }

theorem witness_CairnReadsBack :
    cairnFieldsFit c1 ∧ (cairnBytes c1).length ≤ 0x380000 :=
  by simp only [cairnFieldsFit]; decide +kernel

theorem witness_FramesReadBack :
    (q1.short = false ∧ q1.reqId < 2 ^ 32 ∧ q1.magic < 2 ^ 16 ∧ q1.version < 2 ^ 8 ∧ q1.status < 2 ^ 16 ∧ 200 < 2 ^ 8 ∧ 0 ≤ ↑[1, 2, 3, 4,
      5].length + q1.lenOff ∧ q1.peer.kind ≠ 4 ∧ q1.rsv < 2 ^ 30 ∧ ↑[1, 2, 3, 4, 5].length + q1.lenOff < 2 ^ 16)
    ∧ (q2.short = false ∧ q2.reqId < 2 ^ 32 ∧ q2.magic < 2 ^ 16 ∧ q2.version < 2 ^ 8 ∧ q2.status < 2 ^ 16 ∧ 200 < 2 ^ 8 ∧ 0 ≤ ↑[1, 2, 3, 4,
      5].length + q2.lenOff ∧ q2.peer = { kind := 4 } ∧ q2.arrPort = 0 ∧ q2.dstUdp = 30511 ∧ q2.more = false ∧ q2.rsv < 2 ^ 15 ∧ ↑[1, 2, 3, 4,
      5].length + q2.lenOff < 2 ^ 32)
    ∧ (3 < 2 ^ 8 ∧ 255 < 2 ^ 8 ∧ 4294967295 < 2 ^ 32 ∧ 77 < 2 ^ 32 ∧ [1, 2, 3, 4, 5, 6, 7, 8].length ≤ 4096)
    ∧ (7 < 2 ^ 8 ∧ 3 < 2 ^ 8 ∧ 4000000000 < 2 ^ 32 ∧ 4294967295 < 2 ^ 32 ∧ 77 < 2 ^ 32 ∧ 255 < 2 ^ 8 ∧ (zeros 20).length ≤ 1424)
    ∧ (x1.dst < 2 ^ 48 ∧ x1.src < 2 ^ 48 ∧ 48 ≤ x1.body.length ∧ beNat (List.take 2 x1.body) ≠ 33024)
    ∧ (8 < 2 ^ 8 ∧ 11 < 2 ^ 8 ∧ 4000000000 < 2 ^ 32 ∧ 4294967295 < 2 ^ 32 ∧ 77 < 2 ^ 32 ∧ 255 < 2 ^ 8 ∧ (zeros 16).length ≤ 1424) :=
  by decide +kernel

end WBytes

end Slice0Tests
end

section
/-!
PROOFS. A live write of an entry of 1000 to 1FFF (R37): the payload of a WRITE as it is read back, the request that passes its checks, and
what the write changes.
-/
namespace Sys2Proof.Machine

/-! Keys. -/

theorem keyOf_div (idx sub : Nat) (hs : sub < 256) : keyOf idx sub / 256 = idx := by
  show (idx * 256 + sub) / 256 = idx
  omega

/-- The key of an entry of one index is none of the keys of another. -/
theorem keyOf_ne (idx sub n : Nat) (hs : sub < 256) (hn : idx ≠ n / 256) : keyOf idx sub ≠ n :=
  fun h => hn (by rw [← h, keyOf_div idx sub hs])

/-! Reading the request. -/

/-- The payload of a Ledger WRITE or STAGE is read as it was written (R58). -/
theorem writeReq_writePayload (q : Req) (idx sub off total : Nat) (b : List Byte) (hk : q.peer.kind ≠ 4) (hi : idx < 2 ^ 16)
    (hs : sub < 2 ^ 8) (ho : off < 2 ^ 32) (ht : total < 2 ^ 32) :
    writeReq (writePayload q idx sub off total b) = some { idx := idx, sub := sub, off := off, total := total, data := b } := by
  simp [writeReq, writePayload, hk, fieldN, leBytes, zeros, leNat]
  omega

/-- A WRITE whose payload fits is a write request (R58). -/
theorem Dev.ledgerBody_write (d : Dev) (q : Req) (p : List Byte) (m : Samples) (w : WriteReq) (h : writeReq p = some w) :
    d.ledgerBody q opWrite p m = d.writeRequest q false w m := by
  unfold Dev.ledgerBody opWrite
  simp only [h]

/-- A WRITE that its intake passes, by Ledger or USDO, is executed with the fields that its payload spells (R58, R74). -/
theorem registerWrite_of_execute (d : Dev) (q : Req) (idx sub : Nat) (b : List Byte) (m : Samples) (hk : q.peer.kind ≠ 4)
    (hx : d.intake q opWrite (writePayload q idx sub 0 b.length b) = .execute) (hi : idx < 2 ^ 16) (hs : sub < 2 ^ 8)
    (hb : b.length < 2 ^ 32) :
    registerWrite q opWrite (writePayload q idx sub 0 b.length b) m d
      = ((d.touch q.peer).writeRequest q false { idx := idx, sub := sub, off := 0, total := b.length, data := b } m).settle.doDue := by
  have hop : hasOp q opWrite = true := by simp [hasOp]
  have hw := writeReq_writePayload q idx sub 0 b.length b hk hi hs (by decide) hb
  unfold registerWrite Dev.serve
  simp only [hop, hx, Bool.not_true, Bool.false_eq_true, if_false, if_neg hk, Dev.ledgerBody_write _ q _ m _ hw]

/-! What a live write does. -/

/-- A WRITE of an index below 2000 is a live write of that index (R28). -/
theorem writeTarget_below_2000 (idx : Nat) (hi : idx < 0x2000) : writeTarget false idx = (idx, false) := by
  have htwin : isTwin idx = false := by simp [isTwin]; omega
  simp [writeTarget, baseIdx, htwin]

/-- A live write below 2000 puts the value in force and leaves it for the settings store (R37, R49). -/
theorem Dev.liveWrite_below_2000 (d : Dev) (q : Req) (m : Samples) (idx sub : Nat) (v : DVal) (hi : idx < 0x2000) (hs : sub < 256) :
    d.liveWrite q m (keyOf idx sub) v
      = ({ d.put (keyOf idx sub) v with nvDue := tabPut d.nvDue (keyOf idx sub) v }, 0) := by
  have hkey : keyOf idx sub ≠ 0x201001 := keyOf_ne idx sub _ hs (by omega)
  unfold Dev.liveWrite
  simp only [keyOf_div idx sub hs, if_neg hkey, if_neg (show idx ≠ 0x2010 by omega), if_neg (show idx ≠ 0x2030 by omega), if_pos hi]
  rfl

/-- The device after a live write of a whole value below 2000, but for the answer: the parts held for the peer are gone (R60), the value is in
force (R37) and waits for the settings store (R49). -/
def Dev.written (d : Dev) (p : Peer) (k : Key) (v : DVal) : Dev :=
  { (d.dropParts p).put k v with nvDue := tabPut d.nvDue k v }

/-- A whole value below 2000 that passes checks 1 to 10 of R572 is written, and every byte accepted (R58). -/
theorem Dev.writeRequest_below_2000 (d : Dev) (q : Req) (idx sub : Nat) (b : List Byte) (m : Samples) (v : DVal) (hi : idx < 0x2000)
    (hs : sub < 256) (hc : d.writeCheck q.peer false idx sub = 0) (hv : valueOf idx sub b = .ok v)
    (hp : ∀ x ∈ d.led.parts, x.peer = q.peer → x.key = keyOf idx sub → x.staged = true) :
    d.writeRequest q false { idx := idx, sub := sub, off := 0, total := b.length, data := b } m
      = (d.written q.peer (keyOf idx sub) v).answer q opWrite 0 [(idx : Int), sub, b.length] := by
  have htarget := writeTarget_below_2000 idx hi
  have hkey : keyOf idx sub ≠ 0x460201 := keyOf_ne idx sub _ hs (by omega)
  unfold Dev.writeRequest
  simp [hc, htarget, hkey, Dev.takePart_whole d q.peer (keyOf idx sub) b hp, Dev.wholeValue, hv,
    Dev.liveWrite_below_2000 _ q m idx sub v hi hs]
  rfl

/-! What follows an answer. -/

/-- With no activation waiting and nothing due, nothing follows an answer (R463, R521). -/
theorem Dev.settle_doDue (d : Dev) (hw : d.upd.waiting = false) (hd : d.pwr.due = none) : d.settle.doDue = d := by
  have hs : d.settle = d := if_neg (by simp [hw])
  rw [hs, Dev.doDue, hd]

/-! What the write leaves alone. -/

/-- A request heard changes the change set alone (R40). -/
theorem Dev.touch_cs (d : Dev) (p : Peer) : ∃ c, d.touch p = { d with cs := c } := by
  unfold Dev.touch
  split
  · exact ⟨_, rfl⟩
  · exact ⟨d.cs, rfl⟩

theorem Dev.get_written (d : Dev) (p : Peer) (k j : Key) (v : DVal) :
    (d.written p k v).get j = if k = j then v else d.get j := Dev.get_put (d.dropParts p) k j v

/-- The entry that holds the pending bit of a source is the router's. -/
theorem isRouter_pending (n : Nat) (hn : n < 512) : isRouter (evKey 0x4815 n) = true := by
  have h : (0x4815 * 256 + (n / 32 + 1)) / 256 = 0x4815 := by omega
  simp [isRouter, evKey, h]

/-- A device whose dictionary differs in one entry outside the router has raised nothing. -/
theorem raises_nil_of_get (d e : Dev) (k : Key) (v : DVal) (hk : isRouter k = false)
    (hget : ∀ j, e.get j = if k = j then v else d.get j) : Raises d e [] := by
  intro n hn
  have hne : k ≠ evKey 0x4815 n := by
    rintro rfl
    exact absurd (isRouter_pending n hn) (by simp [hk])
  simp [Dev.pendingEv, Dev.evBit, Dev.bit, Dev.nat, Dev.num, hget, hne]

/-- A live write, heard, made and answered, changes its entry, the change set's last request, what Ledger keeps for the peer and what waits for
the settings store, and nothing else. -/
theorem Dev.only_written (d : Dev) (c : ChangeSet) (q : Req) (k : Key) (v : DVal) (flds : List Int) (hk : isRouter k = false) :
    let e := (({ d with cs := c } : Dev).written q.peer k v).answer q opWrite 0 flds
    Only d e [k] [] { e with cs := d.cs, led := d.led, nvDue := d.nvDue } := by
  intro e
  have hget : ∀ j, e.get j = if k = j then v else d.get j := fun j => Dev.get_written { d with cs := c } q.peer k j v
  have hkeeps : Keeps d e [k] := fun j hj _ => by rw [hget, if_neg (fun h => hj (by simp [h]))]
  exact ⟨hkeeps, raises_nil_of_get d e k v hk hget, rfl, fun _ => rfl, rfl⟩

/-- An entry of 1000 to 1FFF has no twin: the index 8000 above it has no entries (R37). -/
theorem writeCheck_twin_of_1000 (d : Dev) (p : Peer) (idx sub : Nat) (hlo : 0x1000 ≤ idx) (hhi : idx < 0x2000) :
    d.writeCheck p false (idx + 0x8000) sub = 3 := by
  have htwin : isTwin (idx + 0x8000) = false := by simp [isTwin]; omega
  have hpage : dictPage ((idx + 0x8000) / 256) = [] := by
    have hlo : 0x90 ≤ (idx + 0x8000) / 256 := by omega
    have hhi : (idx + 0x8000) / 256 < 0xA0 := by omega
    generalize (idx + 0x8000) / 256 = page at hlo hhi
    unfold dictPage
    split
    case h_24 => exact if_neg (by omega)
    all_goals omega
  have hrows : rowsAt (idx + 0x8000) = [] := by rw [rowsAt, hpage, List.filter_nil]
  unfold Dev.writeCheck
  simp [baseIdx, htwin, hrows]

/-- Settles O7: the request is executed as its payload spells it, and the write of an index below 2000 is a change of that one entry. -/
theorem liveWrite : Obligations.LiveWrite := by
  refine ⟨fun s dt q idx sub b m v ht hk hi hs hb hv hw hdue => ?_, writeCheck_twin_of_1000⟩
  obtain ⟨hx, hcheck, hparts⟩ := ht
  have hp : ∀ x ∈ s.dev.led.parts, x.peer = q.peer → x.key = keyOf idx sub → x.staged = true := by
    simpa [writeTarget_below_2000 idx hi] using hparts
  have hrouter : isRouter (keyOf idx sub) = false := by
    have hidx : idx ≠ 0x4815 := by omega
    simp [isRouter, keyOf_div idx sub hs, keyOf_ne idx sub 0x481800 hs (by omega), hidx]
  obtain ⟨c, hc⟩ := Dev.touch_cs (s.dev.pass dt) q.peer
  let d : Dev := { s.dev.pass dt with cs := c }
  let e := (d.written q.peer (keyOf idx sub) v).answer q opWrite 0 [(idx : Int), sub, b.length]
  have hcheckd : d.writeCheck q.peer false idx sub = 0 :=
    (congrArg (·.writeCheck q.peer false idx sub) hc).symm.trans ((Dev.writeCheck_touch (s.dev.pass dt) q.peer _ _ _ _).trans hcheck)
  have hrun : registerWrite q opWrite (writePayload q idx sub 0 b.length b) m (s.dev.pass dt) = e := by
    rw [registerWrite_of_execute (s.dev.pass dt) q idx sub b m hk hx (by omega) hs (by omega), hc,
      Dev.writeRequest_below_2000 d q idx sub b m v hi hs hcheckd hv hp]
    exact Dev.settle_doDue e hw hdue
  refine ⟨e, by rw [← hrun]; rfl, Dev.get_put_self _ _ _, tabGet_tabPut_self _ _ _, rfl, ?_⟩
  exact Dev.only_written (s.dev.pass dt) c q (keyOf idx sub) v _ hrouter

end Sys2Proof.Machine
end

section
/-!
PROOFS. The owner's timeout while a check is running: the event source that it raises may send an emergency message, so that the answer to the
COMMIT is not all that leaves the device (R40, R72).
-/
namespace Sys2Proof.Machine

/-- The COMMIT whose check is running: mode 2 of a Ledger peer. -/
def waitingCommit : CommitReq := { peer := {}, reqId := 1, mode := 2, instant := 0, asWrite := false, at_ := 0 }

/-- A device that checks the change set of a silent owner. Bit 13 of 4814:01 asks for an emergency message of event source 13 (R66), and CAN FD
port 0 is operational (R72). -/
def checkingWithEmcy : Dev :=
  let d : Dev := { dev0 with
    cs := { noSet with owner := some waitingCommit.peer, req := some waitingCommit }
    led := { dev0.led with waiting := [(waitingCommit.peer, waitingCommit.reqId)] }
    can0 := { dev0.can0 with nmt := .operational } }
  (d.setN 0x481401 (2 ^ 13 : Nat)).csStatus 2

/-- The owner's timeout there answers the COMMIT, and then sends the emergency message of event source 13. -/
theorem ownerTimeout_checkingWithEmcy_sends :
    (ownerTimeout (checkingWithEmcy.pass (30 * secT))).out.map (·.kind) = [.emcy, .ledgerReply] := by
  decide +kernel

/-- What a run of the owner's timeout has is what the device that it leaves has. -/
theorem of_runs_changesetOwnerTimeout {dt : Nat} {s : State} {P : Dev → Prop} (h : Runs (.changesetOwnerTimeout dt) s P) :
    P (ownerTimeout (s.dev.pass dt)) := by
  obtain ⟨d, hd, hP⟩ := h
  injection hd with hs
  have hdev : ownerTimeout (s.dev.pass dt) = d := congrArg State.dev hs
  rwa [hdev]

/-- Refutes O8, in its last clause: with source 13 set in 4814 and a CAN FD port operational, the timeout of the owner of a change set whose check
is running sends an emergency message too, while the clause has the answer to the COMMIT be all that leaves. -/
theorem not_abortDiscards : ¬ Obligations.AbortDiscards := by
  rintro ⟨-, -, -, hcheck⟩
  obtain ⟨-, -, hout, -⟩ := of_runs_changesetOwnerTimeout (hcheck { State.reset with dev := checkingWithEmcy } (30 * secT)
    waitingCommit (by decide +kernel) rfl rfl rfl (by decide +kernel))
  have hkinds := congrArg (List.map (·.kind)) hout
  exact absurd (ownerTimeout_checkingWithEmcy_sends.symm.trans hkinds) (by decide +kernel)

end Sys2Proof.Machine
end
